-- ==== Sys2Proof/Word.lean ====
section
/-! DEFINITION. The word and byte types of the control bus (R6: control registers are 32 bits wide, little-endian). -/

namespace Sys2Proof

/-- A control-bus word (R6). -/
abbrev Word := BitVec 32

/-- A byte of a memory, of a packet or of an Ethernet frame. -/
abbrev Byte := BitVec 8

end Sys2Proof
end

