-- ==== Sys2Proof/Machine/Bits.lean ====
section
/-! DEFINITION. Bit-field, sign, saturation, byte-order and CRC helpers used by every block. -/

namespace Sys2Proof.Machine

/-- The `w`-bit field of `v` whose lowest bit is bit `lo`. -/
def fld (v lo w : Nat) : Nat := v / 2 ^ lo % 2 ^ w

/-- Bit `i` of `v`. -/
def bitOf (v i : Nat) : Bool := v / 2 ^ i % 2 == 1

/-- `v` with the `w`-bit field at `lo` replaced by `x` modulo 2^w. -/
def setFld (v lo w x : Nat) : Nat := v - (v / 2 ^ lo % 2 ^ w) * 2 ^ lo + (x % 2 ^ w) * 2 ^ lo

/-- 1 for true, 0 for false. -/
def b2n (b : Bool) : Nat := if b then 1 else 0

/-- The `w`-bit two's complement value of `v`. -/
def sx (w v : Nat) : Int := if v % 2 ^ w < 2 ^ (w - 1) then (v % 2 ^ w : Nat) else ((v % 2 ^ w : Nat) : Int) - 2 ^ w

/-- The low `w` bits of the two's complement form of `i`. -/
def tc (w : Nat) (i : Int) : Nat := (i % (2 ^ w : Nat)).toNat

/-- `i` clamped to the range `lo` to `hi`. -/
def clampInt (lo hi i : Int) : Int := if i < lo then lo else if hi < i then hi else i

/-- `i` clamped to the range 0 to `hi`. -/
def clampNat (hi : Nat) (i : Int) : Nat := if i < 0 then 0 else if (hi : Int) < i then hi else i.toNat

/-- `i / 2^k` rounded to nearest, ties upwards. -/
def rshr (i : Int) (k : Nat) : Int := if k = 0 then i else (i + 2 ^ (k - 1)) / 2 ^ k

/-- The big-endian value of a list of bytes (R7). -/
def be (bs : List Byte) : Nat := bs.foldl (fun a b => a * 256 + b.toNat) 0

/-- The little-endian value of a list of bytes (R6). -/
def le : List Byte → Nat
  | [] => 0
  | b :: rest => b.toNat + 256 * le rest

/-- `n` bytes of `v`, most significant first (R7). -/
def beBytes : Nat → Nat → List Byte
  | 0, _ => []
  | n + 1, v => BitVec.ofNat 8 (v / 256 ^ n) :: beBytes n v

/-- `n` bytes of `v`, least significant first (R6). -/
def leBytes : Nat → Nat → List Byte
  | 0, _ => []
  | n + 1, v => BitVec.ofNat 8 v :: leBytes n (v / 256)

/-- Bytes `a` to `a + n - 1` of a list. -/
def slice {α : Type} (l : List α) (a n : Nat) : List α := (l.drop a).take n

/-- Eight steps of a reflected CRC register. -/
def crcStep8 (poly : Nat) : Nat → Nat → Nat
  | 0, r => r
  | k + 1, r => crcStep8 poly k (if r % 2 = 1 then (r / 2) ^^^ poly else r / 2)

/-- The reflected CRC-32 family: initial value and final XOR 0xFFFF_FFFF, polynomial given reflected. -/
def crc32With (poly : Nat) (bs : List Byte) : Nat :=
  (bs.foldl (fun r b => crcStep8 poly 8 (r ^^^ b.toNat)) 0xFFFFFFFF) ^^^ 0xFFFFFFFF

/-- CRC-32 of R49 (0x04C1_1DB7, reflected input and output). -/
def crc32 (bs : List Byte) : Nat := crc32With 0xEDB88320 bs

/-- CRC-32C (Castagnoli, 0x1EDC_6F41, reflected input and output). -/
def crc32c (bs : List Byte) : Nat := crc32With 0x82F63B78 bs

/-- Steps of the CRC-8 register of R49 (0x07, not reflected). -/
def crc8Step : Nat → Nat → Nat
  | 0, r => r
  | k + 1, r => crc8Step k (if 128 ≤ r then ((r * 2) % 256) ^^^ 7 else r * 2)

/-- The header CRC-8 of R49. -/
def crc8 (bs : List Byte) : Nat := bs.foldl (fun r b => crc8Step 8 (r ^^^ b.toNat)) 0

/-- The element at `i`, or `d` past the end. -/
def nth {α : Type} (d : α) (l : List α) (i : Nat) : α := l.getD i d

/-- `l` with `v` at `i`, for an `i` in range. -/
def setNth {α : Type} (l : List α) (i : Nat) (v : α) : List α := l.set i v

/-- The numbers 0 to n - 1. -/
def upto (n : Nat) : List Nat := List.range n

/-- A sum of bits: bit `i` of the result is `f i`, for i below `n`. -/
def bitsOf (n : Nat) (f : Nat → Bool) : Nat := (upto n).foldl (fun x i => x + 2 ^ i * b2n (f i)) 0

end Sys2Proof.Machine
end

