-- ==== Sys2Proof/Machine/Bundle.lean ====
section
/-! DEFINITION. The fields of an engine bundle (R218-R228). -/

namespace Sys2Proof.Machine

/-- FMT of a bundle (R218). -/
def bundleFmt (b : Nat) : Nat := fld b 62 2

/-- The LX slot's operation code is defined (R222). -/
def lxDefined (x : Nat) : Bool := decide (x ≤ 5) || x == 8 || x == 9

/-- The SL slot's operation code is defined (R224). -/
def slDefined (x : Nat) : Bool :=
  decide (x ≤ 0x0A) || (decide (0x10 ≤ x) && decide (x ≤ 0x14)) || (decide (0x18 ≤ x) && decide (x ≤ 0x1B)) || x == 0x1F

/-- The extended operation code is defined (R228). -/
def xopDefined (x : Nat) : Bool := decide (x ≤ 4) || (decide (0x20 ≤ x) && decide (x ≤ 0x2D))

/-- A slot of the bundle holds a reserved operation code (R219). -/
def bundleReserved (b : Nat) : Bool :=
  match bundleFmt b with
  | 0 => false
  | 1 => !slDefined (fld b 23 6)
  | 2 => !lxDefined (fld b 18 4)
  | _ => !xopDefined (fld b 56 6)

end Sys2Proof.Machine
end

