-- ==== Sys2Proof/Machine/Map.lean ====
section
/-! DEFINITION. Sparse stores in one canonical form: a list of (key, value) pairs with keys strictly rising and no entry
equal to what an unlisted key reads as. Register files, memories and the per-instance state of the blocks use it. -/

namespace Sys2Proof.Machine

/-- A sparse store: an unlisted key reads as the default that each operation takes as its first argument. -/
abbrev Map (α : Type) := List (Nat × α)

/-- The value at key `k`; `d` where the key is not listed. -/
def Map.get {α : Type} (d : α) (m : Map α) (k : Nat) : α :=
  match m with
  | [] => d
  | (k', v) :: rest => if k = k' then v else Map.get d rest k

/-- `m` with every entry at `k` removed. -/
def Map.erase {α : Type} (m : Map α) (k : Nat) : Map α := m.filter (fun p => !(p.1 == k))

/-- `m` with the entry (k, v) placed by its key. -/
def Map.insert {α : Type} (m : Map α) (k : Nat) (v : α) : Map α :=
  match m with
  | [] => [(k, v)]
  | (k', v') :: rest =>
    if k < k' then (k, v) :: (k', v') :: rest
    else if k = k' then (k, v) :: rest
    else (k', v') :: Map.insert rest k v

/-- `m` with `v` at `k`, in canonical form: the default is stored by removing the entry. -/
def Map.set {α : Type} [DecidableEq α] (d : α) (m : Map α) (k : Nat) (v : α) : Map α :=
  if v = d then Map.erase m k else Map.insert (Map.erase m k) k v

/-- `m` with the keys from `lo` to `hi - 1` removed: they read as the default again. -/
def Map.clear {α : Type} (m : Map α) (lo hi : Nat) : Map α := m.filter (fun p => !(lo ≤ p.1 && p.1 < hi))

/-- The canonical form: keys strictly rising, no entry equal to the default. -/
def Map.wf {α : Type} [DecidableEq α] (d : α) (m : Map α) : Bool :=
  match m with
  | [] => true
  | (k, v) :: rest => decide (v ≠ d) && rest.all (fun p => decide (k < p.1)) && Map.wf d rest

/-- A byte-addressed memory. -/
abbrev Memory := List Host.Cell

/-- What a byte of RAM reads as before anything has written it. DESIGN CHOICE (log entry 3): the spec gives no
contents; the model names 0. -/
def ramDefault : Byte := 0

/-- The canonical form of a memory whose unlisted bytes read as `ramDefault`. -/
abbrev Memory.wf (m : Memory) : Bool := Map.wf ramDefault m

/-- One byte of RAM. -/
def Memory.readByte (m : Memory) (a : Nat) : Byte := Map.get ramDefault m a

/-- RAM with one byte written. -/
def Memory.writeByte (m : Memory) (a : Nat) (b : Byte) : Memory := Map.set ramDefault m a b

/-- `n` bytes of RAM from `a` up. -/
def Memory.read (m : Memory) (a : Nat) : Nat → List Byte
  | 0 => []
  | n + 1 => Memory.readByte m a :: Memory.read m (a + 1) n

/-- RAM with the bytes `bs` written from `a` up. -/
def Memory.write (m : Memory) (a : Nat) (bs : List Byte) : Memory :=
  match bs with
  | [] => m
  | b :: rest => Memory.write (Memory.writeByte m a b) (a + 1) rest

/-- The little-endian word at `a` (R6). -/
def Memory.readWord (m : Memory) (a : Nat) : Nat :=
  (Memory.readByte m a).toNat + 256 * (Memory.readByte m (a + 1)).toNat
    + 65536 * (Memory.readByte m (a + 2)).toNat + 16777216 * (Memory.readByte m (a + 3)).toNat

/-- RAM with the little-endian word `v` at `a` (R6). -/
def Memory.writeWord (m : Memory) (a : Nat) (v : Nat) : Memory :=
  Memory.write m a [BitVec.ofNat 8 v, BitVec.ofNat 8 (v / 256), BitVec.ofNat 8 (v / 65536), BitVec.ofNat 8 (v / 16777216)]

end Sys2Proof.Machine
end

