-- ==== Sys2Proof/Machine/BistState.lean ====
section
/-! DEFINITION. The state of Collimation beyond its registers (spec/14_self_test_and_repair.md). -/

namespace Sys2Proof.Machine

/-- A memory macro that self-test tests (R451): a CFS data macro by bank and index, a CFS pointer macro with the cells whose entries lie
in it, as the first and how many, and the macros of a cluster, of a front end, of Garnet's draw memory and of the MAC transmit buffer. -/
inductive MacroId where
  | cfs (bank : Fin 16) (i : Nat)
  | ptr (first cells : Nat)
  | cluster (k : Fin 8) (i : Nat)
  | frontEnd (n : Fin 18) (i : Nat)
  | draw (i : Nat)
  | mac (i : Nat)
deriving DecidableEq, Repr

/-- What the test of a macro yields (R445, R452, R453): its addresses, the march steps applied, the fault record, which is the faulty
rows and column groups that fused repair leaves, and whether the re-run finds them repaired. -/
structure MacroTest where
  id : MacroId
  words : Nat
  count : Nat
  rows : List Nat := []
  cols : List Nat := []
  rerun : Bool := true
deriving DecidableEq, Repr

/-- A unit under test: the tests still to be made, the verdict of a memory test that has been made, and a supply warning during them
(R447, R464). -/
structure UnitTest where
  unit : Nat
  logic : Bool
  mem : Bool
  memV : Option Nat := none
  supply : Bool := false
  /-- The core cycle at which its logic test began. -/
  at_ : Option Nat := none
deriving DecidableEq, Repr

/-- Collimation and the key store. -/
structure BistState where
  /-- The units under test, at most two (R461). -/
  testing : List UnitTest := []
  /-- Units still to test at key-off, in the order of R461. -/
  order : List Nat := []
  /-- Zeroisation has failed once (R458). -/
  zeroFailed : Bool := false
  /-- A MAINTENANCE logic test waits for zeroisation (R457, R464). -/
  waiting : Option UnitTest := none
  /-- Units whose latest MAINTENANCE verdict is PASS since they went out of service (R366, R412). -/
  passed : List Nat := []
  /-- Of these, the units that passed a full Collimation, with both tests (R412). -/
  fullPass : List Nat := []
  /-- Core cycle at which key-off step 4 began. -/
  keyoffAt : Nat := 0
  /-- Soft repair of the memory phase is known: the phase has ended (R453). -/
  memDone : Bool := false
  anaDone : Bool := false
  /-- The test port has enabled an internal scan chain (R457, R459). -/
  portScan : Bool := false
  /-- An internal scan instruction of the test port has been used since power-on: the OTP device key is blocked (R459). -/
  keyBlocked : Bool := false
  /-- Key-on is still to start (R402 step 3); the core cycle at which its present phase began. -/
  keyonDue : Bool := false
  phaseAt : Nat := 0
  /-- Domains reset during the present phase of key-on: its tests there are INCOMPLETE (R447). -/
  cut : List Nat := []
  /-- The repair registers: the rows and column groups of a macro that soft repair has given a spare (R453). -/
  repair : List (MacroId × List Nat × List Nat) := []
  /-- The OTP repair array (R452): spare rows and column groups of a macro that fused repair uses. -/
  fused : List (MacroId × Nat × Nat) := []
deriving DecidableEq, Repr

end Sys2Proof.Machine
end

