-- ==== Sys2Proof/Machine/DmaState.lean ====
section
/-! DEFINITION. The state of the service DMA and of the bridge beyond their registers
(spec/13_service_dma_and_bridge.md). -/

namespace Sys2Proof

/-- The errors a read of CFS cells meets: a pointer error on the list (R160), the cells of corrected words (R163), and
the uncorrectable words, each a cell, a word of it and the value as read (R164). -/
structure ReadErrs where
  ptr : Bool := false
  ce : List Nat := []
  ue : List (Nat × Nat × Nat) := []
deriving DecidableEq, Repr

end Sys2Proof

namespace Sys2Proof.Machine

/-- DMA.CH_STAT.STATE (R443). -/
inductive DmaPhase where
  | idle | fetch | wait | burst | drain
deriving DecidableEq, Repr

/-- DMA.CH_STAT.STATE codes. -/
def DmaPhase.code : DmaPhase → Nat
  | .idle => 0
  | .fetch => 1
  | .wait => 2
  | .burst => 3
  | .drain => 4

/-- What an access of a burst does: reads the source, reads the second range of a compare, or writes (R427). -/
inductive DmaStep where
  | read | second | write
deriving DecidableEq, Repr

/-- An access of a burst, inside a 32-bit word, or an element pushed to a queue (R426-R428, R439). -/
structure DmaAccess where
  step : DmaStep
  addr : Nat
  len : Nat
deriving DecidableEq, Repr

/-- One channel. -/
structure Channel where
  phase : DmaPhase := .idle
  /-- Control-RAM address of the descriptor in progress or last ended, and its words 0 to 4 (R422). -/
  cur : Nat := 0
  words : List Nat := []
  /-- Bytes of LEN transferred, and those of the burst in progress included. -/
  done : Nat := 0
  mismatch : Nat := 0
  firstDiff : Option Nat := none
  ue : Bool := false
  trunc : Bool := false
  kind : Nat := 0
  /-- The item popped by a queue source: its bytes, once delivered (R428). -/
  item : Option (List Byte) := none
  /-- The pop of a queue source has been claimed and stalls (R153, R428). -/
  stalled : Bool := false
  halfRaised : Bool := false
  /-- The code the descriptor ends with, once it ends (R424). -/
  code : Nat := 0
  abort : Bool := false
  /-- Words of the descriptor read so far, and those of words 5 to 7 written back (R422, R438). -/
  fetched : Nat := 0
  wrote : Nat := 0
  /-- The accesses of the burst still to be made, in order (R426, R427, R439). -/
  todo : List DmaAccess := []
  /-- Bytes read and not yet written or compared: of the source, and of a compare's second range. -/
  buf : List Byte := []
  buf2 : List Byte := []
  /-- Errors that the reads of CFS cells still to be made meet (R163, R164, R436). -/
  err : ReadErrs := {}
  /-- The flash has still to serve the burst's reads (R391, R420). -/
  flash : Bool := false
deriving DecidableEq, Repr

/-- A master of the control bus (R440, R443): the cores as one, the SPI target, management frames, and the DMA. -/
inductive Master where
  | core | spi | frame | dma
deriving DecidableEq, Repr

/-- A control-to-data access that awaits its repeat (R442). -/
structure C2dAccess where
  master : Master
  addr : Nat
  write : Option Word
deriving DecidableEq, Repr

/-- The DMA and the bridge. -/
structure DmaState where
  chans : Map Channel := []
  /-- The channel last granted at each priority (R425). -/
  last : List Nat := [31, 31, 31, 31]
  /-- The holder and recorded address of each held semaphore (R440). -/
  sems : Map (Option (Master × Nat)) := []
  /-- The channels whose bursts have accesses on the control side, in order of grant (R438). -/
  order : List Nat := []
  /-- The channels with words of a descriptor to read or write back, in order of arrival (R438). -/
  ctl : List Nat := []
  /-- Accesses given a retry response, oldest first (R442). -/
  retries : List C2dAccess := []
  /-- Control RAM, 256 KiB (R551). -/
  ram : Memory := []
  /-- The first byte after the protected code region, which starts at 0 (R419). -/
  codeEnd : Nat := 0
deriving DecidableEq, Repr

end Sys2Proof.Machine
end

