-- ==== Sys2Proof/Machine/AlmState.lean ====
section
/-! DEFINITION. The state of Almanac beyond its registers: the totals of the life journal, the marks of the units, the
voltage step in progress (spec/15_ageing_and_life_records.md). -/

namespace Sys2Proof.Machine

/-- A reading of the ageing monitors (R468-R471): path delays in ps, ring-oscillator frequencies in kHz, canary margins in
mV and temperatures in 0.25 degrees. -/
structure AlmReading where
  delays : List Nat
  rings : List Nat
  canaries : List Int
  temps : List Int
deriving DecidableEq, Repr

/-- What a journal record is written for (R488). -/
inductive JrnlKind where
  | hourly
  | keyoff
  | event (code arg : Nat)
  /-- A sounding of a link: flags, and the samples that differ, each an index, the sample and the difference (R494). -/
  | trend (link flags : Nat) (entries : List (Nat × Byte × Byte))
  | baseline (link : Nat) (samples : List Byte)
  | key (wrapped : List Byte)
deriving DecidableEq, Repr

/-- The TYPE of a record (R488). -/
def JrnlKind.type : JrnlKind → Nat
  | .hourly => 1
  | .keyoff => 2
  | .event _ _ => 3
  | .trend _ _ _ => 4
  | .baseline _ _ => 5
  | .key _ => 6

/-- An entry of the UNITS block (R487, R411, R451, R466): marks, last verdicts, FAIL and PASS totals. -/
structure UnitRec where
  oos : Bool := false
  suspect : Bool := false
  memFault : Bool := false
  logic : Nat := 0
  mem : Nat := 0
  fails : Nat := 0
  passes : Nat := 0
deriving DecidableEq, Repr

/-- An entry of the GRADE_HIST block (R487). -/
structure GradeChange where
  posSec : Nat
  old : Nat
  new : Nat
  mv : Nat
  rtc : Nat
deriving DecidableEq, Repr

/-- How far a voltage step has come (R473, R474). -/
inductive AvsPhase where
  | ack      -- the command is sent, no answer yet
  | settle   -- acknowledged: SETTLE_US runs
deriving DecidableEq, Repr

/-- A voltage step in progress: its direction, the attempts that have failed, and whether it belongs to a sample that
goes on climbing, with the steps that sample has taken (R473-R475). -/
structure AvsStep where
  up : Bool
  /-- The voltage command: the rail it addresses and the voltage in mV (R472). -/
  rail : Nat := 0
  mv : Nat := 0
  phase : AvsPhase := .ack
  failed : Nat := 0
deriving DecidableEq, Repr

/-- Almanac, and the AON counters it relies on. -/
structure AlmState where
  /-- The RTC in ticks of 32.768 kHz since 1970, from AON cycle `rtcAt` (R482); before it, what it was and since when (R483). -/
  rtc : Nat := 0
  rtcAt : Nat := 0
  rtcWas : Nat × Nat := (0, 0)
  /-- The core cycle from which LIFE_SEC has still to take the power-on time; none while CTRL is unpowered (R491). -/
  lifeAt : Option Nat := none
  /-- The journal's LIFE totals: power-on seconds, key cycles, seconds at grades A, B and C (R487). -/
  posSec : Nat := 0
  keyCyc : Nat := 0
  gradeSec : List Nat := [0, 0, 0]
  /-- Seconds of the shadow that belong to grades in force before the present one (R487). -/
  gradeShadow : List Nat := [0, 0, 0]
  tempBins : List Nat := []
  tMax : Option Int := none
  tMin : Option Int := none
  /-- Lowest derated slack since the last record and its monitor (R487). -/
  low : Option (Int × Nat) := none
  upTotal : Nat := 0
  downTotal : Nat := 0
  /-- Lowest measured slack per monitor, lowest canary margins, since the last record. -/
  monLow : Map (Option Int) := []
  canLow : Map (Option Int) := []
  /-- Life totals of the link counters and the values last read: counter i of link n at 8 n + i (R492). -/
  linkTotal : Map Nat := []
  linkRead : Map Nat := []
  units : Map UnitRec := []
  /-- The PORTS block of a port as stored, 80 bytes; none: not VALID (R286). -/
  ports : Map (Option (List Byte)) := []
  /-- Journal passes, highest ERASES, COMMITs to banks A and B (R487). -/
  passes : Nat := 0
  erases : Nat := 0
  commits : List Nat := [0, 0]
  grades : List GradeChange := []
  /-- Logic verdicts of units 0 to 25 in the last KEYOFF record; none without one (R466). -/
  keyoffRes : List Nat := []
  /-- The setpoint that the journal records (R478). -/
  jrnlMv : Nat := 750
  /-- The journal's grade of the last change, in force at boot (R404, R481). -/
  grade : Nat := 0
  /-- Baseline samples of a link (R494), and of its last recorded sounding the RTC seconds, with VALID, and the power-on
  seconds (R493). -/
  base : Map (Option (List Byte)) := []
  sounded : Map (Option (Nat × Bool × Nat)) := []
  clampTotal : Map Nat := []
  /-- The wrapped image-decrypt key (R456). -/
  wrapped : Option (List Byte) := none
  /-- The offset in the head sector where the next record goes (R486). -/
  at_ : Nat := 0
  /-- The next SEQ. -/
  seq : Nat := 0
  /-- Consecutive samples with slack to spare (R476), steps of the climbing sample (R475). -/
  spare : Nat := 0
  climb : Nat := 0
  /-- The worst slack of the last sample in 1/40 ps, and whether an engine-clock monitor is short (R479). -/
  worst : Int := 0
  short : Bool := false
  step : Option AvsStep := none
  /-- The setpoint is on its way to this value, in mV: to a restored one (R478), or into new limits (R472). -/
  target : Option Nat := none
  restoring : Bool := false
  /-- A step of the policy that fell due while none could start: its direction (R477). -/
  due : Option Bool := none
  /-- A grade request is pending, with the grade asked for; the last one cancelled (R480). -/
  asked : Option Nat := none
  refused : Option Nat := none
  /-- The reading of a sample that is due while OVERLAP is 1 (R469). -/
  sampleDue : Option AlmReading := none
deriving DecidableEq, Repr

end Sys2Proof.Machine
end

