-- ==== Sys2Proof/Machine/SchedState.lean ====
section
/-! DEFINITION. Table sets and the state of schedule control (spec/10_ephemeris_contract.md). -/

namespace Sys2Proof.Machine

/-- An entry of a link, cluster, packetiser, launch or trigger table (R350, R351): SLOT, CARRY, OP and words 1 to 3. -/
structure Entry where
  slot : Nat
  carry : Bool
  op : Nat
  w1 : Nat
  w2 : Nat
  w3 : Nat
deriving DecidableEq, Repr

/-- A front-end entry (R353). -/
structure FeEntry where
  slot : Nat := 0
  carry : Bool := false
  close : Nat := 0
  dl : Nat := 0
  d0 : List Nat := []
  wr0 : Nat := 0
  openOfs : Nat := 0
deriving DecidableEq, Repr

/-- A queue descriptor of the store table (R354). -/
structure QueueCfg where
  queue : Nat
  en : Bool
  sched : Bool
  prod : Nat
  cons : Nat
  reserve : Nat
  quota : Nat
  hi : Nat
  lo : Nat
deriving DecidableEq, Repr

/-- The store table: descriptors, patterns of 1,024 bytes, map entries (SLOT, PATTERN) (R354). -/
structure StoreTable where
  queues : List QueueCfg := []
  patterns : List (List Byte) := []
  map : List (Nat × Nat) := []
deriving DecidableEq, Repr

/-- A stream of a set, in the fields of PRES.STRM_* (R247, R277), its trailer statistics and its queues. -/
structure StreamCfg where
  stream : Nat := 0
  cfg : Nat := 0           -- STRM_CFG
  dstHi : Nat := 0
  dstLo : Nat := 0
  latency : Nat := 0
  outW : Nat := 0
  outH : Nat := 0
  /-- OUT_Q, which Garnet pops (R248). -/
  outQ : Nat := 0
  /-- The presented queue (R248). -/
  presQ : Nat := 0
  /-- The context that feeds the stream: cluster and context (R247). -/
  clu : Nat := 0
  ctx : Nat := 0
  /-- The statistics queue of the packetiser; none for a stream that carries no statistics (R262). -/
  statQ : Option Nat := none
  /-- The statistics are in legacy form (R119, R255). -/
  legacy : Bool := false
  /-- Zones across and down of the configured statistics block (R117, R119). -/
  zx : Nat := 1
  zy : Nat := 1
deriving DecidableEq, Repr

/-- A context as the context image initialises it (R355): header words and initial parameter buffer. -/
structure CtxImage where
  ctx : Nat
  header : List Word
  params : List (Nat × Word)
deriving DecidableEq, Repr

/-- The front-end values of a set: queues and the shadowed registers loaded at a swap (R121, R349 entry 47). -/
structure FeLoad where
  fe : Nat
  lineQ : Nat
  embQ : Option Nat
  statQs : List Nat
  regs : List (Nat × Word)
deriving DecidableEq, Repr

/-- The sections whose byte layout the spec does not give (log entry 20), as they take effect. -/
structure SetLoads where
  streams : List StreamCfg := []
  fes : List FeLoad := []
  /-- ETH, TIME and PRES registers loaded at the swap: address and value. -/
  regs : List (Nat × Word) := []
  /-- Context images of clusters 0 to 7. -/
  ctxs : List (List CtxImage) := []
  /-- Declared tolerances (LT, RS) of the cameras (R357). -/
  tols : List (Nat × Nat × Nat) := []
  /-- The pass-through queue, where the set enables it (R289, R300). -/
  passQ : Option Nat := none
  /-- Engine programs of the clusters' inactive instruction-memory halves: engine and bytes (R178). -/
  imem : List (List (Nat × List Byte)) := []
  /-- The sizes in bytes of egress queues 0 to 5 (R290). -/
  egress : List Nat := []
  /-- What the image gives the draw memory at boot: offset and bytes (R263). -/
  draw : List (Nat × List Byte) := []
deriving DecidableEq, Repr

/-- A table set (R349-R355). -/
structure TableSet where
  scene : Nat := 0
  grade : Nat := 0
  variant : Nat := 0
  position : Nat := 0
  early : Bool := false
  chain : Bool := false
  periodNs : Nat := 0
  periodFrac : Nat := 0
  usable : Nat := 0
  planId : Nat := 0
  link : List (List Entry) := []
  fe : List (Nat × List FeEntry) := []      -- GEOM and entries, FE[0] to FE[17]
  store : StoreTable := {}
  cluster : List (List Entry) := []
  /-- The number of contexts in the context image of each cluster (R351). -/
  contexts : List Nat := []
  pkt : List Entry := []
  launch : List Entry := []
  trig : List Entry := []
  loads : SetLoads := {}
deriving DecidableEq, Repr

/-- What asked for a swap (R361). -/
inductive SwapKind where
  | scene | grade | variant | acquisition | boot | early
deriving DecidableEq, Repr

/-- A swap that is requested, staged or ready (R361, R362). -/
structure Swap where
  kind : SwapKind
  scene : Nat
  grade : Nat
  variant : Nat
  /-- The earliest device time of S, 2^-40 ns (R361). -/
  after : Nat
  /-- Device time of S, 2^-40 ns; 0 while it is not yet known. -/
  at_ : Nat
  /-- Chain swap SEQ; 0 for a local swap (R369). -/
  seq : Nat := 0
  /-- A grade step of Almanac is among the requests that the swap joins (R366). -/
  graded : Bool := false
  /-- PLAN_ID of the PREP (R368). -/
  planId : Option Nat := none
  staging : Bool := true
  drain : Bool := false
  set : Option TableSet := none
  /-- Not ready at S - GO_GUARD_MS: taken at the next period start at which it is ready (R362). -/
  deferred : Bool := false
deriving DecidableEq, Repr

/-- A chain swap message (R367). -/
structure ChainMsg where
  cmd : Nat
  seq : Nat
  scene : Nat
  code : Nat
  swapNs : Nat
  planId : Nat
  position : Nat
deriving DecidableEq, Repr

/-- A window of a link table that was open at a period start and runs on (R346, R352). -/
structure LinkWindow where
  link : Nat
  op : Nat
  stream : Nat
  /-- The core cycle at which it ends. -/
  ends : Nat
deriving DecidableEq, Repr

/-- Schedule control. -/
structure SchedState where
  /-- The slot counter (R345). -/
  slot : Nat := 0
  cur : TableSet := {}
  /-- The set whose CARRY entries still run, in the first period after S (R363). -/
  old : Option TableSet := none
  /-- The swap that is pending. -/
  next : Option Swap := none
  /-- A request that waits for the next swap (R366). -/
  waiting : Option Swap := none
  /-- An acquisition step that waits for the next swap (R366). -/
  stepWaits : Bool := false
  /-- Sequencers that have passed their switch slot in the overlap period (R363). -/
  switched : List Nat := []
  /-- The first period after S of a drain swap is running (R363). -/
  draining : Bool := false
  /-- The first period after a swap point is running (R363, R369). -/
  overlap : Bool := false
  /-- That swap point was an acquisition step's, which is no drain swap (R364). -/
  stepping : Bool := false
  /-- The present period is the first in which the set in force runs its entries without CARRY: its CARRY entries wait (R363). -/
  fresh : Bool := false
  /-- Device time of the present period's start, 2^-40 ns. -/
  periodStart : Nat := 0
  /-- The core cycle of the present period's start (R345). -/
  startCycle : Nat := 0
  /-- Windows of link tables that run on from earlier periods. -/
  windows : List LinkWindow := []
  periods : Nat := 0
  /-- Clusters out of service (R343). -/
  oos : List Nat := []
  /-- The scene the firmware runs in service (R403, R343). -/
  wantScene : Nat := 0
  /-- The variant chosen at boot (R404). -/
  bootVariant : Nat := 0
  /-- The PREP in force at position 0, its copies still to send, and the CANCEL copies (R367, R368). -/
  chainOut : Option ChainMsg := none
  prepLeft : Nat := 0
  cancelLeft : Nat := 0
  chainSeq : Nat := 0
  /-- SEQ of the last PREP acted on at positions 1 to 3. -/
  seenSeq : Nat := 0
  /-- The last chain report to be sent: code 3 DONE or 4 MISSED (R368). -/
  report : Option ChainMsg := none
  /-- First period after a swap: AUTO_OFF domains are powered down at its end (R509). -/
  autoOffDue : Bool := false
deriving DecidableEq, Repr

end Sys2Proof.Machine
end

