-- ==== Sys2Proof/Machine/NvmState.lean ====
section
/-! DEFINITION. The state of the flash and of the NVM controller beyond its registers
(spec/11_configuration_image.md). -/

namespace Sys2Proof.Machine

/-- A section entry of an image (R383): from the early directory or from the hash table, with its index there. Its digest
is the one kept for staging fetches (R385). -/
structure Section where
  early : Bool
  index : Nat
  type : Nat
  enc : Bool
  id : Nat
  offset : Nat
  length : Nat
  iv : List Byte
  digest : List Byte
deriving DecidableEq, Repr

/-- A flash operation (R391). -/
inductive FlashOp where
  | fetch                                  -- staging fetches
  | journalRead                            -- the firmware reads the journal at its start (R402, R489)
  | refetch                                -- early-section data for memories that were under test (R454)
  | dmaRead (c : Nat) (locked : Bool)      -- a burst of DMA channel c reads the flash window (R420)
  | journal (k : JrnlKind)                 -- a record that Almanac writes
  | mainPass
  | program (addr : Nat) (bytes : List Byte)
  | erase (addr len : Nat)
deriving DecidableEq, Repr

/-- The priority of R391, 0 highest. -/
def FlashOp.prio : FlashOp → Nat
  | .fetch => 0
  | .journalRead => 0
  | .refetch => 0
  | .journal _ => 1
  | .mainPass => 2
  | .dmaRead _ locked => if locked then 0 else 2
  | .program _ _ => 3
  | .erase _ _ => 3

/-- The operation programs or erases. -/
def FlashOp.isWrite : FlashOp → Bool
  | .journal _ => true
  | .program _ _ => true
  | .erase _ _ => true
  | _ => false

/-- A flash operation in the queue: begun, and, for a journal write, its delay by a supply warning counted (R490). -/
structure FlashJob where
  id : Nat
  op : FlashOp
  started : Bool := false
  deferred : Bool := false
deriving DecidableEq, Repr

/-- An image-write session (R390): the target bank, the stated length, the next offset, whether COMMIT runs, and RESULT once its
read-back has ended. -/
structure WriteSession where
  bank : Nat
  len : Nat
  next : Nat := 0
  commit : Bool := false
  verdict : Nat := 0
deriving DecidableEq, Repr

/-- The expected result of a logic test of one kind of unit (R462): terminal count and signature. -/
structure TestExpect where
  count : Nat
  sig : BitVec 64
deriving DecidableEq, Repr

/-- Main sections of types 0x04, 0x05 and 0x06 as they take effect (R384, log entry 20): draw memory, words of FE.DPC_MAP and
FE.LSC_GAIN, sensor scripts by camera. -/
structure MainLoads where
  draw : List (Nat × List Byte) := []
  feTables : List (Nat × Word) := []
  scripts : List (Nat × List (Nat × List Byte)) := []
deriving DecidableEq, Repr

/-- The device configuration of the image (section type 0x07) and the typed sections of the image, as they take effect (log entry
20). -/
structure DeviceConfig where
  /-- Register addresses and values loaded when the firmware starts (R299, R321, R417, R496, R534). -/
  regs : List (Nat × Word) := []
  /-- The default scene (R403). -/
  defaultScene : Nat := 0
  /-- Links with the value of LNK.CTL that the image gives them (R402, R510). -/
  links : List (Nat × Word) := []
  /-- The links of each scene, priority links first (R402 step 6, log entry 98), and the priority cameras (log entry 208). -/
  sceneLinks : List (Nat × List Nat) := []
  priority : List Nat := []
  /-- FE.CTL of the front ends (R510). -/
  feCtl : List (Nat × Word) := []
  /-- The MODE that the image gives each port (R286), and ports the image uses. -/
  portMode : List (Nat × Nat) := []
  /-- Sensor scripts of cameras 0 to 15: request types and payloads (section type 0x06). -/
  scripts : List (List (Nat × List Byte)) := []
  /-- Words of FE.DPC_MAP and FE.LSC_GAIN: address and value (section type 0x05). -/
  feTables : List (Nat × Word) := []
  /-- Garnet's draw memory for the scenes of the early section: offset and bytes (section type 0x04). -/
  draw : List (Nat × List Byte) := []
  /-- The main sections of types 0x04 to 0x06, delivered once the main pass has verified them (R384). -/
  main : MainLoads := {}
  /-- TIMEOUT_MS that the firmware sets with LOCK (R513). -/
  wdtMs : Nat := 1000
  /-- Expected logic-test results of clusters and of front ends (R462). -/
  cluTest : Option TestExpect := none
  feTest : Option TestExpect := none
  /-- DMA channels that the firmware locks (R420). -/
  locked : List Nat := []
  /-- The size of the protected code region of control RAM (R419). -/
  codeEnd : Nat := 0
deriving DecidableEq, Repr

/-- The NVM block. -/
structure NvmState where
  /-- The flash: an unlisted byte reads as erased, 0xFF (log entry 26). -/
  flash : Map Byte := []
  /-- Erases of each 4 KiB journal sector so far (ERASES of R486), and the duration in µs of the last key-off step 4, which
  the journal holds (R467). -/
  erased : Map Nat := []
  keyoffUs : Nat := 0
  /-- The sections of the running image that have been verified. -/
  sections : List Section := []
  /-- The bank the device runs from; none before the selection and in recovery. -/
  bank : Option Nat := none
  session : Option WriteSession := none
  /-- Operations that wait or run, by priority, then by age (R391). -/
  ops : List FlashJob := []
  nextOp : Nat := 0
  /-- The four OTP root-key hashes (R387) and the OTP device key (R456): fuses, all 0 as they are made. DESIGN CHOICE (log entry 174). -/
  keySlots : List (List Byte) := List.replicate 4 (List.replicate 32 0)
  deviceKey : List Byte := List.replicate 32 0
  config : DeviceConfig := {}
  /-- CHAIN_LEN of the running image (R380). -/
  chainLen : Nat := 1
  /-- The image-decrypt key, where one is installed (R388, R455). -/
  decryptKey : Option (List Byte) := none
  /-- 50 ms have passed since the firmware started (R456). -/
  keyWaitOver : Bool := false
deriving DecidableEq, Repr

end Sys2Proof.Machine
end

