-- ==== Sys2Proof/Machine/TimeState.lean ====
section
/-! DEFINITION. The state of Meridian beyond its registers (spec/09_time_and_synchronisation.md). Device time and every
instant are counted in 2^-40 ns (R306); offsets and latencies in 1/16 ns (R340); rates in 1/256 ppb (R340). -/

namespace Sys2Proof.Machine

/-- Device-time states (R308). -/
inductive DtState where
  | free | acquire | locked | slew | hold
deriving DecidableEq, Repr

/-- TIME.STAT.DT_STATE. -/
def DtState.code : DtState → Nat
  | .free => 0
  | .acquire => 1
  | .locked => 2
  | .slew => 3
  | .hold => 4

/-- Why device time is in HOLD (R328, R330). -/
inductive HoldReason where
  | lost      -- the driving domain left QUALIFIED, or the NET domain was reset
  | step      -- an unconfirmed step of the driving domain
  | notReady  -- the domain a select TLV names is not QUALIFIED
deriving DecidableEq, Repr

/-- Domain states (R315). OFF follows from TIME.DOM_CFG. -/
inductive DomPhase where
  | listen | qualified | suspect
deriving DecidableEq, Repr

/-- What Meridian keeps of one gPTP domain (R315, R318, R323, R329). -/
structure DomState where
  phase : DomPhase := .listen
  /-- Latest accepted offset to device time, 1/16 ns (R318). -/
  ofs : Int := 0
  /-- Device time of the latest sample. -/
  ofsAt : Nat := 0
  /-- At least one sample has been taken since LISTEN. -/
  seen : Bool := false
  /-- Rate estimate, 1/256 ppb. -/
  rate : Int := 0
  /-- The last samples, newest first, as (offset, instant), at most four (R315). -/
  recent : List (Int × Nat) := []
  /-- Consecutive samples within 100 ns (R308). -/
  good : Nat := 0
  /-- The residual of a step candidate that awaits the next sample (R329). -/
  candidate : Option Int := none
  /-- The residual of the domain's first sample after the other domain's candidate (R329). -/
  shown : Option Int := none
  /-- The other domain has a candidate and this domain's next sample is its first after it. -/
  watch : Bool := false
  /-- The latest sample of a SUSPECT domain: offset and device time; accepted when SUSPECT ends (R330). -/
  susp : Option (Int × Nat) := none
  /-- The neighbour has signalled that it is gPTP-capable in this domain (R312). -/
  gptp : Bool := false
  logSync : Nat := 0
  /-- The last Announce: currentUtcOffset, and whether currentUtcOffsetValid and timeTraceable were both set (R483). -/
  utc : Option (Int × Bool) := none
deriving DecidableEq, Repr

/-- A trigger pending in Meridian (R331-R333). -/
structure PendTrig where
  cam : Nat
  instant : Nat
  dly : Nat
  out : Nat
  width : Nat
deriving DecidableEq, Repr

/-- A launch pending in Meridian (R291, R331): its launch time, and the device time of its handover. -/
structure PendLaunch where
  port : Nat
  due : Nat
  handed : Nat
  /-- A unit of a stream, or the packetiser's pass-through entry INDEX (R351). -/
  pass : Bool
  /-- The egress queue it names (R290, R351). -/
  queue : Nat := 0
  stream : Nat
  index : Nat
deriving DecidableEq, Repr

/-- What Meridian knows of a trigger that no frame has taken yet (R337). -/
structure TrigRec where
  instant : Nat
  /-- The trigger has been handed to its link or port, or skipped. -/
  sent : Bool := false
  unsync : Bool := false
  /-- The trigger was skipped (R335, R336). -/
  skipped : Bool := false
  /-- Device time has passed the instant, so SYNCED there is settled (R337). -/
  latched : Bool := false
  /-- The instant lay before an acquisition step, which did not move it (R310, R337). -/
  passed : Bool := false
deriving DecidableEq, Repr

/-- A capture record (R337). -/
structure Capture where
  frameNum : Nat
  instant : Nat
  unsync : Bool
deriving DecidableEq, Repr

/-- The select TLV of R321. -/
structure SelectTlv where
  seq : Nat
  hold : Bool
  sel : Nat
  switchTime : Nat   -- whole ns of device time
deriving DecidableEq, Repr

/-- What a Sync or its Follow_Up says (R318-R321): preciseOriginTimestamp in ns, correctionField in 2^-16 ns,
cumulativeScaledRateOffset, the rest of the Follow_Up information TLV (gmTimeBaseIndicator, lastGmPhaseChange,
scaledLastGmFreqChange) and the select TLV. -/
structure SyncInfo where
  origin : Nat
  correction : Int
  rateOfs : Int
  gmInfo : List Byte
  tlv : Option SelectTlv
deriving DecidableEq, Repr

/-- A two-step Sync that awaits its Follow_Up (R320): domainNumber, sequence number, ingress time in 1/16 ns. -/
structure TwoStep where
  domain : Nat
  seq : Nat
  ingress : Nat
  correction : Int
  logInterval : Nat
deriving DecidableEq, Repr

/-- A message of EtherType 0x88F7 in egress queue 6 (R290, R312). -/
inductive TimeMsg where
  /-- A relayed Sync: domainNumber, sequence number, ingress time in 1/16 ns, logMessageInterval (R319). -/
  | relay (domain seq ingress logInterval : Nat) (info : SyncInfo)
  | gmSync (seq : Nat)
  | announce (bytes : List Byte)
  | pdelayReq (seq : Nat)
  /-- t2 in 1/16 ns, and the requester's port identity. -/
  | pdelayResp (seq : Nat) (req : List Byte) (t2 : Nat)
  | pdelayFollowUp (seq : Nat) (req : List Byte) (t3 : Nat)
deriving DecidableEq, Repr

/-- The peer-delay measurement of one port (R312); times in 1/16 ns. -/
structure PdelayState where
  /-- A Pdelay_Req is outstanding: its sequence number, and t1 once it has left. -/
  req : Option (Nat × Option Nat) := none
  seq : Nat := 0
  /-- t2 of the Pdelay_Resp, and t4, that await the Follow_Up. -/
  resp : Option (Nat × Nat) := none
  /-- t3 and t4 of the last whole exchange. -/
  last : Option (Nat × Nat) := none
  /-- neighborRateRatio minus 1, in 2^-41. -/
  nrr : Int := 0
  delay : Int := 0
  capable : Bool := false
  lost : Nat := 0
  /-- The interval of Pdelay_Req as the logarithm to base 2 of seconds, -3 to 3 (R312, R315). -/
  log : Int := 0
deriving DecidableEq, Repr

/-- Meridian. -/
structure TimeState where
  /-- Device time in 2^-40 ns. -/
  dt : Nat := 0
  /-- The rate correction applied, 1/256 ppb (TIME.FREQ). -/
  y : Int := 0
  dtState : DtState := .free
  /-- Device time has been LOCKED since the last reset (R323). -/
  everLocked : Bool := false
  drive : Nat := 0
  /-- A domain is selected (R310, R324). -/
  selected : Bool := false
  holdReason : HoldReason := .lost
  doms : List DomState := [{}, {}]
  /-- A decided switch and its switch time (R326). -/
  switchTo : Option (Nat × Nat) := none
  /-- An acquisition step that awaits its swap point, 1/16 ns (R310). -/
  stepPend : Option Int := none
  /-- The latest TLV had HOLD 1 when HOLD_MS passed at positions 1 to 3: the hold ends with HOLD 0 (R330). -/
  holdOver : Bool := false
  selSeq : Nat := 0
  /-- SWITCH_TIME of the select TLV, whole ns. -/
  selTime : Nat := 0
  selHold : Bool := false
  selSel : Nat := 0
  tlvSeen : Bool := false
  trigs : List PendTrig := []
  launches : List PendLaunch := []
  /-- Launches offered to a full queue whose frames are still to be discarded (R331, R335). -/
  refused : List PendLaunch := []
  /-- The rates of device time since the oldest accepted sample: device time from which, and y; newest first (R306, R329). -/
  rates : List (Nat × Int) := []
  trigRecs : Map (List TrigRec) := []
  captures : Map (List Capture) := []
  twoStep : List TwoStep := []
  /-- The latest keep-alive of each link: device time of its SOP, and its BSC (R333). -/
  anchors : Map (Option (Nat × Nat)) := []
  pdelay : List PdelayState := [{}, {}]
  /-- Levels of PP_TRIG[0] and PP_TRIG[1] (R334). -/
  ppTrig : List Bool := [false, false]
  /-- PP triggers handed over and not yet asserted: port and width (R334). -/
  ppPend : List (Nat × Nat) := []
  /-- The interval of the Syncs the device sends as grandmaster, as the logarithm to base 2 of seconds, -5 to 0 (R313, R315). -/
  syncLog : Int := -3
  /-- The offset to the driving domain that was last measured, 1/16 ns (R308). -/
  measured : Int := 0
  /-- SEQ, HOLD and SEL of the last select TLV sent, at position 0 (R340). -/
  selSent : Nat × Bool × Nat := (0, false, 0)
  /-- Sequence number of the next Sync sent as grandmaster (R313). -/
  gmSeq : Nat := 0
deriving DecidableEq, Repr

end Sys2Proof.Machine
end

