-- ==== Sys2Proof/Syntax.lean ====
section
/-! DEFINITION. The commands of the block: one constructor per row of spec/opcode_table.json, with the row's operands. -/

namespace Sys2Proof

/-- How a received link packet ends (R50). -/
inductive PktEnd where
  | eop       -- K29.7
  | abort     -- K23.7
  | control   -- SOP, K28.5, K28.1 or K28.7 inside the packet
deriving DecidableEq, Repr

/-- A packet as a link's receiver sees it (R48): the bytes of its header, in order and at most 8, the bytes between
the header and its end, and the way it ends. -/
structure RxPacket where
  header : List Byte
  body : List Byte
  ending : PktEnd
deriving DecidableEq, Repr

/-- The operands of a short vector operation (R218, R220): VD, VA, VB, and the predicate PS of its bundle. -/
structure VecOp where
  ps : Fin 4
  vd : Fin 32
  va : Fin 32
  vb : Fin 32
deriving DecidableEq, Repr

/-- The operands of an LS operation (R221) and the predicate PS of its bundle. -/
structure LsOp where
  ps : Fin 4
  vr : Fin 32
  ar : Fin 8
  inc : Fin 4
deriving DecidableEq, Repr

/-- The operands of an LX operation (R222) and the predicate PS of its bundle. -/
structure LxOp where
  ps : Fin 4
  vr : Fin 32
  ar : Fin 8
  ofs : Fin 1024
deriving DecidableEq, Repr

/-- The operands of an SL operation (R224). -/
structure SlOp where
  sd : Fin 16
  sa : Fin 16
  imm : Fin 32768
deriving DecidableEq, Repr

/-- The operands of an extended control operation (R228). -/
structure CtlOp where
  sd : Fin 16
  sa : Fin 16
  sb : Fin 16
  sc : Fin 16
  qsel : Fin 4
deriving DecidableEq, Repr

/-- The operands of an extended vector operation (R228). -/
structure ExtOp where
  pd : Fin 8
  rnd : Fin 4
  sh : Fin 16
  es : Bool
  vd : Fin 32
  va : Fin 32
  vb : Fin 32
  imm : Fin 65536
deriving DecidableEq, Repr

/-- What is wrong with a received symbol as a code group: no valid group (R44), or the wrong disparity (R47). -/
inductive SymbolFault where
  | violation | disparity
deriving DecidableEq, Repr

/-- The pointer errors that a push or a commit meets (R160): free lists, each with the cells that the allocation still takes from it
before the entry that differs, and differing copies of the queue's tail or marker index. -/
structure PtrErrs where
  free : List (Fin 4 × Nat) := []
  list : Bool := false
deriving DecidableEq, Repr

/-- What a push meets in its cycle: `rel`, the read of the oldest claimed item of the queue completes in it (R156), and pointer errors
(R160). -/
structure PushMeets where
  rel : Bool := false
  err : PtrErrs := {}
deriving DecidableEq, Repr

/-- A commit on queue `q` and the pointer errors that its last cell writes and its link at the tail meet (R141, R160). -/
structure CommitOn where
  q : Fin 1024
  err : PtrErrs := {}
deriving DecidableEq, Repr

/-- The end of the read of an item of queue `q`, and the errors that its read still meets (R145, R160, R163, R164). -/
structure ReleaseOn where
  q : Fin 1024
  err : ReadErrs := {}
deriving DecidableEq, Repr

/-- A deferred marker of queue `q`; `err`: the two copies of its marker index differ (R150, R160). -/
structure MarkerOn where
  q : Fin 1024
  err : Bool := false
deriving DecidableEq, Repr

/-- A word of the store's aperture, at byte offset `o`, and the errors that its read meets (R163, R164, R172). -/
structure ApertureWord where
  o : Fin 0x3000000
  err : ReadErrs := {}
deriving DecidableEq, Repr

/-- How the read of a qpop ends: the bytes received where a flush or reset cuts it, and the errors it meets (R163, R164, R237). -/
structure QueueData where
  got : Nat := 0
  err : ReadErrs := {}
deriving DecidableEq, Repr

/-- A pointer error that the pool audit meets (R162): on a queue list, on a free list after its first `keep` cells that
agree, or on the oldest flush walk after `n` cells. -/
inductive AuditErr where
  | queue (q : Fin 1024)
  | free (j : Fin 4) (keep : Nat)
  | walk (n : Nat)
deriving DecidableEq, Repr

/-- What a pass of the pool audit meets (R161, R162): pointer errors, and cells orphaned within the pass that its walk has not marked. -/
structure AuditPass where
  errs : List AuditErr := []
  late : List Nat := []
deriving DecidableEq, Repr

/-- An entry `i` of the table of front end `n`, in the set in force or in the old one, whose CARRY entries still run (R353, R363). -/
structure FrameEntry where
  n : Fin 18
  old : Bool := false
  i : Nat
deriving DecidableEq, Repr

/-- The read-back of a zeroisation (R457-R459): for the test port or for Collimation, and whether it has found every word 0. -/
structure ZeroResult where
  port : Bool := false
  ok : Bool
deriving DecidableEq, Repr

/-- The levels of the input pins of a parallel port (R88): PP_D, PP_HSYNC, PP_VSYNC and PP_DE. -/
structure PpPins where
  d : BitVec 16
  hs : Bool
  vs : Bool
  de : Bool
deriving DecidableEq, Repr

/-- One period of PP_PCLK (R89): the pins at its rising edge and at its falling edge. -/
structure PpClock where
  rise : PpPins
  fall : PpPins
deriving DecidableEq, Repr

/-- Clocks of parallel port `p`. -/
structure PpRun where
  p : Fin 2
  clocks : List PpClock
deriving DecidableEq, Repr

/-- What a port's receivers read of a used lane at the entry to UP (R281, R303): the eye, and the live values of
LANE_RXCFG, LANE_TXEQ and LANE_DFE. -/
structure LaneLive where
  eye : Byte
  rxcfg : Word
  txeq : Word
  dfe0 : Word
  dfe1 : Word
  dfe2 : Word
deriving DecidableEq, Repr

/-- The lane register a write names (R286): LANE_RXCFG, LANE_TXEQ or a word of LANE_DFE. -/
inductive LaneReg where
  | rxcfg
  | txeq
  | dfe (i : Fin 3)
deriving DecidableEq, Repr

/-- What TRIGGER_HANDOVER acts on (R331-R333): an entry of the trigger table in its slot, of the old set or of the set in
force, or the pending trigger of a camera whose due time has come. -/
inductive TrigEvent where
  | slot (old : Bool) (i : Nat)
  | due (c : Fin 18)
deriving DecidableEq, Repr

/-- A Sync message as received on UPL (R318-R321): domainNumber, sequence number, logMessageInterval, whether it is
two-step, and what it says. -/
structure SyncMsg where
  domain : Byte
  seq : Fin 65536
  logInterval : Byte
  twoStep : Bool
  info : Machine.SyncInfo
deriving DecidableEq, Repr

/-- What the start of the flash interface gives at a wake (R371-R374, R379): the flash ID, the clock in MHz, the retries,
whether it ends in a flash error, and the banks whose verification ends in one, with the stage of R392: 0 header, 1 early section. -/
structure FlashInit where
  id : Fin 16777216
  mhz : Fin 256
  retries : Nat := 0
  fail : Bool := false
  bankFail : List (Fin 2 × Fin 2) := []
deriving DecidableEq, Repr

/-- The results of the key-on analogue phase (R449, R467), a set bit for each failure, and its duration in µs. -/
structure AnaResult where
  links : Fin 65536
  lanes : Fin 256
  sensors : Fin 256
  crystal : Bool
  supmon : Bool
  bandgap : Bool
  plls : Fin 32
  us : Fin 65536
deriving DecidableEq, Repr

/-- The results of the key-on memory phase (R448, R451): one for each macro, and the duration in µs. -/
structure MemResult where
  macros : List Machine.MacroTest
  us : Fin 65536
deriving DecidableEq, Repr

/-- What a logic test of a unit yields (R445, R462): the patterns applied and the MISR. -/
structure LogicResult where
  count : Fin 4294967296
  sig : BitVec 64
deriving DecidableEq, Repr

/-- What the memory test of a unit yields in MAINTENANCE (R464): the results of its macros. -/
structure UnitMem where
  macros : List Machine.MacroTest
deriving DecidableEq, Repr

/-- A command of the block: one row of spec/opcode_table.json. An operand that is a Word is a value written or an address;
the others name the unit the command concerns, or are what the command's sender or the outside world supplies. Commands with
operands stand first: compiled code numbers them below the runtime's limit of 244. -/
inductive Instr where
  /-- REGISTER_WRITE (R10). -/
  | registerWrite (m : Machine.Master) (addr v : Word)
  /-- EVENT_CLEAR (R11). -/
  | eventClear (m : Machine.Master) (addr v hw : Word)
  /-- COUNTER_CLEAR (R12). -/
  | counterClear (m : Machine.Master) (addr v events : Word)
  /-- OFF_DOMAIN_ACCESS (R27). -/
  | offDomainAccess (m : Machine.Master) (addr : Word) (v : Option Word)
  /-- SWITCH_SLOT (R363). -/
  | switchSlot (q : Fin 46)
  /-- LINK_ENABLE (R70). -/
  | linkEnable (n : Fin 16) (v : Word)
  /-- LINK_DISABLE (R72). -/
  | linkDisable (n : Fin 16) (v : Word)
  /-- LINK_RETRAIN (R70). -/
  | linkRetrain (n : Fin 16) (v : Word)
  /-- TRAIN_HOLD_END (R70). -/
  | trainHoldEnd (n : Fin 16)
  /-- FTS_DETECTED (R69). -/
  | ftsDetected (n : Fin 16)
  /-- ADAPT_SETTLED (R75). -/
  | adaptSettled (n : Fin 16) (ctle : Fin 16) (eye : Byte) (taps : List Int)
  /-- FORWARD_IDLE_ARRIVE (R69). -/
  | forwardIdleArrive (n : Fin 16)
  /-- COMMA_LOCK (R46). -/
  | commaLock (n : Fin 16)
  /-- ALIGN_COMPLETE (R69). -/
  | alignComplete (n : Fin 16)
  /-- TRAIN_TIMEOUT (R71). -/
  | trainTimeout (n : Fin 16)
  /-- LOSS_OF_SIGNAL (R72). -/
  | lossOfSignal (n : Fin 16)
  /-- ALIGNMENT_LOSS (R72). -/
  | alignmentLoss (n : Fin 16) (inPacket : Bool)
  /-- TAP_UPDATE (R75). -/
  | tapUpdate (n : Fin 16) (t : Fin 6) (sum : Int)
  /-- CTLE_STEP (R75). -/
  | ctleStep (n : Fin 16) (lo hi : Nat)
  /-- EQ_FREEZE (R76). -/
  | eqFreeze (n : Fin 16)
  /-- EQ_RESUME (R76). -/
  | eqResume (n : Fin 16)
  /-- EIDLE_ENTRY (R78). -/
  | eidleEntry (n : Fin 16)
  /-- EIDLE_EXIT (R79). -/
  | eidleExit (n : Fin 16) (k287At : Option Nat) (d102 : Nat) (aligned : Bool)
  /-- EIDLE_TIMEOUT (R80). -/
  | eidleTimeout (n : Fin 16)
  /-- FRAME_START_PACKET (R103). -/
  | frameStartPacket (n : Fin 16) (p : RxPacket)
  /-- FRAME_END_PACKET (R103). -/
  | frameEndPacket (n : Fin 16) (p : RxPacket)
  /-- VIDEO_LINE_PACKET (R99). -/
  | videoLinePacket (n : Fin 16) (p : RxPacket)
  /-- EMBEDDED_LINE_PACKET (R96). -/
  | embeddedLinePacket (n : Fin 16) (p : RxPacket)
  /-- SENSOR_STATUS_PACKET (R56). -/
  | sensorStatusPacket (n : Fin 16) (p : RxPacket)
  /-- BC_RESPONSE_PACKET (R57). -/
  | bcResponsePacket (n : Fin 16) (p : RxPacket)
  /-- KEEPALIVE_DUE (R61). -/
  | keepaliveDue (n : Fin 16)
  /-- BC_PACKET_COMPLETE (R63). -/
  | bcPacketComplete (n : Fin 16)
  /-- BC_REQ_GO (R65). -/
  | bcReqGo (n : Fin 16) (v : Word)
  /-- BC_REQUEST_TIMEOUT (R67). -/
  | bcRequestTimeout (n : Fin 16) (tag : Byte)
  /-- LINK_LOOPBACK_SELECT (R81). -/
  | linkLoopbackSelect (n : Fin 16) (v : Word)
  /-- LOOPBACK_RETURN_TIMEOUT (R82). -/
  | loopbackReturnTimeout (n : Fin 16)
  /-- SOUND_START (R83). -/
  | soundStart (n : Fin 16) (v : Word)
  /-- SOUNDING_DONE (R83). -/
  | soundingDone (n : Fin 16) (samples : List Byte)
  /-- SOUNDING_ABORT (R84). -/
  | soundingAbort (n : Fin 16) (taken : List Byte)
  /-- PP_FRAME_START (R90): the pins in the pixel clocks up to the one in which PP_VSYNC becomes active. -/
  | ppFrameStart (p : Fin 2) (clocks : List PpClock)
  /-- PP_LINE_RUN (R90): the pins in the pixel clocks of the run and of the sample that ends it. -/
  | ppLineRun (p : Fin 2) (clocks : List PpClock)
  /-- PP_FRAME_END (R90): the pins in the pixel clocks up to the one in which PP_VSYNC becomes inactive. -/
  | ppFrameEnd (x : PpRun)
  /-- PP_ABSENT (R93). -/
  | ppAbsent (p : Fin 2)
  /-- FRAME_OPEN_TIME (R98). -/
  | frameOpenTime (x : FrameEntry)
  /-- LINE_DEADLINE (R100). -/
  | lineDeadline (n : Fin 18) (e : Fin 3) (l : Nat)
  /-- LINE_WRITE_SLOT (R121). -/
  | lineWriteSlot (n : Fin 18) (r : Nat)
  /-- FRAME_CLOSE_TIME (R104). -/
  | frameCloseTime (n : Fin 18)
  /-- FE_TABLE_WRITE (R129). -/
  | feTableWrite (n : Fin 18) (dpc : Bool) (i : Nat) (v : Word)
  /-- ITEM_PUSH (R143); `rel`: the read of the queue's oldest claimed item completes in the same cycle (R156). -/
  | itemPush (q : Fin 1024) (port : Fin 32) (bytes : List Byte) (x : PushMeets)
  /-- ITEM_COMMIT (R141). -/
  | itemCommit (x : CommitOn)
  /-- QUEUE_POP (R145). -/
  | queuePop (q : Fin 1024) (port : Fin 32) (err : ReadErrs)
  /-- STALLED_POP_SERVE (R153). -/
  | stalledPopServe (q : Fin 1024) (err : ReadErrs)
  /-- POP_CANCEL (R154). -/
  | popCancel (q : Fin 1024)
  /-- ITEM_RELEASE (R145). -/
  | itemRelease (x : ReleaseOn)
  /-- DEFERRED_MARKER_WRITE (R150). -/
  | deferredMarkerWrite (x : MarkerOn)
  /-- QUEUE_FLUSH (R157). -/
  | queueFlush (v : Word)
  /-- FLUSH_WALK_DONE (R158). -/
  | flushWalkDone (stop : Option Nat)
  /-- AUDIT_PASS_END (R161); `late`: cells that became orphans during the pass before its walk had marked them. -/
  | auditPassEnd (x : AuditPass)
  /-- SCRUB_READ (R165). -/
  | scrubRead (ce : Fin 33) (ue : List (Nat × Nat))
  /-- SCRUB_WRITEBACK (R163). -/
  | scrubWriteback (c : Fin 196608)
  /-- WATERMARK_WRITE (R168). -/
  | watermarkWrite (q : Fin 1024) (high : Bool) (v : Word)
  /-- APERTURE_READ (R172). -/
  | apertureRead (m : Machine.Master) (x : ApertureWord)
  /-- APERTURE_WRITE (R173). -/
  | apertureWrite (m : Machine.Master) (o : Fin 0x3000000) (v : Word)
  /-- TASK_START (R181). -/
  | taskStart (k : Fin 8) (task : Nat)
  /-- PARAM_COPY_DONE (R187). -/
  | paramCopyDone (k x : Fin 8)
  /-- INTAKE_ITEM_TAKE (R194). -/
  | intakeItemTake (k : Fin 8) (task : Nat)
  /-- WATCHDOG_CANCEL (R196). -/
  | watchdogCancel (k : Fin 8) (task : Nat)
  /-- PROGRAM_START (R197). -/
  | programStart (k : Fin 8) (task t0 : Nat)
  /-- TASK_END (R182). -/
  | taskEnd (k : Fin 8) (task : Nat)
  /-- HOST_COMMIT (R186). -/
  | hostCommit (k : Fin 8) (v : Word)
  /-- CONTEXT_WRITE (R184). -/
  | contextWrite (k x : Fin 8) (o : Nat) (v : Word)
  /-- DEBUG_HALT (R212). -/
  | debugHalt (k : Fin 8) (v : Word)
  /-- CTRL_WRITE_DELIVER (R205). -/
  | ctrlWriteDeliver (k : Fin 8)
  /-- VNOP (R220). -/
  | vnop (k : Fin 8) (e : Fin 16)
  /-- VADD (R220). -/
  | vadd (k : Fin 8) (e : Fin 16) (o : VecOp)
  /-- VADDU (R220). -/
  | vaddu (k : Fin 8) (e : Fin 16) (o : VecOp)
  /-- VSUB (R220). -/
  | vsub (k : Fin 8) (e : Fin 16) (o : VecOp)
  /-- VSUBU (R220). -/
  | vsubu (k : Fin 8) (e : Fin 16) (o : VecOp)
  /-- VMIN (R220). -/
  | vmin (k : Fin 8) (e : Fin 16) (o : VecOp)
  /-- VMAX (R220). -/
  | vmax (k : Fin 8) (e : Fin 16) (o : VecOp)
  /-- VMINU (R220). -/
  | vminu (k : Fin 8) (e : Fin 16) (o : VecOp)
  /-- VMAXU (R220). -/
  | vmaxu (k : Fin 8) (e : Fin 16) (o : VecOp)
  /-- VAND (R220). -/
  | vand (k : Fin 8) (e : Fin 16) (o : VecOp)
  /-- VOR (R220). -/
  | vor (k : Fin 8) (e : Fin 16) (o : VecOp)
  /-- VXOR (R220). -/
  | vxor (k : Fin 8) (e : Fin 16) (o : VecOp)
  /-- VMULQ (R220). -/
  | vmulq (k : Fin 8) (e : Fin 16) (o : VecOp)
  /-- VMULUQ (R220). -/
  | vmuluq (k : Fin 8) (e : Fin 16) (o : VecOp)
  /-- VSHR (R220). -/
  | vshr (k : Fin 8) (e : Fin 16) (o : VecOp)
  /-- VSHL (R220). -/
  | vshl (k : Fin 8) (e : Fin 16) (o : VecOp)
  /-- VLD (R221). -/
  | vld (k : Fin 8) (e : Fin 16) (o : LsOp)
  /-- VST (R221). -/
  | vst (k : Fin 8) (e : Fin 16) (o : LsOp)
  /-- SLD (R221). -/
  | sld (k : Fin 8) (e : Fin 16) (o : LsOp)
  /-- VLDO (R222). -/
  | vldo (k : Fin 8) (e : Fin 16) (o : LxOp)
  /-- VSTO (R222). -/
  | vsto (k : Fin 8) (e : Fin 16) (o : LxOp)
  /-- VLDB (R222). -/
  | vldb (k : Fin 8) (e : Fin 16) (o : LxOp)
  /-- VGATH (R223). -/
  | vgath (k : Fin 8) (e : Fin 16) (o : LxOp)
  /-- VLUT (R223). -/
  | vlut (k : Fin 8) (e : Fin 16) (o : LxOp)
  /-- SLDO (R222). -/
  | sldo (k : Fin 8) (e : Fin 16) (o : LxOp)
  /-- SSTO (R222). -/
  | ssto (k : Fin 8) (e : Fin 16) (o : LxOp)
  /-- SADD (R224). -/
  | sadd (k : Fin 8) (e : Fin 16) (sd ss : Fin 16)
  /-- SSUB (R224). -/
  | ssub (k : Fin 8) (e : Fin 16) (sd ss : Fin 16)
  /-- SMOV (R224). -/
  | smov (k : Fin 8) (e : Fin 16) (sd ss : Fin 16)
  /-- SADDI (R224). -/
  | saddi (k : Fin 8) (e : Fin 16) (o : SlOp)
  /-- SANDI (R224). -/
  | sandi (k : Fin 8) (e : Fin 16) (o : SlOp)
  /-- SORI (R224). -/
  | sori (k : Fin 8) (e : Fin 16) (o : SlOp)
  /-- SSHLI (R224). -/
  | sshli (k : Fin 8) (e : Fin 16) (o : SlOp)
  /-- SSHRI (R224). -/
  | sshri (k : Fin 8) (e : Fin 16) (o : SlOp)
  /-- SSRAI (R224). -/
  | ssrai (k : Fin 8) (e : Fin 16) (o : SlOp)
  /-- SLUI (R224). -/
  | slui (k : Fin 8) (e : Fin 16) (o : SlOp)
  /-- SMUL (R224). -/
  | smul (k : Fin 8) (e : Fin 16) (o : SlOp)
  /-- SADD3 (R224). -/
  | sadd3 (k : Fin 8) (e : Fin 16) (o : SlOp)
  /-- SSUB3 (R224). -/
  | ssub3 (k : Fin 8) (e : Fin 16) (o : SlOp)
  /-- BR (R225). -/
  | br (k : Fin 8) (e : Fin 16) (o : SlOp)
  /-- BRZ (R225). -/
  | brz (k : Fin 8) (e : Fin 16) (o : SlOp)
  /-- BRNZ (R225). -/
  | brnz (k : Fin 8) (e : Fin 16) (o : SlOp)
  /-- BRNEG (R225). -/
  | brneg (k : Fin 8) (e : Fin 16) (o : SlOp)
  /-- LOOP (R226). -/
  | loop (k : Fin 8) (e : Fin 16) (o : SlOp)
  /-- PMOV (R224). -/
  | pmov (k : Fin 8) (e : Fin 16) (o : SlOp)
  /-- SPMOV (R224). -/
  | spmov (k : Fin 8) (e : Fin 16) (o : SlOp)
  /-- SMODE (R231). -/
  | smode (k : Fin 8) (e : Fin 16) (o : SlOp)
  /-- SSTRIDE (R224). -/
  | sstride (k : Fin 8) (e : Fin 16) (o : SlOp)
  /-- END (R227). -/
  | endBundle (k : Fin 8) (e : Fin 16)
  /-- XNOP (R228). -/
  | xnop (k : Fin 8) (e : Fin 16)
  /-- QLEN (R235). -/
  | qlen (k : Fin 8) (e : Fin 16) (o : CtlOp)
  /-- QPOP (R236). -/
  | qpop (k : Fin 8) (e : Fin 16) (o : CtlOp)
  /-- QPOP_RESUME (R237). -/
  | qpopResume (k : Fin 8) (e : Fin 16) (x : QueueData)
  /-- EMIT (R239). -/
  | emit (k : Fin 8) (e : Fin 16) (o : CtlOp)
  /-- EMIT_LINE_WRITE (R239). -/
  | emitLineWrite (k : Fin 8) (idx line : Nat)
  /-- CTRLW (R241). -/
  | ctrlw (k : Fin 8) (e : Fin 16) (o : CtlOp)
  /-- VALU (R228). -/
  | valu (k : Fin 8) (e : Fin 16) (o : ExtOp)
  /-- VMAC (R228). -/
  | vmac (k : Fin 8) (e : Fin 16) (o : ExtOp)
  /-- VMACU (R228). -/
  | vmacu (k : Fin 8) (e : Fin 16) (o : ExtOp)
  /-- VNARROW (R228). -/
  | vnarrow (k : Fin 8) (e : Fin 16) (o : ExtOp)
  /-- VNARROWU (R228). -/
  | vnarrowu (k : Fin 8) (e : Fin 16) (o : ExtOp)
  /-- VMULR (R228). -/
  | vmulr (k : Fin 8) (e : Fin 16) (o : ExtOp)
  /-- VMULRU (R228). -/
  | vmulru (k : Fin 8) (e : Fin 16) (o : ExtOp)
  /-- VSPLAT (R228). -/
  | vsplat (k : Fin 8) (e : Fin 16) (o : ExtOp)
  /-- VCMP (R228). -/
  | vcmp (k : Fin 8) (e : Fin 16) (o : ExtOp)
  /-- VSEL (R228). -/
  | vsel (k : Fin 8) (e : Fin 16) (o : ExtOp)
  /-- VRED (R228). -/
  | vred (k : Fin 8) (e : Fin 16) (o : ExtOp)
  /-- VPERM (R228). -/
  | vperm (k : Fin 8) (e : Fin 16) (o : ExtOp)
  /-- VEXT (R228). -/
  | vext (k : Fin 8) (e : Fin 16) (o : ExtOp)
  /-- VABSD (R228). -/
  | vabsd (k : Fin 8) (e : Fin 16) (o : ExtOp)
  /-- RESULT_WRITEBACK (R242). -/
  | resultWriteback (k : Fin 8) (e : Fin 16)
  /-- GARNET_RANGE_START (R259). -/
  | garnetRangeStart (old : Bool) (i : Nat)
  /-- GARNET_ITEM_TAKE (R259). -/
  | garnetItemTake (st : Fin 64)
  /-- GARNET_RANGE_END (R259). -/
  | garnetRangeEnd (st : Fin 64)
  /-- GARNET_PROOF_PUSH (R259). -/
  | garnetProofPush (old : Bool) (i : Nat)
  /-- FROZEN_COMPARE_RESULT (R273). -/
  | frozenCompareResult (j : Fin 8)
  /-- DRAW_MEMORY_WRITE (R263). -/
  | drawMemoryWrite (o : Fin 0x40000) (v : Word)
  /-- PKT_RANGE_START (R260). -/
  | pktRangeStart (old : Bool) (i : Nat)
  /-- PKT_ITEM_TAKE (R260). -/
  | pktItemTake (st : Fin 64) (stat : Bool)
  /-- PKT_RANGE_END (R260). -/
  | pktRangeEnd (st : Fin 64)
  /-- TRAILER_RANGE_END (R261). -/
  | trailerRangeEnd (st : Fin 64)
  /-- PORT_ENABLE (R282). -/
  | portEnable (p : Fin 2) (v : Word)
  /-- PORT_DISABLE (R282). -/
  | portDisable (p : Fin 2) (v : Word)
  /-- PORT_CFG_WRITE (R304). -/
  | portCfgWrite (p : Fin 2) (v : Word)
  /-- LANE_SETTINGS_WRITE (R286). -/
  | laneSettingsWrite (p : Fin 2) (l : Fin 4) (r : LaneReg) (v : Word)
  /-- FAST_TIMEOUT (R282). -/
  | fastTimeout (p : Fin 2)
  /-- TRAINING_MARKER_DETECT (R285). -/
  | trainingMarkerDetect (p : Fin 2)
  /-- AN_COMPLETE (R282). -/
  | anComplete (p : Fin 2)
  /-- PORT_TRAIN_TIMEOUT (R282). -/
  | portTrainTimeout (p : Fin 2)
  /-- PORT_UP (R283). -/
  | portUp (p : Fin 2) (lanes : List LaneLive) (rx tx : Fin 65536)
  /-- PORT_LINK_LOSS (R284). -/
  | portLinkLoss (p : Fin 2)
  /-- LINK_FAULT_RECEIVE (R280). -/
  | linkFaultReceive (p : Fin 2)
  /-- PORT_LOOPBACK_SELECT (R287). -/
  | portLoopbackSelect (p : Fin 2) (v : Word) (errs : Nat)
  /-- ETH_FRAME_RECEIVE (R289). -/
  | ethFrameReceive (p : Fin 2) (f : List Byte) (fcsOk : Bool) (age : Nat)
  /-- PASSTHROUGH_FRAME_RECEIVE (R300). -/
  | passthroughFrameReceive (f : List Byte) (fcsOk : Bool) (age : Nat)
  /-- LAUNCH_HANDOVER (R331). -/
  | launchHandover (old : Bool) (i : Nat)
  /-- LAUNCH_FIRE (R291). -/
  | launchFire (i : Nat)
  /-- LAUNCH_DEFERRED_START (R291). -/
  | launchDeferredStart (p : Fin 2)
  /-- UNSCHED_FRAME_START (R292). -/
  | unschedFrameStart (p : Fin 2)
  /-- TIME_CAPTURE (R307). -/
  | timeCapture (v : Word)
  /-- SYNC_RECEIVE (R318). -/
  | syncReceive (m : SyncMsg) (age : Nat)
  /-- FOLLOW_UP_RECEIVE (R320). -/
  | followUpReceive (dom : Byte) (seq : Fin 65536) (i : Machine.SyncInfo)
  /-- FOLLOW_UP_TIMEOUT (R320). -/
  | followUpTimeout (dom : Byte) (seq : Fin 65536)
  /-- ANNOUNCE_RECEIVE (R312). -/
  | announceReceive (b : List Byte)
  /-- PDELAY_REQ_RECEIVE (R312). -/
  | pdelayReqReceive (p : Fin 2) (seq : Fin 65536) (req : List Byte) (age : Nat)
  /-- PDELAY_RESP_RECEIVE (R312). -/
  | pdelayRespReceive (p : Fin 2) (followUp : Bool) (seq : Fin 65536) (t age : Nat)
  /-- PDELAY_INTERVAL (R312). -/
  | pdelayInterval (p : Fin 2)
  /-- SIGNALING_RECEIVE (R315). -/
  | signalingReceive (p : Fin 2) (sync pdelay : Option Int) (capable : Option Byte)
  /-- SYNC_RECEIPT_TIMEOUT (R315). -/
  | syncReceiptTimeout (d : Fin 2)
  /-- SWITCH_REQUEST (R326). -/
  | switchRequest (v : Word)
  /-- SUSPECT_TIMEOUT (R330). -/
  | suspectTimeout (d : Fin 2)
  /-- ASYM_WRITE (R318). -/
  | asymWrite (d : Fin 2) (v : Word)
  /-- TRIGGER_HANDOVER (R333). -/
  | triggerHandover (e : TrigEvent)
  /-- PP_TRIGGER_ASSERT (R334). -/
  | ppTriggerAssert (p : Fin 2)
  /-- PP_TRIGGER_RELEASE (R334). -/
  | ppTriggerRelease (p : Fin 2)
  /-- SWAP_REQUEST (R361). -/
  | swapRequest (grade : Option (Fin 3)) (variant : Option (Fin 9))
  /-- STAGING_COMPLETE (R361). -/
  | stagingComplete (loads : Machine.SetLoads)
  /-- FLASH_OP_DONE (R391). -/
  | flashOpDone (fails : Fin 4)
  /-- EARLY_SECTION_VERIFIED (R384). -/
  | earlySectionVerified (cfg : Machine.DeviceConfig)
  /-- POWER_ON_RESET (R511). -/
  | powerOnReset (straps : Fin 4)
  /-- PGOOD_RISE (R402). -/
  | pgoodRise (f : FlashInit)
  /-- KEYOFF_RECORD_WRITTEN (R415). -/
  | keyoffRecordWritten (f : FlashInit)
  /-- DMA_GO (R421). -/
  | dmaGo (c : Fin 32) (m : Machine.Master) (v : Word)
  /-- DMA_ABORT (R434). -/
  | dmaAbort (c : Fin 32) (m : Machine.Master) (v : Word)
  /-- DESCRIPTOR_FETCH_DONE (R423). -/
  | descriptorFetchDone (c : Fin 32)
  /-- DMA_BURST_GRANT (R425). -/
  | dmaBurstGrant (err : ReadErrs)
  /-- DMA_BURST_DONE (R432). -/
  | dmaBurstDone (c : Fin 32)
  /-- DESCRIPTOR_COMPLETE (R432). -/
  | descriptorComplete (c : Fin 32)
  /-- DMA_SW_REQUEST (R430). -/
  | dmaSwRequest (m : Machine.Master) (v : Word)
  /-- DMA_DOMAIN_OFF_TIMEOUT (R437). -/
  | dmaDomainOffTimeout (c : Fin 32) (confirmed : Nat)
  /-- BRIDGE_RETRY_TIMEOUT (R442). -/
  | bridgeRetryTimeout (x : Machine.C2dAccess)
  /-- EXCLUSIVE_READ (R440). -/
  | exclusiveRead (core : Bool) (addr : Word)
  /-- EXCLUSIVE_WRITE (R440). -/
  | exclusiveWrite (core : Bool) (addr v : Word)
  /-- SEMAPHORE_TIMEOUT (R440). -/
  | semaphoreTimeout (i : Fin 16)
  /-- SEMAPHORE_RELEASE (R444). -/
  | semaphoreRelease (m : Machine.Master) (v : Word)
  /-- ANALOGUE_PHASE_DONE (R449). -/
  | analoguePhaseDone (r : AnaResult)
  /-- MEMORY_PHASE_DONE (R453). -/
  | memoryPhaseDone (r : MemResult)
  /-- ZEROISE_DONE (R457). -/
  | zeroiseDone (x : ZeroResult)
  /-- LOGIC_TEST_PAIR_DONE (R461). -/
  | logicTestPairDone (rs : List LogicResult)
  /-- BIST_RUN (R464). -/
  | bistRun (v : Word)
  /-- BIST_ABORT (R447). -/
  | bistAbort (v : Word)
  /-- UNIT_TEST_DONE (R446). -/
  | unitTestDone (logic : LogicResult) (mem : UnitMem)
  /-- ALM_SAMPLE (R469). -/
  | almSample (r : Machine.AlmReading)
  /-- AVS_REMEASURE (R475). -/
  | avsRemeasure (r : Machine.AlmReading)
  /-- RTC_SET (R483). -/
  | rtcSet (v : Word)
  /-- REBASE_WRITE (R494). -/
  | rebaseWrite (v : Word)
  /-- DOMAIN_REQUEST (R506). -/
  | domainRequest (v : Word)
  /-- DOMAIN_POWER_UP_DONE (R504). -/
  | domainPowerUpDone (d : Fin 8)
  /-- DOMAIN_POWER_DOWN_DONE (R505). -/
  | domainPowerDownDone (d : Fin 8)
  /-- DOMAIN_RESET (R510). -/
  | domainReset (v : Word)
  /-- DOMAIN_RESTORE (R510). -/
  | domainRestore (d : Fin 8)
  /-- WDT_CONFIG_WRITE (R513). -/
  | wdtConfigWrite (v : Word)
  /-- WATCHDOG_KICK (R514). -/
  | watchdogKick (v : Word)
  /-- WATCHDOG_EXPIRY (R514). -/
  | watchdogExpiry (f : FlashInit)
  /-- SPI_WRITE (R528). -/
  | spiWrite (addr : Word) (ws : List (Fin 5 × Word)) (cut : Bool)
  /-- SPI_READ (R526). -/
  | spiRead (addr : Word) (n : Nat)
  /-- SPI_WRITE_FIXED (R528). -/
  | spiWriteFixed (addr : Word) (ws : List (Fin 5 × Word)) (cut : Bool)
  /-- SPI_READ_FIXED (R526). -/
  | spiReadFixed (addr : Word) (n : Nat)
  /-- SPI_EXCL_WRITE (R529). -/
  | spiExclWrite (addr : Word) (v : Option Word)
  /-- SPI_EXCL_READ (R529). -/
  | spiExclRead (addr : Word)
  /-- EVENT_REPORT (R534). -/
  | eventReport (irq : Bool)
  /-- MAILBOX_PUSH (R537). -/
  | mailboxPush (v : Word)
  /-- MAILBOX_RESET (R540). -/
  | mailboxReset (v : Word)
  /-- SNAPSHOT (R544). -/
  | snapshot (m : Machine.Master) (v : Word)
  /-- SYMBOL_ERROR (R47). -/
  | symbolError (n : Fin 16) (err : Option SymbolFault) (wrong : Bool)
  /-- FEC_CODEWORD_ERROR (R283). -/
  | fecCodewordError (p : Fin 2) (uncorrectable : Bool)
  /-- LINK_FAULT_CLEAR (R280). -/
  | linkFaultClear (p : Fin 2)
  /-- RESET_RELEASE (R512). -/
  | resetRelease (straps : Fin 4) (f : FlashInit)
  /-- STATS_RANGE_END (R262). -/
  | statsRangeEnd (st : Fin 64)
  /-- JOURNAL_WRITE_TIMEOUT (R490). -/
  | journalWriteTimeout (f : FlashInit)
  /-- LOCKSTEP_MISMATCH (R24). -/
  | lockstepMismatch
  /-- SLOT_BOUNDARY (R35). -/
  | slotBoundary
  /-- PERIOD_START (R345). -/
  | periodStart
  /-- STORE_INIT_DONE (R166). -/
  | storeInitDone
  /-- PASS_ITEM_TAKE (R302). -/
  | passItemTake
  /-- PASS_RANGE_END (R302). -/
  | passRangeEnd
  /-- RELAY_SYNC_TRANSMIT (R319). -/
  | relaySyncTransmit
  /-- RELAY_TIMEOUT (R319). -/
  | relayTimeout
  /-- GM_SYNC_TRANSMIT (R313). -/
  | gmSyncTransmit
  /-- ACQ_STEP_APPLY (R310). -/
  | acqStepApply
  /-- DOMAIN_SWITCH (R325). -/
  | domainSwitch
  /-- AUTO_SELECT_TIMEOUT (R324). -/
  | autoSelectTimeout
  /-- HOLD_TIMEOUT (R328). -/
  | holdTimeout
  /-- SWAP_GO_GUARD (R362). -/
  | swapGoGuard
  /-- CHAIN_PREP_SEND (R367). -/
  | chainPrepSend
  /-- CHAIN_PREP_RECEIVE (R368). -/
  | chainPrepReceive
  /-- CHAIN_READINESS_CHECK (R368). -/
  | chainReadinessCheck
  /-- CHAIN_CANCEL_RECEIVE (R368). -/
  | chainCancelReceive
  /-- SWAP_REPORT (R368). -/
  | swapReport
  /-- MAIN_PASS_DONE (R384). -/
  | mainPassDone
  /-- COMMIT_DONE (R390). -/
  | commitDone
  /-- POWER_LOSS (R394). -/
  | powerLoss
  /-- WAKE_PIN_DECLARE (R399). -/
  | wakePinDeclare
  /-- SPI_WAKE (R397). -/
  | spiWake
  /-- RTC_ALARM (R485). -/
  | rtcAlarm
  /-- RESET_PIN (R512). -/
  | resetPin
  /-- RAIL_TIMEOUT (R501). -/
  | railTimeout
  /-- PGOOD_FALL (R502). -/
  | pgoodFall
  /-- RAIL_RETRY (R502). -/
  | railRetry
  /-- SCRIPT_WAIT_TIMEOUT (R402). -/
  | scriptWaitTimeout
  /-- BOOT_PREP_TIMER (R408). -/
  | bootPrepTimer
  /-- NO_HOST_TIMEOUT (R401). -/
  | noHostTimeout
  /-- FAULT_POLICY_SAMPLE (R411). -/
  | faultPolicySample
  /-- SHUTDOWN_COMPLETE (R415). -/
  | shutdownComplete
  /-- BRIDGE_ACCESS_REPEAT (R442). -/
  | bridgeAccessRepeat
  /-- MAILBOX_POP (R441). -/
  | mailboxPop
  /-- KEY_WAIT_TIMEOUT (R456). -/
  | keyWaitTimeout
  /-- AVS_ACK (R473). -/
  | avsAck
  /-- AVS_SETTLE_DONE (R473). -/
  | avsSettleDone
  /-- AVS_ACK_TIMEOUT (R474). -/
  | avsAckTimeout
  /-- HOURLY_RECORD_DUE (R488). -/
  | hourlyRecordDue
  /-- WATCHDOG_WARNING (R514). -/
  | watchdogWarning
  /-- SUPPLY_WARNING_ASSERT (R516). -/
  | supplyWarningAssert
  /-- SUPPLY_WARNING_RELEASE (R519). -/
  | supplyWarningRelease
  /-- SUPPLY_RESET_TRIP (R519). -/
  | supplyResetTrip
  /-- SPI_STATUS (R529). -/
  | spiStatus
  /-- SPI_RESERVED_COMMAND (R525). -/
  | spiReservedCommand
  /-- SPI_READ_TIMEOUT (R527). -/
  | spiReadTimeout
  /-- POSTED_WRITE_DONE (R528). -/
  | postedWriteDone
  /-- MF_READ (R533). -/
  | mfRead
  /-- MF_WRITE (R533). -/
  | mfWrite
  /-- MF_MBX (R542). -/
  | mfMbx
  /-- MF_INVALID_REQUEST (R532). -/
  | mfInvalidRequest
  /-- IRQ_EVENT_HOLDOFF_END (R534). -/
  | irqEventHoldoffEnd
  /-- MAILBOX_REPLY_WRITE (R540). -/
  | mailboxReplyWrite
  /-- NOP (R539). -/
  | nop
  /-- SCENE_SELECT (R539). -/
  | sceneSelect
  /-- IMG_BEGIN (R390). -/
  | imgBegin
  /-- IMG_DATA (R390). -/
  | imgData
  /-- IMG_COMMIT (R390). -/
  | imgCommit
  /-- IMG_ABORT (R390). -/
  | imgAbort
  /-- KEY_PROV (R543). -/
  | keyProv
  /-- TIME_SET (R539). -/
  | timeSet
  /-- MAINT_ENTER (R413). -/
  | maintEnter
  /-- MAINT_EXIT (R414). -/
  | maintExit
  /-- SHUTDOWN (R415). -/
  | shutdown
  /-- MBX_INVALID_COMMAND (R539). -/
  | mbxInvalidCommand
  /-- SNAPSHOT_DONE (R544). -/
  | snapshotDone
  /-- SUPPLY_MONITOR_ARM (R516). -/
  | supplyMonitorArm
  /-- SPI_TARGET_READY (R397). -/
  | spiTargetReady
  /-- CHAIN_CANCEL_SEND (R368). -/
  | chainCancelSend
deriving DecidableEq, Repr

end Sys2Proof
end

