-- ==== Sys2Proof/Decode.lean ====
section
/-! DEFINITION. Words and commands. The rows of spec/opcode_table.json give no bits, so no word spells a row; the bundles of
the engines are words of the spec's own, and `decodeBundle` reads the commands of one. -/

namespace Sys2Proof

open Machine

/-- The command that a word spells by the bits of spec/opcode_table.json: none, since no row of it has bits. -/
def decodeTableWord (_nbits _w : Nat) : Option Instr := none

/-- The command of an SPI transaction (R524, R525, R528) whose bytes on SPI_MOSI are `bs`, the command byte first: of a read, the host clocks for
`n` words; of a write, a word of fewer than four bytes is cut off. None without a command byte or a whole address. -/
def spiCommand (bs : List Byte) (n : Nat) : Option Instr :=
  match bs with
  | [] => none
  | c :: rest =>
    let addr := BitVec.ofNat 32 (be (rest.take 4))
    let data := rest.drop 4
    let words := (upto (data.length / 4)).map (fun i => ((0 : Fin 5), (BitVec.ofNat 32 (be (slice data (4 * i) 4)) : Word)))
    let cut := data.length % 4 != 0
    let addressed := fun (i : Instr) => if 4 ≤ rest.length then some i else none
    match c.toNat with
    | 0x02 => addressed (.spiWrite addr words cut)
    | 0x03 => addressed (.spiRead addr n)
    | 0x05 => some .spiStatus
    | 0x0A => addressed (.spiWriteFixed addr words cut)
    | 0x0B => addressed (.spiReadFixed addr n)
    | 0x12 => addressed (.spiExclWrite addr (words.head?.map (·.2)))
    | 0x13 => addressed (.spiExclRead addr)
    | _ => some .spiReservedCommand

/-- The field of `w` bits at bit `lo` of the bundle, below 2^w. -/
def fin (w b lo : Nat) : Fin (2 ^ w) := ⟨fld b lo w, Nat.mod_lt _ (Nat.two_pow_pos w)⟩

/-- A V slot (R220): the slot's 19 bits from bit `lo` of bundle `b`. -/
def decodeV (k : Fin 8) (e : Fin 16) (b lo : Nat) : List Instr :=
  let o : VecOp := { ps := fin 2 b 60, vd := fin 5 b (lo + 10), va := fin 5 b (lo + 5), vb := fin 5 b lo }
  match fld b (lo + 15) 4 with
  | 0 => [.vnop k e]
  | 1 => [.vadd k e o]
  | 2 => [.vaddu k e o]
  | 3 => [.vsub k e o]
  | 4 => [.vsubu k e o]
  | 5 => [.vmin k e o]
  | 6 => [.vmax k e o]
  | 7 => [.vminu k e o]
  | 8 => [.vmaxu k e o]
  | 9 => [.vand k e o]
  | 10 => [.vor k e o]
  | 11 => [.vxor k e o]
  | 12 => [.vmulq k e o]
  | 13 => [.vmuluq k e o]
  | 14 => [.vshr k e o]
  | _ => [.vshl k e o]

/-- The LS slot from bit `lo` (R221). -/
def decodeLs (k : Fin 8) (e : Fin 16) (b lo : Nat) : List Instr :=
  let o : LsOp := { ps := fin 2 b 60, vr := fin 5 b (lo + 5), ar := fin 3 b (lo + 2), inc := fin 2 b lo }
  match fld b (lo + 10) 2 with
  | 0 => []
  | 1 => [.vld k e o]
  | 2 => [.vst k e o]
  | _ => [.sld k e o]

/-- The SC slot from bit 0 (R224). -/
def decodeSc (k : Fin 8) (e : Fin 16) (b : Nat) : List Instr :=
  match fld b 8 2 with
  | 0 => []
  | 1 => [.sadd k e (fin 4 b 4) (fin 4 b 0)]
  | 2 => [.ssub k e (fin 4 b 4) (fin 4 b 0)]
  | _ => [.smov k e (fin 4 b 4) (fin 4 b 0)]

/-- The SL slot from bit 0 (R224): none where its code is reserved. -/
def decodeSl (k : Fin 8) (e : Fin 16) (b : Nat) : Option (List Instr) :=
  let o : SlOp := { sd := fin 4 b 19, sa := fin 4 b 15, imm := fin 15 b 0 }
  match fld b 23 6 with
  | 0x00 => some []
  | 0x01 => some [.saddi k e o]
  | 0x02 => some [.sandi k e o]
  | 0x03 => some [.sori k e o]
  | 0x04 => some [.sshli k e o]
  | 0x05 => some [.sshri k e o]
  | 0x06 => some [.ssrai k e o]
  | 0x07 => some [.slui k e o]
  | 0x08 => some [.smul k e o]
  | 0x09 => some [.sadd3 k e o]
  | 0x0A => some [.ssub3 k e o]
  | 0x10 => some [.br k e o]
  | 0x11 => some [.brz k e o]
  | 0x12 => some [.brnz k e o]
  | 0x13 => some [.brneg k e o]
  | 0x14 => some [.loop k e o]
  | 0x18 => some [.pmov k e o]
  | 0x19 => some [.spmov k e o]
  | 0x1A => some [.smode k e o]
  | 0x1B => some [.sstride k e o]
  | 0x1F => some [.endBundle k e]
  | _ => none

/-- The LX slot from bit 0 (R222): none where its code is reserved. -/
def decodeLx (k : Fin 8) (e : Fin 16) (b : Nat) : Option (List Instr) :=
  let o : LxOp := { ps := fin 2 b 60, vr := fin 5 b 13, ar := fin 3 b 10, ofs := fin 10 b 0 }
  match fld b 18 4 with
  | 0 => some []
  | 1 => some [.vldo k e o]
  | 2 => some [.vsto k e o]
  | 3 => some [.vldb k e o]
  | 4 => some [.vgath k e o]
  | 5 => some [.vlut k e o]
  | 8 => some [.sldo k e o]
  | 9 => some [.ssto k e o]
  | _ => none

/-- An extended bundle (R228): none where its code is reserved. -/
def decodeX (k : Fin 8) (e : Fin 16) (b : Nat) : Option (List Instr) :=
  let c : CtlOp := { sd := fin 4 b 52, sa := fin 4 b 48, sb := fin 4 b 44, sc := fin 4 b 40, qsel := fin 2 b 38 }
  let es := bitOf b 46
  let o : ExtOp := ⟨fin 3 b 53, fin 2 b 51, fin 4 b 47, es, fin 5 b 41, fin 5 b 36, fin 5 b 31, fin 16 b 15⟩
  match fld b 56 6 with
  | 0x00 => some [.xnop k e]
  | 0x01 => some [.qlen k e c]
  | 0x02 => some [.qpop k e c]
  | 0x03 => some [.emit k e c]
  | 0x04 => some [.ctrlw k e c]
  | 0x20 => some [.valu k e o]
  | 0x21 => some [.vmac k e o]
  | 0x22 => some [.vmacu k e o]
  | 0x23 => some [.vnarrow k e o]
  | 0x24 => some [.vnarrowu k e o]
  | 0x25 => some [.vmulr k e o]
  | 0x26 => some [.vmulru k e o]
  | 0x27 => some [.vsplat k e o]
  | 0x28 => some [.vcmp k e o]
  | 0x29 => some [.vsel k e o]
  | 0x2A => some [.vred k e o]
  | 0x2B => some [.vperm k e o]
  | 0x2C => some [.vext k e o]
  | 0x2D => some [.vabsd k e o]
  | _ => none

/-- The operations of bundle `b` for engine `e` of cluster `k` (R218-R228): none where a slot's code is reserved, which is
fault cause 1 (R219). -/
def decodeBundle (k : Fin 8) (e : Fin 16) (b : Nat) : Option (List Instr) :=
  match fld b 62 2 with
  | 0 => some (decodeV k e b 41 ++ decodeV k e b 22 ++ decodeLs k e b 10 ++ decodeSc k e b)
  | 1 => (decodeSl k e b).map (fun l => decodeV k e b 41 ++ decodeLs k e b 29 ++ l)
  | 2 => (decodeLx k e b).map (fun l => decodeV k e b 41 ++ decodeV k e b 22 ++ l)
  | _ => decodeX k e b

/-! ### The encoder of bundles, from the same tables (R218-R228) -/

/-- `n` where an operation is of engine `e` of cluster `k`. -/
def atEngine (k : Fin 8) (e : Fin 16) (k' : Fin 8) (e' : Fin 16) (n : Nat) : Option Nat := if k' = k ∧ e' = e then some n else none

/-- The 19 bits of a V slot with code `c`, in a bundle of predicate `ps` (R220). -/
def vBits (ps : Fin 4) (c : Nat) (o : VecOp) : Option Nat :=
  if o.ps = ps then some (c * 2 ^ 15 + o.vd * 2 ^ 10 + o.va * 2 ^ 5 + o.vb) else none

/-- A V slot that holds operation `i` (R220). -/
def encodeV (k : Fin 8) (e : Fin 16) (ps : Fin 4) (i : Instr) : Option Nat :=
  match i with
  | .vnop k' e' => atEngine k e k' e' 0
  | .vadd k' e' o => (vBits ps 1 o).bind (atEngine k e k' e')
  | .vaddu k' e' o => (vBits ps 2 o).bind (atEngine k e k' e')
  | .vsub k' e' o => (vBits ps 3 o).bind (atEngine k e k' e')
  | .vsubu k' e' o => (vBits ps 4 o).bind (atEngine k e k' e')
  | .vmin k' e' o => (vBits ps 5 o).bind (atEngine k e k' e')
  | .vmax k' e' o => (vBits ps 6 o).bind (atEngine k e k' e')
  | .vminu k' e' o => (vBits ps 7 o).bind (atEngine k e k' e')
  | .vmaxu k' e' o => (vBits ps 8 o).bind (atEngine k e k' e')
  | .vand k' e' o => (vBits ps 9 o).bind (atEngine k e k' e')
  | .vor k' e' o => (vBits ps 10 o).bind (atEngine k e k' e')
  | .vxor k' e' o => (vBits ps 11 o).bind (atEngine k e k' e')
  | .vmulq k' e' o => (vBits ps 12 o).bind (atEngine k e k' e')
  | .vmuluq k' e' o => (vBits ps 13 o).bind (atEngine k e k' e')
  | .vshr k' e' o => (vBits ps 14 o).bind (atEngine k e k' e')
  | .vshl k' e' o => (vBits ps 15 o).bind (atEngine k e k' e')
  | _ => none

/-- The 12 bits of the LS slot with code `c` (R221). -/
def lsBits (ps : Fin 4) (c : Nat) (o : LsOp) : Option Nat :=
  if o.ps = ps then some (c * 2 ^ 10 + o.vr * 2 ^ 5 + o.ar * 2 ^ 2 + o.inc) else none

/-- An LS slot that holds operation `i` (R221). -/
def encodeLs (k : Fin 8) (e : Fin 16) (ps : Fin 4) (i : Instr) : Option Nat :=
  match i with
  | .vld k' e' o => (lsBits ps 1 o).bind (atEngine k e k' e')
  | .vst k' e' o => (lsBits ps 2 o).bind (atEngine k e k' e')
  | .sld k' e' o => (lsBits ps 3 o).bind (atEngine k e k' e')
  | _ => none

/-- An SC slot that holds operation `i` (R224). -/
def encodeSc (k : Fin 8) (e : Fin 16) (i : Instr) : Option Nat :=
  match i with
  | .sadd k' e' d a => atEngine k e k' e' (1 * 2 ^ 8 + d * 2 ^ 4 + a)
  | .ssub k' e' d a => atEngine k e k' e' (2 * 2 ^ 8 + d * 2 ^ 4 + a)
  | .smov k' e' d a => atEngine k e k' e' (3 * 2 ^ 8 + d * 2 ^ 4 + a)
  | _ => none

/-- The 29 bits of the SL slot with code `c` (R224). -/
def slBits (c : Nat) (o : SlOp) : Nat := c * 2 ^ 23 + o.sd * 2 ^ 19 + o.sa * 2 ^ 15 + o.imm

/-- An SL slot that holds operation `i` (R224). -/
def encodeSl (k : Fin 8) (e : Fin 16) (i : Instr) : Option Nat :=
  match i with
  | .saddi k' e' o => atEngine k e k' e' (slBits 0x01 o)
  | .sandi k' e' o => atEngine k e k' e' (slBits 0x02 o)
  | .sori k' e' o => atEngine k e k' e' (slBits 0x03 o)
  | .sshli k' e' o => atEngine k e k' e' (slBits 0x04 o)
  | .sshri k' e' o => atEngine k e k' e' (slBits 0x05 o)
  | .ssrai k' e' o => atEngine k e k' e' (slBits 0x06 o)
  | .slui k' e' o => atEngine k e k' e' (slBits 0x07 o)
  | .smul k' e' o => atEngine k e k' e' (slBits 0x08 o)
  | .sadd3 k' e' o => atEngine k e k' e' (slBits 0x09 o)
  | .ssub3 k' e' o => atEngine k e k' e' (slBits 0x0A o)
  | .br k' e' o => atEngine k e k' e' (slBits 0x10 o)
  | .brz k' e' o => atEngine k e k' e' (slBits 0x11 o)
  | .brnz k' e' o => atEngine k e k' e' (slBits 0x12 o)
  | .brneg k' e' o => atEngine k e k' e' (slBits 0x13 o)
  | .loop k' e' o => atEngine k e k' e' (slBits 0x14 o)
  | .pmov k' e' o => atEngine k e k' e' (slBits 0x18 o)
  | .spmov k' e' o => atEngine k e k' e' (slBits 0x19 o)
  | .smode k' e' o => atEngine k e k' e' (slBits 0x1A o)
  | .sstride k' e' o => atEngine k e k' e' (slBits 0x1B o)
  | .endBundle k' e' => atEngine k e k' e' (0x1F * 2 ^ 23)
  | _ => none

/-- The 22 bits of the LX slot with code `c` (R222). -/
def lxBits (ps : Fin 4) (c : Nat) (o : LxOp) : Option Nat :=
  if o.ps = ps then some (c * 2 ^ 18 + o.vr * 2 ^ 13 + o.ar * 2 ^ 10 + o.ofs) else none

/-- An LX slot that holds operation `i` (R222). -/
def encodeLx (k : Fin 8) (e : Fin 16) (ps : Fin 4) (i : Instr) : Option Nat :=
  match i with
  | .vldo k' e' o => (lxBits ps 1 o).bind (atEngine k e k' e')
  | .vsto k' e' o => (lxBits ps 2 o).bind (atEngine k e k' e')
  | .vldb k' e' o => (lxBits ps 3 o).bind (atEngine k e k' e')
  | .vgath k' e' o => (lxBits ps 4 o).bind (atEngine k e k' e')
  | .vlut k' e' o => (lxBits ps 5 o).bind (atEngine k e k' e')
  | .sldo k' e' o => (lxBits ps 8 o).bind (atEngine k e k' e')
  | .ssto k' e' o => (lxBits ps 9 o).bind (atEngine k e k' e')
  | _ => none

/-- The 62 bits of a control operation with code `c` (R228). -/
def ctlBits (c : Nat) (o : CtlOp) : Nat := c * 2 ^ 56 + o.sd * 2 ^ 52 + o.sa * 2 ^ 48 + o.sb * 2 ^ 44 + o.sc * 2 ^ 40 + o.qsel * 2 ^ 38

/-- The 62 bits of an extended vector operation with code `c` (R228). -/
def extBits (c : Nat) (o : ExtOp) : Nat :=
  c * 2 ^ 56 + o.pd * 2 ^ 53 + o.rnd * 2 ^ 51 + o.sh * 2 ^ 47 + b2n o.es * 2 ^ 46 + o.vd * 2 ^ 41 + o.va * 2 ^ 36 + o.vb * 2 ^ 31 + o.imm * 2 ^ 15

/-- An extended bundle's 62 bits that hold operation `i` (R228). -/
def encodeX (k : Fin 8) (e : Fin 16) (i : Instr) : Option Nat :=
  match i with
  | .xnop k' e' => atEngine k e k' e' 0
  | .qlen k' e' o => atEngine k e k' e' (ctlBits 0x01 o)
  | .qpop k' e' o => atEngine k e k' e' (ctlBits 0x02 o)
  | .emit k' e' o => atEngine k e k' e' (ctlBits 0x03 o)
  | .ctrlw k' e' o => atEngine k e k' e' (ctlBits 0x04 o)
  | .valu k' e' o => atEngine k e k' e' (extBits 0x20 o)
  | .vmac k' e' o => atEngine k e k' e' (extBits 0x21 o)
  | .vmacu k' e' o => atEngine k e k' e' (extBits 0x22 o)
  | .vnarrow k' e' o => atEngine k e k' e' (extBits 0x23 o)
  | .vnarrowu k' e' o => atEngine k e k' e' (extBits 0x24 o)
  | .vmulr k' e' o => atEngine k e k' e' (extBits 0x25 o)
  | .vmulru k' e' o => atEngine k e k' e' (extBits 0x26 o)
  | .vsplat k' e' o => atEngine k e k' e' (extBits 0x27 o)
  | .vcmp k' e' o => atEngine k e k' e' (extBits 0x28 o)
  | .vsel k' e' o => atEngine k e k' e' (extBits 0x29 o)
  | .vred k' e' o => atEngine k e k' e' (extBits 0x2A o)
  | .vperm k' e' o => atEngine k e k' e' (extBits 0x2B o)
  | .vext k' e' o => atEngine k e k' e' (extBits 0x2C o)
  | .vabsd k' e' o => atEngine k e k' e' (extBits 0x2D o)
  | _ => none

/-- The slot bits of an operation that may be absent: 0 for none. -/
def optBits {α : Type} (f : α → Option Nat) : Option α → Option Nat
  | none => some 0
  | some i => f i

/-- A full bundle (R218). -/
def encodeFull (k : Fin 8) (e : Fin 16) (ps : Fin 4) (v0 v1 : Instr) (ls sc : Option Instr) : Option Nat := do
  let a ← encodeV k e ps v0
  let b ← encodeV k e ps v1
  let c ← optBits (encodeLs k e ps) ls
  let d ← optBits (encodeSc k e) sc
  return ps * 2 ^ 60 + a * 2 ^ 41 + b * 2 ^ 22 + c * 2 ^ 10 + d

/-- A scalar-long bundle (R218). -/
def encodeScalarLong (k : Fin 8) (e : Fin 16) (ps : Fin 4) (v0 : Instr) (ls sl : Option Instr) : Option Nat := do
  let a ← encodeV k e ps v0
  let b ← optBits (encodeLs k e ps) ls
  let c ← optBits (encodeSl k e) sl
  return 2 ^ 62 + ps * 2 ^ 60 + a * 2 ^ 41 + b * 2 ^ 29 + c

/-- A memory-long bundle (R218). -/
def encodeMemoryLong (k : Fin 8) (e : Fin 16) (ps : Fin 4) (v0 v1 : Instr) (lx : Option Instr) : Option Nat := do
  let a ← encodeV k e ps v0
  let b ← encodeV k e ps v1
  let c ← optBits (encodeLx k e ps) lx
  return 2 ^ 63 + ps * 2 ^ 60 + a * 2 ^ 41 + b * 2 ^ 22 + c

/-- An extended bundle (R218). -/
def encodeExtended (k : Fin 8) (e : Fin 16) (i : Instr) : Option Nat := (encodeX k e i).map (· + 2 ^ 63 + 2 ^ 62)

end Sys2Proof
end

