-- ==== Sys2Proof/Config.lean ====
section
/-! DEFINITION. What the spec leaves open: free values (constants with no body), and the functions of standards the spec
names without restating (hashes, signatures, ciphers). Nothing in Lean can evaluate them. -/

namespace Sys2Proof.Config

/-- The free values: `freeValue n` is the n-th value the spec leaves open in a run (log entry 1). The state counts n. -/
opaque freeValue : Nat → Nat

/-- An upset of the store's memories: the two copies of a queue's head, tail or marker index differ (R140), the two pointer entries of
a cell differ (R139), a word of a cell has an error of one bit (R163), or one that is not correctable, read as `v` (R164). -/
inductive StoreUpset where
  | head (q : Nat)
  | tail (q : Nat)
  | marker (q : Nat)
  | entry (c : Nat)
  | single (c w : Nat)
  | double (c w v : Nat)
deriving DecidableEq, Repr

/-- The upset that strikes the store in a core cycle, if any: the spec says how the store answers upsets, not when they come (log
entry 178). -/
opaque storeUpset : Nat → Option StoreUpset

/-- SHA-256 of a list of bytes (FIPS 180-4, named by spec/11_configuration_image.md), 32 bytes. -/
opaque sha256 : List Byte → List Byte

/-- ECDSA P-256 verification (R381): public key, SHA-256 digest, signature. -/
opaque ecdsaOk : List Byte → List Byte → List Byte → Bool

/-- The AES-256 encryption of one block of 16 bytes (FIPS 197, R388): key, block. -/
opaque aes256 : List Byte → List Byte → List Byte

/-- The stated stream latencies in the bytes of the stream configuration of a table set (R342), whose layout the spec does not give
(log entry 20). -/
opaque statedLatencies : List Byte → List Nat

/-- AES key wrap (RFC 3394) under the OTP device key, 40 bytes (R456): device key, key. -/
opaque keyWrap : List Byte → List Byte → List Byte

/-- Its inverse; none where the integrity check fails (R456). -/
opaque keyUnwrap : List Byte → List Byte → Option (List Byte)

/-- The counter-mode encryption of GCM, which is its own inverse, with AES-256 or else AES-128 (R293): suite, key, initial value
of 12 bytes, data. -/
opaque gcmCipher : Bool → List Byte → List Byte → List Byte → List Byte

/-- The 16-byte tag of GCM, with AES-256 or else AES-128 (R293): suite, key, initial value of 12 bytes, authenticated data,
ciphertext. -/
opaque gcmTag : Bool → List Byte → List Byte → List Byte → List Byte → List Byte

/-- The bytes of table memory of sequencer i (0 to 45), a limit of the load check whose value the spec does not give
(R356, code 4; log entry 27). -/
opaque tableMemory : Nat → Nat

/-- The value of a channel, R (0), G (1) or B (2), in a 2 x 2 quad whose colour filter pattern has no pixel of that
channel: pattern, channel, column and line of the quad. R116 states no value there (log entry 1). -/
opaque quadValue : Nat → Nat → Nat → Nat → Nat

/-- Where the path-delay monitors 20 to 47 lie: the spec says "spread over" four clusters each and gives no map (log entry
28). Its value is taken modulo 4 within the domain's clusters. -/
opaque monitorCluster : Nat → Nat

end Sys2Proof.Config
end

