-- ==== Sys2Proof/Machine/CfsState.lean ====
section
/-! DEFINITION. The state of the Central Frame Store beyond its registers (spec/04_central_frame_store.md). -/

namespace Sys2Proof.Machine

/-- KIND of a pointer entry (R139). -/
inductive ItemKind where
  | data | gap | flush | reset
deriving DecidableEq, Repr

/-- The content of a marker item (R152). -/
structure Marker where
  kind : ItemKind := .gap
  deferred : Bool := false
  cutItem : Bool := false    -- PARTIAL
  sat : Bool := false
  domain : Bool := false
  pool : Bool := false
  drops : Nat := 0
  firstCycle : Nat := 0
  lastCycle : Nat := 0
  firstHead : List Byte := []
  lastHead : List Byte := []
  cells : Nat := 0
  items : Nat := 0
deriving DecidableEq, Repr

/-- One item of a queue: how far its write and its read have come (R141, R143, R145). -/
structure CfsItem where
  kind : ItemKind := .data
  len : Nat := 0
  /-- The cells taken for it, in list order; of an accepted item the others are charged to it (R142, R143). -/
  cells : List Nat := []
  /-- Bytes that its producer has presented and that no cell holds yet. -/
  rest : List Byte := []
  /-- Its producer has still to present bytes (a push in bursts, R428). -/
  part : Bool := false
  committed : Bool := false
  claimed : Bool := false
  /-- Who claimed it: 0 the port itself, e + 1 a qpop of engine e (R236, R238). -/
  owner : Nat := 0
  /-- Its cells read with UE status (R164, R237). -/
  ue : Nat := 0
deriving DecidableEq, Repr

/-- An entry of the two pointer RAMs, which hold the same content (R139). -/
structure PtrEntry where
  len : Nat := 0
  eoi : Bool := false
  soi : Bool := false
  kind : ItemKind := .data
  /-- NEXT; none in a tail cell, where it is undefined. -/
  next : Option Nat := none
deriving DecidableEq, Repr

/-- One queue: configuration, items from head to tail, pending drops and watermark (R140, R149-R151, R169). -/
structure QueueState where
  en : Bool := false
  sched : Bool := false
  prod : Nat := 0
  cons : Nat := 0
  reserve : Nat := 0
  quota : Nat := 0
  marker : Nat := 0
  items : List CfsItem := []
  mark : Marker := {}
  pend : Nat := 0
  pendSat : Bool := false
  pendPool : Bool := false
  pendFirstHead : List Byte := []
  pendFirstCycle : Nat := 0
  pendLastHead : List Byte := []
  pendLastCycle : Nat := 0
  armed : Bool := false
  hwm : Bool := false
  xcnt : Nat := 0
  /-- Stalled pops of the consumer (R153). -/
  stall : Nat := 0
deriving DecidableEq, Repr

/-- An item as its consumer has received it: complete, or cut by a flush (R159). -/
structure Delivered where
  kind : ItemKind := .data
  bytes : List Byte := []
  /-- Cells read with UE status (R164, R237). -/
  ue : Nat := 0
  cut : Bool := false
  owner : Nat := 0
  /-- The cells of a cut item, of which the first hold what was read before the cut (R159). -/
  cells : List Nat := []
deriving DecidableEq, Repr

/-- A free list: runs of cells of one quad, each a first cell and a count, the cells 4 apart; head first. -/
abbrev Runs := List (Nat × Nat)

/-- The store. -/
structure CfsState where
  /-- The cells: cell c is bytes 256 c to 256 c + 255 (R132, R172). -/
  mem : Memory := []
  /-- The free lists of quads 0 to 3 (R142). -/
  free : List Runs := [[], [], [], []]
  ready : Bool := false
  queues : Map QueueState := []
  /-- The next quad of each port's rotation (R144). -/
  rot : Map Nat := []
  /-- Flush walks in request order: the cells each has still to return (R158). -/
  walks : List (List Nat) := []
  /-- Orphan cells that were orphans when the running audit pass began (R161). -/
  orphans : List Nat := []
  /-- Cells orphaned since then. -/
  orphansNew : List Nat := []
  /-- Cells that the allocator or a release has moved in this pass, and so marked (R161). -/
  marks : List Nat := []
  /-- Items read and not yet handled by their consumer, per queue, oldest first. -/
  delivered : Map (List Delivered) := []
  /-- The next cell the scrubber reads (R165). -/
  scrubPos : Nat := 0
  /-- Cells whose corrected words await their write-back (R163). -/
  scrubPend : List Nat := []
  /-- Retired macros: bank and macro (R171). -/
  retired : List (Nat × Nat) := []
  /-- Retired pointer RAM macros: the first cell and the number of the cells whose entries lie in each (R171). -/
  retiredPtr : List (Nat × Nat) := []
  /-- Cells released in the present core cycle (R145, R156). -/
  back : List Nat := []
  /-- What has struck the store and not been written again (R139, R140, R163, R164). -/
  upsets : List Config.StoreUpset := []
  /-- The core cycle at which CFS.CYCLE read 0. -/
  cycleBase : Nat := 0
deriving DecidableEq, Repr

end Sys2Proof.Machine
end

