-- ==== Sys2Proof/Machine/CluState.lean ====
section
/-! DEFINITION. The state of one engine cluster beyond its registers (spec/05_engine_clusters.md) and of one engine
(spec/06_engine_instruction_set.md). -/

namespace Sys2Proof.Machine

/-- A vector register: 16-bit lane i is bits 16 i + 15 to 16 i, 8-bit lane j bits 8 j + 7 to 8 j (R213). -/
abbrev Vec := BitVec 512

/-- What an operation in flight writes when its latency has elapsed (R242, R243). -/
inductive Dest where
  | vec (r : Nat) (value mask : Vec)
  | scal (r : Nat) (value : Word)
  | pred (r : Nat) (value : Word)
  | mode (value : Nat)
  | stride (value : Word)
  | lc (i value : Nat)
  /-- Bytes stored at an address of R215, those whose flag is set. -/
  | store (addr : Nat) (bytes : List (Byte × Bool))
  /-- The outlet's copy of an emitted segment, 64 bytes a cycle: line, local address and bytes of what is left, and what it has copied
  (R239). -/
  | segment (line addr len : Nat) (got : List Byte)
deriving DecidableEq, Repr

/-- An operation in flight: the engine cycle of its issue, the ends of cycle still to come, and its result. -/
structure Flight where
  issue : Nat
  left : Nat
  dst : Dest
deriving DecidableEq, Repr

/-- CLU.ENG_STAT.STATE. -/
inductive EngPhase where
  | idle | running | waiting | faulted
deriving DecidableEq, Repr

/-- CLU.ENG_STAT.STATE codes. -/
def EngPhase.code : EngPhase → Nat
  | .idle => 0
  | .running => 1
  | .waiting => 2
  | .faulted => 3

/-- A qpop whose engine waits: queue, local address, byte limit, status register (R236). -/
structure QpopWait where
  queue : Nat
  addr : Nat
  limit : Nat
  sd : Nat
deriving DecidableEq, Repr

/-- One engine (R213). -/
structure EngineState where
  phase : EngPhase := .idle
  task : Nat := 0
  ctx : Nat := 0
  pc : Nat := 0
  /-- The engine cycle, counted from the task's start edge (R177). -/
  t : Nat := 0
  v : Map Vec := []
  s : Map Word := []
  p : Map Word := []
  mode : Nat := 0
  stride : Word := 0
  lc0 : Nat := 0
  lc1 : Nat := 0
  /-- First and last bundle of the bodies of LC0 and LC1 (R226). -/
  body0 : Nat × Nat := (0, 0)
  body1 : Nat × Nat := (0, 0)
  flight : List Flight := []
  /-- The memory unit is occupied through this cycle (R244); 0: it is free. -/
  memBusy : Nat := 0
  /-- Issue has gone past bundle 2,047, where PC stays; only no-operations issue (R219; DEDUCED, log entry 149). -/
  past : Bool := false
  /-- Delay bundles still to issue after a branch, and its target where it is taken (R225). -/
  delay : Nat := 0
  target : Option Nat := none
  /-- Cycles in which nothing issues after a skipped loop body (R226). -/
  bubble : Nat := 0
  /-- The end bundle has issued (R227). -/
  ending : Bool := false
  ended : Bool := false
  wait : Option QpopWait := none
deriving DecidableEq, Repr

/-- An output line in assembly: the segments by engine (R239). -/
structure LineAsm where
  line : Nat
  segs : List (Nat × Option (List Byte))
  size : Nat
deriving DecidableEq, Repr

/-- How far a task has come. -/
inductive TaskPhase where
  | gather    -- until slot start + WD + 1
  | run       -- the program has started
  | idle      -- aborted, or the band is MISSING
deriving DecidableEq, Repr

/-- A task in progress (R180-R182, R193-R201). -/
structure TaskState where
  idx : Nat := 0
  ctx : Nat := 0
  mask : Nat := 0
  band : Nat := 0
  isBand : Bool := true
  entry : Nat := 0
  phase : TaskPhase := .gather
  /-- FLAGS of the band-close so far (R202). -/
  flags : Nat := 0
  /-- Carry items still to take (R193). -/
  carryLeft : Nat := 0
  /-- Gathering has stopped (R194). -/
  stopped : Bool := false
  /-- The watchdog edge has passed (R196). -/
  wdPassed : Bool := false
  /-- Window lines taken, with their items (R195). -/
  taken : List (Nat × List Byte) := []
  /-- The frame-open that opened the frame in this task (R201). -/
  openItem : Option (List Byte) := none
  /-- The item of a control task (R204). -/
  item : Option Delivered := none
  absentOwn : Nat := 0
  linesOut : Nat := 0
  asm : List LineAsm := []
  /-- Lines written; every engine of the mask has emitted for them (R239, R240). -/
  done : List Nat := []
deriving DecidableEq, Repr

/-- A control-write record in the FIFO (R205). -/
structure CtrlRec where
  ctx : Nat
  tgt : Nat
  ofs : Nat
  data : Nat
deriving DecidableEq, Repr

/-- One cluster. -/
structure CluState where
  /-- CLU.STAT.STATE (R209). -/
  svc : Nat := 0
  imemAct : Nat := 0
  imemRdy : Bool := false
  halted : Bool := false
  tasks : List TaskState := []
  engines : Map EngineState := []
  /-- Local data memories: engine e at 131072 e (R175). -/
  lmem : Memory := []
  smem : Memory := []
  /-- Instruction memories: engine e at 32768 e, half h at + 16384 h (R178). -/
  imem : Memory := []
  /-- The context store: byte offsets from 0x8_0000 of the window (R183). -/
  ctx : Memory := []
  fifo : List CtrlRec := []
  /-- Back-channel staging buffers: word w of context x at 8 x + w (R205). -/
  staging : Map Word := []
  /-- Contexts whose next submission is discarded, as refused or as dropped (R207). -/
  skipSubmit : List (Nat × Bool) := []
  /-- Contexts whose active buffer is being copied, with the writes that arrived meanwhile (R187). -/
  copying : List (Nat × List (Nat × Word)) := []
  /-- Contexts whose waiting commit carries no target (R185). -/
  noTarget : List Nat := []
  /-- The grade clock in force (R175, R365). -/
  grade : Nat := 0
deriving DecidableEq, Repr

end Sys2Proof.Machine
end

