-- ==== Sys2Proof/Machine/EthState.lean ====
section
/-! DEFINITION. The state of the Ethernet ports beyond their registers (spec/08_ethernet_ports_and_cascade.md). -/

namespace Sys2Proof.Machine

/-- Link states of a port (R282). -/
inductive PortLink where
  | off | fast | an | train | up | loop
deriving DecidableEq, Repr

/-- ETH.PSTAT.STATE (R282). -/
def PortLink.code : PortLink → Nat
  | .off => 0
  | .fast => 1
  | .an => 2
  | .train => 3
  | .up => 4
  | .loop => 5

/-- A unit in an egress queue, built for its launch (R252, R290): the Ethernet frame without its FCS, the
queue it stands in, and whether it is a line unit. -/
structure EgressUnit where
  frame : List Byte
  fn : Nat
  /-- The egress queue, 0 to 5: the one that STRM_CFG.EQ names (R290). -/
  queue : Nat := 0
  line : Bool
  /-- Its frame's flags hold CAMERA_ABSENT. -/
  absent : Bool := false
deriving DecidableEq, Repr

/-- A frame handed to a port's transmit interface: its bytes with the FCS, and the device time of its preamble. -/
structure SentFrame where
  bytes : List Byte
  at_ : Nat
deriving DecidableEq, Repr

/-- One port. -/
structure PortState where
  link : PortLink := .off
  /-- A local or remote fault is being received (R280). -/
  fault : Bool := false
  /-- The core cycle of the exit from OFF or UP (LINKUP_MS). -/
  since : Nat := 0
  /-- Device time at which the frame being sent has left the wire (R291). -/
  busyUntil : Nat := 0
  /-- Launches that wait behind an earlier frame (R291). -/
  deferred : List PendLaunch := []
  /-- Egress queues 6 and 7, oldest first (R290). -/
  q6 : List TimeMsg := []
  q7 : List (List Byte) := []
  /-- The last frame sent. -/
  sent : Option SentFrame := none
deriving DecidableEq, Repr

/-- The MACsec state (R293-R295): keys by association number, the transmit association in use, the next one, the
transmit packet number, and per receive association the next expected number. -/
structure MacsecState where
  txKeys : Map (Option (List Byte)) := []
  rxKeys : Map (Option (List Byte)) := []
  txAn : Nat := 0
  next : Option Nat := none
  pn : Nat := 0
  /-- The packet number that the next transmit association starts after (R543). -/
  nextPn : Nat := 0
  rxNext : Map Nat := []
deriving DecidableEq, Repr

/-- The ETH block. -/
structure EthState where
  ports : List PortState := [{}, {}]
  /-- The units built for launches: unit u of stream s at key 65536 s + u (R255, R291). -/
  units : Map (Option EgressUnit) := []
  /-- The pass-through frames copied for launch, by the INDEX of their entry (R302). -/
  pass : Map (Option (List Byte)) := []
  /-- The pass-through range that has begun: INDEX, EXPECT, whether it is served, whether it has ended (R302). -/
  passRange : Option (Nat × Nat × Bool × Bool) := none
  /-- The queue that the pass-through range pops: PASS_Q of the table set of its entry (R300, R363). -/
  passFrom : Nat := 0
  /-- The pass-through item held back (R302). -/
  passHeld : Option (List Byte) := none
  ms : MacsecState := {}
deriving DecidableEq, Repr

end Sys2Proof.Machine
end

