-- ==== Sys2Proof/Machine/FeState.lean ====
section
/-! DEFINITION. The state of one camera front end beyond its registers (spec/03_camera_front_ends.md). -/

namespace Sys2Proof.Machine

/-- A sample and its fill mark (R107). -/
abbrev Px := Nat × Bool

/-- One line of one exposure of the open frame (R99-R102); the line of an exposure not yet accepted or filled is the
default value. -/
structure FeLine where
  got : Bool := false
  px : List Px := []
  crc : Bool := false
  pad : Bool := false
  cut : Bool := false
  /-- The line's deadline has passed. -/
  dl : Bool := false
deriving DecidableEq, Repr

/-- The open frame (R98-R105). Line l of exposure e stands at key 65536 e + l. -/
structure FeFrame where
  num : Nat := 0
  width : Nat := 0
  height : Nat := 0
  nexp : Nat := 1
  /-- The entry that opened it, and the core cycle of the start of that entry's period (R353). -/
  entry : FeEntry := {}
  base : Nat := 0
  /-- Input bits per sample. -/
  bits : Nat := 8
  absent : Bool := false
  short : Bool := false
  long : Bool := false
  lines : Map FeLine := []
  fills : Nat := 0
  pads : Nat := 0
  cuts : Nat := 0
  lates : Nat := 0
  /-- A frame start has arrived in this window. -/
  fs : Bool := false
  /-- A frame end has arrived in this window. -/
  fe : Bool := false
  /-- A line has been accepted. -/
  anyLine : Bool := false
  sensorFc : Nat := 0
  /-- Merge rows whose write slots have come. -/
  written : Nat := 0
  /-- The capture instant in 2^-40 ns and the UNSYNC bit (R337). -/
  capture : Nat := 0
  unsync : Bool := false
deriving DecidableEq, Repr

/-- A merge row of a closed frame that awaits its write slot (R121, R123). -/
structure FeRow where
  num : Nat
  row : Nat
  item : Option (List Byte)
  part : Bool
  dyn : Nat
  /-- The core cycle of its write time (R353). -/
  due : Nat := 0
deriving DecidableEq, Repr

/-- One front end. -/
structure FeState where
  inScene : Bool := false
  frame : Option FeFrame := none
  rows : List FeRow := []
  /-- The line buffer of R99: frame, the row whose write frees the space, bytes. -/
  buf : List (Nat × Nat × Nat) := []
  /-- The sensor frame count of the previous frame start (R103). -/
  lastFc : Option Nat := none
  lineQ : Nat := 0
  embQ : Option Nat := none
  statQs : List Nat := []
  /-- Presence of the parallel port (R93); FE[16] and FE[17]. -/
  ppPresent : Bool := false
  /-- A frame of the port has started and not ended (R90). -/
  ppFrame : Bool := false
  /-- PP_VSYNC was active at the last sample; true before the first sample, since a frame starts only after a sample with it
  inactive (R90). -/
  ppVs : Bool := true
  /-- The run of valid samples in progress: those of it that the port keeps, and one more where it kept 4,096 and discards
  the rest (R90, R92). -/
  ppOpen : Option (List Nat) := none
  /-- Runs since the frame start (R90). -/
  ppRuns : Nat := 0
  /-- The port's frame count, the next frame start's value (R94). -/
  ppFc : Nat := 0
deriving DecidableEq, Repr

end Sys2Proof.Machine
end

