-- ==== Sys2Proof/Machine/LinkState.lean ====
section
/-! DEFINITION. The state of one Kaydal Camera Link beyond its registers (spec/02_camera_links.md). -/

namespace Sys2Proof.Machine

/-- The training states of R69, with the codes of LNK.STAT.STATE. -/
inductive Training where
  | reset | bcTrain | fwTrain | align | active
deriving DecidableEq, Repr

/-- LNK.STAT.STATE (R86). -/
def Training.code : Training → Nat
  | .reset => 0
  | .bcTrain => 1
  | .fwTrain => 2
  | .align => 3
  | .active => 4

/-- The RESET hold of R70 in force. -/
inductive Hold where
  | short   -- 100 µs
  | long    -- 100 ms
deriving DecidableEq, Repr

/-- Who queued a back-channel request (R65): the host, or a context of a cluster. -/
inductive ReqSource where
  | host
  | cluster (k ctx : Nat)
  | script (pos : Nat)   -- the firmware's sensor script (R402), the request at position pos
deriving DecidableEq, Repr

/-- A back-channel request of R58: its type and its payload bytes. -/
structure BcRequest where
  src : ReqSource
  type : Nat
  payload : List Byte
  deriving DecidableEq, Repr

/-- A request that awaits its response (R66). -/
structure BcOutstanding where
  src : ReqSource
  tag : Nat
  deriving DecidableEq, Repr

/-- A packet of the back channel (R58). -/
inductive BcPacket where
  | trigger (target out uiOfs width : Nat)
  | keepalive (bsc : Nat) (lpbk idleOk : Bool)
  | request (r : BcRequest) (tag : Nat)
  | loopTest (data : List Byte)
deriving DecidableEq, Repr

/-- Progress of a cable sounding (R83). -/
inductive Sounding where
  | idle
  | running
deriving DecidableEq, Repr

/-- One link. -/
structure LinkState where
  training : Training := .reset
  /-- The hold that runs in RESET (R70). -/
  hold : Hold := .short
  /-- The core cycle at which BSC read 0 (R43). -/
  bscStart : Nat := 0
  /-- BSC has started since the last RESET. -/
  bscOn : Bool := false
  /-- The first symbol that may be the SOP of a packet: two idle symbols have followed the EOP before it (R45). -/
  sopFrom : Nat := 0
  /-- SPREAD_EN as taken at the last entry to BC_TRAIN (R42). -/
  spread : Bool := false
  /-- BTS2 is being sent (R69). -/
  bts2 : Bool := false
  /-- Comma lock in ALIGN (R46). -/
  commaLock : Bool := false
  /-- The core cycle, which is a forward symbol (R40), from which the valid symbols of ALIGN count: comma lock, or the last error since
  (R69, R71). -/
  validFrom : Nat := 0
  /-- Forward signal above the signal-detect threshold. -/
  sigDet : Bool := false
  /-- The last status packet announced IDLE_ENTRY (R78), and the signal has not dropped since. DESIGN CHOICE (log entry 159). -/
  idleEntry : Bool := false
  /-- IDLE_OK of the last keep-alive sent (R78). -/
  idleOkSent : Bool := false
  eidle : Bool := false
  /-- Adaptation frozen by 256 idle symbols (R76). -/
  frozen : Bool := false
  ctle : Nat := 0
  eye : Nat := 0
  /-- Taps h1 to h6 (R75), two's complement codes. -/
  taps : List Int := [0, 0, 0, 0, 0, 0]
  /-- The up/down accumulators of the taps (R75). -/
  acc : List Int := [0, 0, 0, 0, 0, 0]
  /-- The least and the largest magnitude of h1 in the present CTLE interval (R75). -/
  h1Lo : Nat := 0
  h1Hi : Nat := 0
  /-- The 1,024-symbol window, plus 1, of each tap's last counted clamp event (R77); 0: none. -/
  clampWin : List Nat := [0, 0, 0, 0, 0, 0]
  /-- Requests waiting to be sent, oldest first (R65). -/
  requests : List BcRequest := []
  /-- Requests awaiting a response, oldest first (R66). -/
  outstanding : List BcOutstanding := []
  /-- The running tag count of R66, modulo 128. -/
  tagCount : Nat := 0
  /-- Triggers handed over by Meridian and not yet sent (R63). -/
  triggers : List BcPacket := []
  /-- A keep-alive has fallen due (R61). -/
  kaDue : Bool := false
  /-- The packet in flight on the back channel (R63). -/
  inFlight : Option BcPacket := none
  /-- Packets sent in far-end loopback and not yet returned (R82), oldest first. -/
  loopOut : List BcPacket := []
  /-- The PRBS-15 generator of the loop-test packets (R58). It starts at 0x7FFF and runs on from packet to packet and from one
  loopback to the next. DESIGN CHOICE (log entry 153): the spec gives a seed for FTS alone. -/
  prbs : Nat := 0x7FFF
  sounding : Sounding := .idle
  /-- Requests of the camera's sensor script that the firmware has still to hand over. -/
  script : List BcRequest := []
  /-- Requests of the camera's sensor script still to complete, and whether it has been sent this wake (R402). -/
  scriptLeft : Nat := 0
  scriptSent : Bool := false
  /-- A request of the script has failed or has had no answer since (R406). -/
  scriptFail : Bool := false
  deriving DecidableEq, Repr

end Sys2Proof.Machine
end

