-- ==== Sys2Proof/Machine/MgmtState.lean ====
section
/-! DEFINITION. The state of the management path beyond its registers (spec/17_management_and_register_map.md). -/

namespace Sys2Proof.Machine

/-- A mailbox command that came in a management frame (R542): its words, the requester's address and SEQ, and the device
time at its arrival. -/
structure FrameCmd where
  words : List Word
  src : List Byte
  seq : Nat
  at_ : Nat := 0
deriving DecidableEq, Repr

/-- What the last command that reads answered to the host or master that sent it: a status of R536 and the words. -/
structure Answer where
  status : Nat := 0
  words : List Word := []
deriving DecidableEq, Repr

/-- The SPI transaction in progress or last ended: it is a read, the words it has read, the bytes driven on SPI_MISO after the address, and
the byte driven from then on until SPI_CS_N rises (R526-R529). -/
structure SpiLine where
  reads : Bool := false
  words : List Word := []
  miso : List Byte := []
  fill : Byte := 0
deriving DecidableEq, Repr

/-- A posted SPI write (R528, R529). -/
structure PostedWrite where
  addr : Nat
  value : Word
  exclusive : Bool := false
deriving DecidableEq, Repr

/-- The management path. -/
structure MgmtState where
  /-- Management frames received and not yet executed, oldest first (R289, R533). -/
  frames : List (List Byte) := []
  /-- Event reports that wait to be sent: code and data (R534). -/
  events : List (Nat × List Byte) := []
  /-- The IRQ hold-off runs, and a change has fallen within it (R534). -/
  irqHold : Bool := false
  irqPend : Bool := false
  /-- The mailbox FIFOs (R537). -/
  h2d : List Word := []
  /-- The device time at which each word of the host-to-device FIFO arrived (TIME_SET of R539). -/
  h2dAt : List Nat := []
  d2h : List Word := []
  /-- The frame command queue (R542), and whether the last command taken came from it. -/
  cmds : List FrameCmd := []
  lastFrame : Bool := false
  /-- A reply that waits for room in the device-to-host FIFO (R540). -/
  reply : Option (List Word) := none
  /-- The SHUTDOWN command whose reply waits enters SHUTDOWN_RECORD after it (R539). -/
  shutAfter : Bool := false
  /-- Source, SEQ and response of the last unicast request executed (R533). -/
  stored : Option (List Byte × Nat × List Byte) := none
  /-- Posted SPI writes (R528), and LAST of the status byte (R529). -/
  posted : List PostedWrite := []
  spiLast : Nat := 0
  answer : Answer := {}
  spi : SpiLine := {}
deriving DecidableEq, Repr

end Sys2Proof.Machine
end

