-- ==== Sys2Proof/Machine/PowerState.lean ====
section
/-! DEFINITION. The state of the power domains, of the wake logic and of the supply supervision beyond their registers
(spec/12_operating_modes_and_boot.md, spec/16_power_and_supervision.md). -/

namespace Sys2Proof.Machine

/-- PWR.DOM_STAT.S (R506). -/
inductive DomPower where
  | off | up | rising | falling
deriving DecidableEq, Repr

/-- PWR.DOM_STAT.S codes. -/
def DomPower.code : DomPower → Nat
  | .off => 0
  | .up => 1
  | .rising => 2
  | .falling => 3

/-- The whole-device condition that PWR.MODE cannot show (R393, R500-R502, R512): OFF, STANDBY, the wait for good rails,
the 10 ms with the rails down after a PGOOD or supply reset, RESET_N held low, and running. -/
inductive DevicePhase where
  | off | standby | rails | hold | pin | running
deriving DecidableEq, Repr

/-- Power, wake and supervision. -/
structure PowerState where
  phase : DevicePhase := .standby
  /-- Domains 0 AON to 7 NET (R30, R504). -/
  doms : List DomPower := [.up, .off, .off, .off, .off, .off, .off, .off]
  /-- Requests that wait for a domain's change to end (R507): domain, on. -/
  waiting : List (Nat × Bool) := []
  /-- Domains that hold a unit under test, once per unit (R506, R465). -/
  testDoms : List Nat := []
  /-- `PWR_REQ` and `CAM_PWR_EN` (R400, R500, R503). -/
  pwrReq : Bool := false
  camPwrEn : Bool := false
  /-- `PGOOD`, and the level of `RESET_N` (R500, R512). -/
  pgood : Bool := false
  resetN : Bool := true
  /-- The VDD_CORE monitors act (R516). -/
  monitor : Bool := false
  /-- A supply warning is asserted, with the core cycle of its assertion (R516). -/
  warnAt : Option Nat := none
  /-- The straps POS[1:0] (R296). -/
  straps : Nat := 0
  /-- The core cycle of the watchdog's last restart, and the warning of this count given (R513, R514). -/
  wdtFrom : Nat := 0
  wdtWarned : Bool := false
  /-- No firmware has started since the power-on reset (R478). -/
  fresh : Bool := true
  /-- The boot that follows comes after a watchdog, supply or PGOOD reset (R521). -/
  afterReset : Bool := false
  /-- The firmware runs (R402 step 5). -/
  firmware : Bool := false
  /-- The firmware has read the journal (R402 step 5); the early section read again for R454 was not the one verified (R385). -/
  journal : Bool := false
  earlyBad : Bool := false
  /-- The two management cores stay halted (R26); the core cycle of their last restart (R24). -/
  coresHalted : Bool := false
  restartAt : Option Nat := none
  /-- The SPI target answers (R397). -/
  spiReady : Bool := false
  /-- SERVICE or DEGRADED has been entered in this wake (R407, R415). -/
  served : Bool := false
  /-- The wake was latched in SHUTDOWN_RECORD (R416): its source. -/
  latched : Option Nat := none
  /-- The step of R415 that runs, 0 outside SHUTDOWN_RECORD. -/
  shutStep : Nat := 0
  /-- The AON cycle of the last recorded reset cause (R511), of a reset that has cycled the rails with the monitors active, and of the
  wake that is recorded or latched (R396). -/
  causeAt : Option Nat := none
  tripAt : Option Nat := none
  wokeAt : Option Nat := none
  /-- Core cycle of the last host access (R401). -/
  hostAt : Nat := 0
  /-- Per cluster, the increases of fault and overrun counts in the last samples, newest first, and the counts last read
  (R411). -/
  policy : Map (List Nat) := []
  policyRead : Map Nat := []
  /-- Steps 6, 7 and 9 of R402 have been taken in this wake. -/
  step6 : Bool := false
  step7 : Bool := false
  asked : Bool := false
  /-- The 500 ms of R402 have passed; PREP_MS of R408 has passed. -/
  scriptOver : Bool := false
  prepOk : Bool := false
deriving DecidableEq, Repr

end Sys2Proof.Machine
end

