-- ==== Sys2Proof/Machine/PresState.lean ====
section
/-! DEFINITION. The state of Garnet and of the packetiser beyond their registers
(spec/07_output_streams_and_presentation.md). -/

namespace Sys2Proof.Machine

/-- A range of the packetiser table that has begun (R259, R260): its OP and INDEX, whether it has what it was placed
for, and whether it has ended with a claimed item still to come. -/
structure PresRange where
  op : Nat
  index : Nat
  done : Bool := false
  ended : Bool := false
deriving DecidableEq, Repr

/-- A check region as applied at a frame-open (R266). -/
structure CheckRegion where
  r : Nat
  cls : Nat
  x : Nat
  y : Nat
  w : Nat
  h : Nat
  valid : Bool
  expect : Nat
deriving DecidableEq, Repr

/-- Garnet's state of one primary stream (R259, R264, R266-R275). -/
structure GrnStream where
  cfg : StreamCfg := {}
  range : Option PresRange := none
  /-- The item kept for the next range (R259). -/
  held : Option Delivered := none
  /-- A frame is open, and its FRAME_NUM. -/
  isOpen : Bool := false
  fn : Nat := 0
  gap : Bool := false
  dataErr : Bool := false
  closed : Bool := false
  absent : Bool := false
  /-- The result of COND of the 64 records at the frame-open (R264). -/
  conds : List Bool := []
  regions : List CheckRegion := []
  /-- The bytes each region covers: line y of region r at key 65536 r + y (R267). -/
  parts : Map (List Byte) := []
  /-- The mismatch count of the sample comparison, once its event has arrived (R273). -/
  cmp : Option Nat := none
  /-- The LIVE signatures of the previous frame, region and SIG; none while PREV_VALID is 0 (R271, R275). -/
  prev : Option (List (Nat × Nat)) := none
  run : Nat := 0
  frozen : Bool := false
deriving DecidableEq, Repr

/-- The packetiser's state of one stream (R250, R253, R260-R262). -/
structure PktStream where
  cfg : StreamCfg := {}
  /-- The preview streams built from this stream (R250). -/
  kids : List StreamCfg := []
  scene : Nat := 0
  grade : Nat := 0
  variant : Nat := 0
  /-- T of the set in force, ns. -/
  periodNs : Nat := 0
  range : Option PresRange := none
  statRange : Option PresRange := none
  held : Option Delivered := none
  statHeld : Option Delivered := none
  /-- A frame is open, and the FRAME_NUM of the open or the last frame. -/
  isOpen : Bool := false
  fn : Nat := 0
  captSec : Nat := 0
  captNs : Nat := 0
  expSet : Nat := 0
  /-- Flags gathered in the flag word of R257. -/
  acc : Nat := 0
  /-- Flags sent in the header. -/
  hdr : Nat := 0
  close : Option (List Byte) := none
  proof : Option (List Byte) := none
  stats : Option (List Byte) := none
  fills : Nat := 0
  seq : Nat := 0
  /-- mr of the open frame, and of the next frame (R253). -/
  mr : Bool := false
  first : Bool := true
  checks : Nat := 0
  /-- A line unit of the frame launched late within LATE_TOL (R335). -/
  late : Bool := false
  /-- The trailer of the open frame has been built. -/
  trailerDone : Bool := false
  /-- Fragments of the last trailer. -/
  frags : Nat := 1
  /-- Device time of the build of unit 0, and the launch time of the last line unit (R520). -/
  unit0At : Nat := 0
  lastLaunch : Option Nat := none
deriving DecidableEq, Repr

/-- The PRES block. -/
structure PresState where
  draw : Memory := []
  drawRdy : Bool := false
  /-- The sample RAM: slot j, half h at 4,096 j + 2,048 h (R272). -/
  sample : Memory := []
  /-- The sample slots whose comparison channel has pulsed its event line (R273, R433). -/
  compared : List Nat := []
  grn : Map GrnStream := []
  pkt : Map PktStream := []
  /-- The supply warning intervals, newest first, in device time; none while asserted (R520). -/
  warnLog : List (Nat × Option Nat) := []
deriving DecidableEq, Repr

end Sys2Proof.Machine
end

