-- ==== Sys2Proof/Machine/RegMap.lean ====
section
/-! DEFINITION. The control-bus register map of R549-R551 and of the register tables of the chapters: one address
constant per register, named as the manual names it, and one `RegDef` row per register with its access masks (R10) and
its reset value. Rows follow the register tables of spec/ 01-17; a bit in no mask is read-only or reserved (R13). -/

namespace Sys2Proof.Machine

/-- One row of a block's register table: its offset in the block window, up to three index dimensions (count and
stride each), the bits software writes (`rw`), those of them that keep their value through every reset but power-on
(`rws`), the write-1-to-clear bits, the write-1-to-set bits, the read-only
bits that the image or a table set gives (`img`), and the reset value. -/
structure RegDef where
  off : Nat
  n1 : Nat := 1
  s1 : Nat := 0
  n2 : Nat := 1
  s2 : Nat := 0
  n3 : Nat := 1
  s3 : Nat := 0
  rw : Nat := 0
  rws : Nat := 0
  w1c : Nat := 0
  w1s : Nat := 0
  img : Nat := 0
  reset : Nat := 0
deriving DecidableEq, Repr

/-! ### SYS (R23-R29, R549-R550) -/

def SYS.DEV_ID : Nat := 0x10000000
def SYS.LOCKSTEP_CNT : Nat := 0x10000040
def SYS.OFF_ACCESS_CNT : Nat := 0x10000044
def SYS.CNT_CLR : Nat := 0x10000048
def SYS.SNAP : Nat := 0x10000010
def SYS.SNAP_STAT : Nat := 0x10000014
def SYS.IRQ_STAT (i : Nat) : Nat := 0x10000020 + 4 * i
def SYS.IRQ_EN (i : Nat) : Nat := 0x10000028 + 4 * i
def SYS.EVT : Nat := 0x10000030
def SYS.EVT_EN : Nat := 0x10000034

/-! ### PWR (R417, R496-R497, R523) -/

def PWR.MODE : Nat := 0x10010800
def PWR.MODE_EVT : Nat := 0x10010804
def PWR.MODE_EVT_EN : Nat := 0x10010808
def PWR.WAKE_CFG : Nat := 0x1001080c
def PWR.WAKE_SRC : Nat := 0x10010810
def PWR.LAST_SCENE : Nat := 0x10010814
def PWR.SVC_POLICY : Nat := 0x10010818
def PWR.BOOT_CFG : Nat := 0x1001081c
def PWR.BOOT_MARK (i : Nat) : Nat := 0x10010820 + 4 * i
def PWR.WAKE_CNT : Nat := 0x10010840
def PWR.SHUT_ABORT_CNT : Nat := 0x10010844
def PWR.EARLY_ONLY_CNT : Nat := 0x10010848
def PWR.OOS_REQ_CNT : Nat := 0x1001084c
def PWR.CMD_REF_CNT : Nat := 0x10010850
def PWR.MODE_CNT_CLR : Nat := 0x1001087c
def PWR.RTC_CTL : Nat := 0x10010a00
def PWR.RTC_STAT : Nat := 0x10010a04
def PWR.RTC_SEC_HI : Nat := 0x10010a08
def PWR.RTC_SEC_LO : Nat := 0x10010a0c
def PWR.RTC_SUB : Nat := 0x10010a10
def PWR.RTC_SET_HI : Nat := 0x10010a14
def PWR.RTC_SET_LO : Nat := 0x10010a18
def PWR.RTC_ALARM_HI : Nat := 0x10010a1c
def PWR.RTC_ALARM_LO : Nat := 0x10010a20
def PWR.UTC_OFS : Nat := 0x10010a24
def PWR.LIFE_SEC : Nat := 0x10010a28
def PWR.LIFE_KEY : Nat := 0x10010a2c
def PWR.AVS_SHADOW : Nat := 0x10010a30
def PWR.JRNL_PTR : Nat := 0x10010a34
def PWR.RAIL_STAT : Nat := 0x10010000
def PWR.SUP_STAT : Nat := 0x10010004
def PWR.EVT : Nat := 0x10010008
def PWR.EVT_EN : Nat := 0x1001000c
def PWR.SUP_SET : Nat := 0x10010010
def PWR.DIP_DUR : Nat := 0x10010014
def PWR.DIP_TIME : Nat := 0x10010018
def PWR.DOM_STAT : Nat := 0x10010020
def PWR.DOM_REQ : Nat := 0x10010024
def PWR.DOM_RST : Nat := 0x10010028
def PWR.DOM_CFG : Nat := 0x1001002c
def PWR.DOM_REF : Nat := 0x10010030
def PWR.RST_CAUSE : Nat := 0x10010040
def PWR.WDT_CFG : Nat := 0x10010044
def PWR.WDT_KICK : Nat := 0x10010048
def PWR.WDT_STAT : Nat := 0x1001004c
def PWR.FAULT_STAT : Nat := 0x10010050
def PWR.FAULT_EN : Nat := 0x10010054
def PWR.CNT_CLR : Nat := 0x1001013c
def PWR.DIP_CNT : Nat := 0x10010100
def PWR.SUP_RST_CNT : Nat := 0x10010104
def PWR.PGOOD_RST_CNT : Nat := 0x10010108
def PWR.RAIL_FAIL_CNT : Nat := 0x1001010c
def PWR.PIN_RST_CNT : Nat := 0x10010110
def PWR.WDT_RST_CNT : Nat := 0x10010114
def PWR.WDT_WARN_CNT : Nat := 0x10010118
def PWR.DOM_REF_CNT : Nat := 0x1001011c
def PWR.DOM_RST_CNT : Nat := 0x10010120

/-! ### NVM (R392) -/

def NVM.STAT : Nat := 0x10020004
def NVM.EVT : Nat := 0x10020008
def NVM.EVT_EN : Nat := 0x1002000c
def NVM.ERR : Nat := 0x10020010
def NVM.IMAGE_VER : Nat := 0x10020014
def NVM.FLASH_ID : Nat := 0x10020018
def NVM.OTP_STAT : Nat := 0x1002001c
def NVM.BANK_STAT (i : Nat) : Nat := 0x10020020 + 8 * i
def NVM.BANK_VER (i : Nat) : Nat := 0x10020024 + 8 * i
def NVM.WR_STAT : Nat := 0x10020030
def NVM.CNT_CLR : Nat := 0x1002013c
def NVM.RETRY_CNT : Nat := 0x10020100
def NVM.FLASH_ERR_CNT : Nat := 0x10020104
def NVM.IMG_ERR_CNT : Nat := 0x10020108
def NVM.FETCH_ERR_CNT : Nat := 0x1002010c
def NVM.WR_REF_CNT : Nat := 0x10020110
def NVM.SUSPEND_CNT : Nat := 0x10020114
def NVM.FALLBACK_CNT : Nat := 0x10020118

/-! ### SCHED (R369) -/

def SCHED.CTL : Nat := 0x10030000
def SCHED.STAT : Nat := 0x10030004
def SCHED.EVT : Nat := 0x10030008
def SCHED.EVT_EN : Nat := 0x1003000c
def SCHED.CUR : Nat := 0x10030010
def SCHED.NEXT : Nat := 0x10030014
def SCHED.SWAP_SEC_HI : Nat := 0x10030018
def SCHED.SWAP_SEC_LO : Nat := 0x1003001c
def SCHED.SWAP_NS : Nat := 0x10030020
def SCHED.SWAP_CFG : Nat := 0x10030024
def SCHED.LOAD_ERR : Nat := 0x10030028
def SCHED.OOS : Nat := 0x1003002c
def SCHED.LAST_DEV : Nat := 0x10030030
def SCHED.SET_BAD (i : Nat) : Nat := 0x10030040 + 4 * i
def SCHED.TOL (i : Nat) : Nat := 0x10030080 + 4 * i
def SCHED.DEV_CNT (i : Nat) : Nat := 0x10030100 + 4 * i
def SCHED.CNT_CLR0 : Nat := 0x100301f8
def SCHED.CNT_CLR1 : Nat := 0x100301fc
def SCHED.SWAP_CNT : Nat := 0x100301c0
def SCHED.SWAP_DEFER_CNT : Nat := 0x100301c4
def SCHED.DRAIN_CNT : Nat := 0x100301c8
def SCHED.LOAD_ERR_CNT : Nat := 0x100301cc
def SCHED.SLOT_SKIP_CNT : Nat := 0x100301d0
def SCHED.MULTI_OOS_CNT : Nat := 0x100301d4

/-! ### CFS (R168-R174) -/

def CFS.CTL : Nat := 0x10040000
def CFS.STAT : Nat := 0x10040004
def CFS.EVT : Nat := 0x10040008
def CFS.EVT_EN : Nat := 0x1004000c
def CFS.POOL_FREE : Nat := 0x10040010
def CFS.POOL_UNRES : Nat := 0x10040014
def CFS.POOL_RETIRED : Nat := 0x10040018
def CFS.Q_FLUSH : Nat := 0x10040020
def CFS.Q_CNT_CLR : Nat := 0x10040024
def CFS.SCRUB_CTL : Nat := 0x10040028
def CFS.AUDIT_STAT : Nat := 0x1004002c
def CFS.CYCLE : Nat := 0x10040030
def CFS.ECC_LOG : Nat := 0x10040034
def CFS.HWM_SUM (i : Nat) : Nat := 0x10040040 + 4 * i
def CFS.CNT_CLR : Nat := 0x1004013c
def CFS.Q_DROP_SNAP (i : Nat) : Nat := 0x10044000 + 4 * i
def CFS.Q_XCNT_SNAP (i : Nat) : Nat := 0x10045000 + 4 * i
def CFS.Q_CFG (i : Nat) : Nat := 0x10048000 + 32 * i
def CFS.Q_RESERVE (i : Nat) : Nat := 0x10048004 + 32 * i
def CFS.Q_QUOTA (i : Nat) : Nat := 0x10048008 + 32 * i
def CFS.Q_WM_HI (i : Nat) : Nat := 0x1004800c + 32 * i
def CFS.Q_WM_LO (i : Nat) : Nat := 0x10048010 + 32 * i
def CFS.Q_LEVEL (i : Nat) : Nat := 0x10048014 + 32 * i
def CFS.Q_STAT (i : Nat) : Nat := 0x10048018 + 32 * i
def CFS.Q_DROP_CNT (i : Nat) : Nat := 0x1004801c + 32 * i
def CFS.DROP_CNT : Nat := 0x10040100
def CFS.DEFER_CNT : Nat := 0x10040104
def CFS.FLUSH_CNT : Nat := 0x10040108
def CFS.PTR_ERR_CNT : Nat := 0x1004010c
def CFS.ORPHAN_CNT : Nat := 0x10040110
def CFS.ECC_CE_CNT : Nat := 0x10040114
def CFS.ECC_UE_CNT : Nat := 0x10040118
def CFS.CANCEL_CNT : Nat := 0x1004011c
def CFS.OP_ERR_CNT : Nat := 0x10040120
def CFS.QUAD_SKEW_CNT : Nat := 0x10040124
def CFS.APERTURE_REF_CNT : Nat := 0x10040128

/-! ### DMA (R443-R444) -/

def DMA.SW_REQ : Nat := 0x10050000
def DMA.BUSY : Nat := 0x10050004
def DMA.EVT : Nat := 0x10050008
def DMA.EVT_EN : Nat := 0x1005000c
def DMA.IRQ_SUM : Nat := 0x10050010
def DMA.REQ_STAT_LO : Nat := 0x10050018
def DMA.REQ_STAT_HI : Nat := 0x1005001c
def DMA.QREQ (i : Nat) : Nat := 0x10050040 + 4 * i
def DMA.CNT_CLR : Nat := 0x1005013c
def DMA.CH_CTL (i : Nat) : Nat := 0x10051000 + 64 * i
def DMA.CH_DESC (i : Nat) : Nat := 0x10051004 + 64 * i
def DMA.CH_STAT (i : Nat) : Nat := 0x10051008 + 64 * i
def DMA.CH_RESIDUE (i : Nat) : Nat := 0x1005100c + 64 * i
def DMA.CH_MISMATCH (i : Nat) : Nat := 0x10051010 + 64 * i
def DMA.CH_AUX (i : Nat) : Nat := 0x10051014 + 64 * i
def DMA.CH_EVT (i : Nat) : Nat := 0x10051018 + 64 * i
def DMA.CH_EVT_EN (i : Nat) : Nat := 0x1005101c + 64 * i
def DMA.BUS_ERR_CNT : Nat := 0x10050100
def DMA.PROG_ERR_CNT : Nat := 0x10050104
def DMA.ABORT_CNT : Nat := 0x10050108
def DMA.DOMAIN_OFF_CNT : Nat := 0x1005010c
def DMA.UE_CNT : Nat := 0x10050110
def DMA.REFUSED_CNT : Nat := 0x10050114

/-! ### BRG (R443-R444) -/

def BRG.STAT : Nat := 0x10060000
def BRG.EVT : Nat := 0x10060008
def BRG.EVT_EN : Nat := 0x1006000c
def BRG.SEM_STAT : Nat := 0x10060010
def BRG.SEM_REL : Nat := 0x10060014
def BRG.RETRY_CNT : Nat := 0x10060100
def BRG.EXFAIL_CNT : Nat := 0x10060104
def BRG.SEM_TO_CNT : Nat := 0x10060108
def BRG.CNT_CLR : Nat := 0x1006013c

/-! ### TIME (R339-R340) -/

def TIME.CTL : Nat := 0x10070000
def TIME.STAT : Nat := 0x10070004
def TIME.EVT : Nat := 0x10070008
def TIME.EVT_EN : Nat := 0x1007000c
def TIME.NOW_CAP : Nat := 0x10070010
def TIME.NOW_SEC_HI : Nat := 0x10070014
def TIME.NOW_SEC_LO : Nat := 0x10070018
def TIME.NOW_NS : Nat := 0x1007001c
def TIME.NOW_FRAC : Nat := 0x10070020
def TIME.FREQ : Nat := 0x10070024
def TIME.STEP_THR : Nat := 0x10070028
def TIME.HOLD_MS : Nat := 0x1007002c
def TIME.LATE_TOL : Nat := 0x10070030
def TIME.SW_CFG : Nat := 0x10070034
def TIME.TRIG_CFG : Nat := 0x10070038
def TIME.ORG_ID : Nat := 0x1007003c
def TIME.PERIOD_NS : Nat := 0x10070040
def TIME.PERIOD_FRAC : Nat := 0x10070044
def TIME.TRIG_LAST : Nat := 0x10070048
def TIME.SEL_STAT : Nat := 0x1007004c
def TIME.DOM_CFG (i : Nat) : Nat := 0x10070060 + 16 * i
def TIME.DOM_STAT (i : Nat) : Nat := 0x10070064 + 16 * i
def TIME.DOM_OFS (i : Nat) : Nat := 0x10070068 + 16 * i
def TIME.DOM_ASYM (i : Nat) : Nat := 0x1007006c + 16 * i
def TIME.PORT_LAT (i : Nat) : Nat := 0x10070080 + 8 * i
def TIME.PDELAY (i : Nat) : Nat := 0x10070084 + 8 * i
def TIME.CNT_CLR : Nat := 0x1007017c
def TIME.CAM_DLY (i : Nat) : Nat := 0x10070300 + 4 * i
def TIME.ASYM_STEP_CNT : Nat := 0x10070100
def TIME.STEP_ACC_CNT : Nat := 0x10070104
def TIME.OUTLIER_CNT : Nat := 0x10070108
def TIME.SWITCH_CNT : Nat := 0x1007010c
def TIME.SYNC_TO_CNT : Nat := 0x10070110
def TIME.RELAY_DROP_CNT : Nat := 0x10070114
def TIME.ACQ_STEP_CNT : Nat := 0x10070118
def TIME.REF_TOL_CNT : Nat := 0x1007011c
def TIME.TRIG_LATE_CNT : Nat := 0x10070120
def TIME.TRIG_SKIP_CNT : Nat := 0x10070124
def TIME.UNSYNC_FRAME_CNT : Nat := 0x10070128
def TIME.LAUNCH_LATE_CNT : Nat := 0x1007012c
def TIME.LAUNCH_DROP_CNT : Nat := 0x10070134

/-! ### ETH (R303-R304) -/

def ETH.CHAIN_STAT : Nat := 0x10080000
def ETH.EVT : Nat := 0x10080008
def ETH.EVT_EN : Nat := 0x1008000c
def ETH.ADDR_HI : Nat := 0x10080010
def ETH.ADDR_LO : Nat := 0x10080014
def ETH.MGMT_ETYPE : Nat := 0x10080018
def ETH.PASS_CFG : Nat := 0x1008001c
def ETH.PCFG (i : Nat) : Nat := 0x10080020 + 16 * i
def ETH.PSTAT (i : Nat) : Nat := 0x10080024 + 16 * i
def ETH.LOOP_CTL (i : Nat) : Nat := 0x10080028 + 16 * i
def ETH.MS_CTL : Nat := 0x10080040
def ETH.MS_STAT : Nat := 0x10080044
def ETH.MS_PN_THR : Nat := 0x10080048
def ETH.MS_TX_PN : Nat := 0x1008004c
def ETH.CNT_CLR : Nat := 0x1008017c
def ETH.LANE_STAT (i j : Nat) : Nat := 0x10080400 + 256 * i + 64 * j
def ETH.LANE_RXCFG (i j : Nat) : Nat := 0x10080404 + 256 * i + 64 * j
def ETH.LANE_TXEQ (i j : Nat) : Nat := 0x10080408 + 256 * i + 64 * j
def ETH.LANE_DFE (i j k : Nat) : Nat := 0x1008040c + 256 * i + 64 * j + 4 * k
def ETH.FEC_CORR_CNT (i : Nat) : Nat := 0x10080100 + 48 * i
def ETH.FEC_UNCORR_CNT (i : Nat) : Nat := 0x10080104 + 48 * i
def ETH.LINK_DOWN_CNT (i : Nat) : Nat := 0x10080108 + 48 * i
def ETH.FR_FAIL_CNT (i : Nat) : Nat := 0x1008010c + 48 * i
def ETH.TRAIN_FAIL_CNT (i : Nat) : Nat := 0x10080110 + 48 * i
def ETH.RX_FCS_CNT (i : Nat) : Nat := 0x10080114 + 48 * i
def ETH.RX_DISCARD_CNT (i : Nat) : Nat := 0x10080118 + 48 * i
def ETH.LAUNCH_DOWN_CNT (i : Nat) : Nat := 0x1008011c + 48 * i
def ETH.UNSCHED_DROP_CNT (i : Nat) : Nat := 0x10080120 + 48 * i
def ETH.PASS_MISS_CNT (i : Nat) : Nat := 0x10080124 + 48 * i
def ETH.PASS_STALE_CNT (i : Nat) : Nat := 0x10080128 + 48 * i
def ETH.LB_ERR_CNT (i : Nat) : Nat := 0x1008012c + 48 * i
def ETH.MS_ICV_ERR_CNT : Nat := 0x10080160
def ETH.MS_REPLAY_CNT : Nat := 0x10080164
def ETH.MS_UNPROT_CNT : Nat := 0x10080168
def ETH.MS_PN_EXH_CNT : Nat := 0x1008016c

/-! ### PRES (R276-R277) -/

def PRES.CTL : Nat := 0x10090000
def PRES.STAT : Nat := 0x10090004
def PRES.EVT : Nat := 0x10090008
def PRES.EVT_EN : Nat := 0x1009000c
def PRES.VSF_EUI_HI : Nat := 0x10090010
def PRES.VSF_EUI_LO : Nat := 0x10090014
def PRES.FRZ_CFG (i : Nat) : Nat := 0x10090040 + 4 * i
def PRES.FRZ_WIN (i : Nat) : Nat := 0x10090060 + 8 * i
def PRES.FRZ_WSIZE (i : Nat) : Nat := 0x10090064 + 8 * i
def PRES.CNT_CLR : Nat := 0x1009017c
def PRES.STRM_CFG (i : Nat) : Nat := 0x10091000 + 32 * i
def PRES.STRM_DST_HI (i : Nat) : Nat := 0x10091004 + 32 * i
def PRES.STRM_DST_LO (i : Nat) : Nat := 0x10091008 + 32 * i
def PRES.STRM_LAT (i : Nat) : Nat := 0x1009100c + 32 * i
def PRES.STRM_FRESH (i : Nat) : Nat := 0x10091010 + 32 * i
def PRES.STRM_FRZ (i : Nat) : Nat := 0x10091014 + 32 * i
def PRES.CHK_POS (i j : Nat) : Nat := 0x10092000 + 128 * i + 16 * j
def PRES.CHK_SIZE (i j : Nat) : Nat := 0x10092004 + 128 * i + 16 * j
def PRES.CHK_CFG (i j : Nat) : Nat := 0x10092008 + 128 * i + 16 * j
def PRES.CHK_EXP (i j : Nat) : Nat := 0x1009200c + 128 * i + 16 * j
def PRES.FILL_LINE_CNT : Nat := 0x10090100
def PRES.PKT_STALE_CNT : Nat := 0x10090104
def PRES.PKT_MARKER_CNT : Nat := 0x10090108
def PRES.NO_OPEN_CNT : Nat := 0x1009010c
def PRES.NO_CLOSE_CNT : Nat := 0x10090110
def PRES.PROOF_MISS_CNT : Nat := 0x10090114
def PRES.STATS_MISS_CNT : Nat := 0x10090118
def PRES.GRN_CANCEL_CNT : Nat := 0x1009011c
def PRES.GRN_MARKER_CNT : Nat := 0x10090120
def PRES.GRN_STALE_CNT : Nat := 0x10090124
def PRES.UE_CNT : Nat := 0x10090128
def PRES.CHK_INVALID_CNT : Nat := 0x1009012c
def PRES.CHK_MISMATCH_CNT : Nat := 0x10090130
def PRES.FROZEN_CNT : Nat := 0x10090134
def PRES.FRZ_LATE_CNT : Nat := 0x10090138
def PRES.DRAW_REF_CNT : Nat := 0x1009013c

/-! ### BIST (R467) -/

def BIST.STAT : Nat := 0x100a0004
def BIST.EVT : Nat := 0x100a0008
def BIST.EVT_EN : Nat := 0x100a000c
def BIST.RUN : Nat := 0x100a0010
def BIST.ANA_LNK : Nat := 0x100a0014
def BIST.ANA_STAT : Nat := 0x100a0018
def BIST.MEM_STAT : Nat := 0x100a001c
def BIST.KEYON_TIME : Nat := 0x100a0020
def BIST.KEYOFF_TIME : Nat := 0x100a0024
def BIST.MEM_FE : Nat := 0x100a0028
def BIST.CNT_CLR : Nat := 0x100a013c
def BIST.UNIT_RES (i : Nat) : Nat := 0x100a0400 + 16 * i
def BIST.UNIT_COUNT (i : Nat) : Nat := 0x100a0404 + 16 * i
def BIST.UNIT_SIG_LO (i : Nat) : Nat := 0x100a0408 + 16 * i
def BIST.UNIT_SIG_HI (i : Nat) : Nat := 0x100a040c + 16 * i
def BIST.FAIL_CNT : Nat := 0x100a0100
def BIST.INCOMPLETE_CNT : Nat := 0x100a0104
def BIST.REPAIR_CNT : Nat := 0x100a0108
def BIST.ZERO_FAIL_CNT : Nat := 0x100a010c
def BIST.TEST_DROP_CNT : Nat := 0x100a0110
def BIST.UNDER_TEST_ACC_CNT : Nat := 0x100a0114
def BIST.REFUSED_CNT : Nat := 0x100a0118

/-! ### ALM (R496-R497) -/

def ALM.CTL : Nat := 0x100b0000
def ALM.STAT : Nat := 0x100b0004
def ALM.EVT : Nat := 0x100b0008
def ALM.EVT_EN : Nat := 0x100b000c
def ALM.SLACK_MIN : Nat := 0x100b0010
def ALM.SLACK_CFG : Nat := 0x100b0014
def ALM.AVS_CFG : Nat := 0x100b0018
def ALM.AVS_STAT : Nat := 0x100b001c
def ALM.WORST : Nat := 0x100b0020
def ALM.SOUND_CFG : Nat := 0x100b0024
def ALM.SOUND_DUE : Nat := 0x100b0028
def ALM.REBASE : Nat := 0x100b002c
def ALM.JRNL_HEAD : Nat := 0x100b0030
def ALM.JRNL_SEQ : Nat := 0x100b0034
def ALM.POH : Nat := 0x100b0038
def ALM.KEY_CYC : Nat := 0x100b003c
def ALM.CNT_CLR : Nat := 0x100b013c
def ALM.MON (i : Nat) : Nat := 0x100b0400 + 4 * i
def ALM.RO_FREQ (i : Nat) : Nat := 0x100b0500 + 4 * i
def ALM.CANARY (i : Nat) : Nat := 0x100b0520 + 4 * i
def ALM.TEMP (i : Nat) : Nat := 0x100b0540 + 4 * i
def ALM.AVS_UP_CNT : Nat := 0x100b0100
def ALM.AVS_DOWN_CNT : Nat := 0x100b0104
def ALM.AVS_ERR_CNT : Nat := 0x100b0108
def ALM.GRADE_STEP_CNT : Nat := 0x100b010c
def ALM.CANARY_CNT : Nat := 0x100b0110
def ALM.JRNL_WR_CNT : Nat := 0x100b0114
def ALM.JRNL_BAD_CNT : Nat := 0x100b0118
def ALM.JRNL_DEFER_CNT : Nat := 0x100b011c
def ALM.SOUND_CNT : Nat := 0x100b0120
def ALM.SOUND_ALARM_CNT : Nat := 0x100b0124

/-! ### MGMT (R549-R550) -/

def MGMT.CTL : Nat := 0x100c0000
def MGMT.STAT : Nat := 0x100c0004
def MGMT.EVT : Nat := 0x100c0008
def MGMT.EVT_EN : Nat := 0x100c000c
def MGMT.MBX_PUSH : Nat := 0x100c0010
def MGMT.MBX_POP : Nat := 0x100c0018
def MGMT.MBX_LEVEL : Nat := 0x100c001c
def MGMT.HOST_ADDR_HI : Nat := 0x100c0020
def MGMT.HOST_ADDR_LO : Nat := 0x100c0024
def MGMT.CNT_CLR : Nat := 0x100c013c
def MGMT.SPI_ERR_CNT : Nat := 0x100c0100
def MGMT.MF_ERR_CNT : Nat := 0x100c0104
def MGMT.MF_DUP_CNT : Nat := 0x100c0108
def MGMT.MBX_OVF_CNT : Nat := 0x100c010c
def MGMT.MBX_EMPTY_CNT : Nat := 0x100c0110

/-! ### LNK (R85-R87) -/

def LNK.CTL (n : Nat) : Nat := 0x10100000 + 0x10000 * n
def LNK.STAT (n : Nat) : Nat := 0x10100004 + 0x10000 * n
def LNK.EVT (n : Nat) : Nat := 0x10100008 + 0x10000 * n
def LNK.EVT_EN (n : Nat) : Nat := 0x1010000c + 0x10000 * n
def LNK.EQ_CTL (n : Nat) : Nat := 0x10100010 + 0x10000 * n
def LNK.EQ_STAT (n : Nat) : Nat := 0x10100014 + 0x10000 * n
def LNK.TAPS_A (n : Nat) : Nat := 0x10100018 + 0x10000 * n
def LNK.TAPS_B (n : Nat) : Nat := 0x1010001c + 0x10000 * n
def LNK.TAP_BOUND (n : Nat) : Nat := 0x10100020 + 0x10000 * n
def LNK.IDLE_CFG (n : Nat) : Nat := 0x10100024 + 0x10000 * n
def LNK.CAM_STAT (n : Nat) : Nat := 0x10100028 + 0x10000 * n
def LNK.BC_REQ_CTL (n : Nat) : Nat := 0x10100030 + 0x10000 * n
def LNK.BC_REQ_DATA (n i : Nat) : Nat := 0x10100040 + 0x10000 * n + 4 * i
def LNK.BC_RSP_STAT (n : Nat) : Nat := 0x10100060 + 0x10000 * n
def LNK.BC_RSP_DATA (n i : Nat) : Nat := 0x10100064 + 0x10000 * n + 4 * i
def LNK.LOOP_CTL (n : Nat) : Nat := 0x10100080 + 0x10000 * n
def LNK.SOUND_CTL (n : Nat) : Nat := 0x10100090 + 0x10000 * n
def LNK.SOUND_STAT (n : Nat) : Nat := 0x10100094 + 0x10000 * n
def LNK.CV_CNT (n : Nat) : Nat := 0x10100100 + 0x10000 * n
def LNK.DISP_CNT (n : Nat) : Nat := 0x10100104 + 0x10000 * n
def LNK.HCRC_CNT (n : Nat) : Nat := 0x10100108 + 0x10000 * n
def LNK.TCRC_CNT (n : Nat) : Nat := 0x1010010c + 0x10000 * n
def LNK.ABORT_CNT (n : Nat) : Nat := 0x10100110 + 0x10000 * n
def LNK.TRAIN_FAIL_CNT (n : Nat) : Nat := 0x10100114 + 0x10000 * n
def LNK.CLAMP_CNT (n : Nat) : Nat := 0x10100118 + 0x10000 * n
def LNK.LOS_CNT (n : Nat) : Nat := 0x1010011c + 0x10000 * n
def LNK.BC_TO_CNT (n : Nat) : Nat := 0x10100120 + 0x10000 * n
def LNK.BC_DROP_CNT (n : Nat) : Nat := 0x10100124 + 0x10000 * n
def LNK.LB_ERR_CNT (n : Nat) : Nat := 0x10100128 + 0x10000 * n
def LNK.EIDLE_MISS_CNT (n : Nat) : Nat := 0x1010012c + 0x10000 * n
def LNK.CNT_CLR (n : Nat) : Nat := 0x1010013c + 0x10000 * n
def LNK.SOUND_BUF (n i : Nat) : Nat := 0x10100800 + 0x10000 * n + 4 * i

/-! ### FE (R124-R131) -/

def FE.CTL (n : Nat) : Nat := 0x10200000 + 0x10000 * n
def FE.STAT (n : Nat) : Nat := 0x10200004 + 0x10000 * n
def FE.EVT (n : Nat) : Nat := 0x10200008 + 0x10000 * n
def FE.EVT_EN (n : Nat) : Nat := 0x1020000c + 0x10000 * n
def FE.SHADOW_CTL (n : Nat) : Nat := 0x10200010 + 0x10000 * n
def FE.SHADOW_TGT (n : Nat) : Nat := 0x10200014 + 0x10000 * n
def FE.FRAME_NUM (n : Nat) : Nat := 0x10200018 + 0x10000 * n
def FE.SENSOR_FC (n : Nat) : Nat := 0x1020001c + 0x10000 * n
def FE.GEOM (n : Nat) : Nat := 0x10200020 + 0x10000 * n
def FE.SRC (n : Nat) : Nat := 0x10200024 + 0x10000 * n
def FE.FILL (n : Nat) : Nat := 0x10200028 + 0x10000 * n
def FE.PP_CFG (n : Nat) : Nat := 0x10200030 + 0x10000 * n
def FE.PP_TIMING (n : Nat) : Nat := 0x10200034 + 0x10000 * n
def FE.LIN_CFG (n : Nat) : Nat := 0x10200040 + 0x10000 * n
def FE.MERGE_CFG (n : Nat) : Nat := 0x10200044 + 0x10000 * n
def FE.MERGE_RATIO (n : Nat) : Nat := 0x10200048 + 0x10000 * n
def FE.MERGE_THR (n : Nat) : Nat := 0x1020004c + 0x10000 * n
def FE.MERGE_MOT (n : Nat) : Nat := 0x10200050 + 0x10000 * n
def FE.BLACK (n i : Nat) : Nat := 0x10200060 + 0x10000 * n + 4 * i
def FE.CFA (n : Nat) : Nat := 0x10200070 + 0x10000 * n
def FE.DPC_CFG (n : Nat) : Nat := 0x10200074 + 0x10000 * n
def FE.LSC_CFG (n : Nat) : Nat := 0x10200080 + 0x10000 * n
def FE.STAT_CFG (n : Nat) : Nat := 0x102000a0 + 0x10000 * n
def FE.STAT_WIN (n : Nat) : Nat := 0x102000a4 + 0x10000 * n
def FE.STAT_SIZE (n : Nat) : Nat := 0x102000a8 + 0x10000 * n
def FE.CROP (n : Nat) : Nat := 0x102000b0 + 0x10000 * n
def FE.CROP_SIZE (n : Nat) : Nat := 0x102000b4 + 0x10000 * n
def FE.CNT_CLR (n : Nat) : Nat := 0x1020017c + 0x10000 * n
def FE.LIN_KNEE (n i : Nat) : Nat := 0x10200400 + 0x10000 * n + 4 * i
def FE.TONE_TC (n i : Nat) : Nat := 0x10200600 + 0x10000 * n + 4 * i
def FE.TONE_LGAIN (n i : Nat) : Nat := 0x10200800 + 0x10000 * n + 4 * i
def FE.LSC_GAIN (n i : Nat) : Nat := 0x10201000 + 0x10000 * n + 4 * i
def FE.DPC_MAP (n i : Nat) : Nat := 0x10208000 + 0x10000 * n + 4 * i
def FE.SHORT_FRAME_CNT (n : Nat) : Nat := 0x10200100 + 0x10000 * n
def FE.LONG_FRAME_CNT (n : Nat) : Nat := 0x10200104 + 0x10000 * n
def FE.MISSING_LINE_CNT (n : Nat) : Nat := 0x10200108 + 0x10000 * n
def FE.LATE_LINE_CNT (n : Nat) : Nat := 0x1020010c + 0x10000 * n
def FE.EARLY_DROP_CNT (n : Nat) : Nat := 0x10200110 + 0x10000 * n
def FE.SHORT_LINE_CNT (n : Nat) : Nat := 0x10200114 + 0x10000 * n
def FE.LONG_LINE_CNT (n : Nat) : Nat := 0x10200118 + 0x10000 * n
def FE.CRC_LINE_CNT (n : Nat) : Nat := 0x1020011c + 0x10000 * n
def FE.STRAY_LINE_CNT (n : Nat) : Nat := 0x10200120 + 0x10000 * n
def FE.EXTRA_LINE_CNT (n : Nat) : Nat := 0x10200124 + 0x10000 * n
def FE.LINE_ERR_CNT (n : Nat) : Nat := 0x10200128 + 0x10000 * n
def FE.FS_ERR_CNT (n : Nat) : Nat := 0x1020012c + 0x10000 * n
def FE.MERGE_PART_CNT (n : Nat) : Nat := 0x10200130 + 0x10000 * n
def FE.DPC_DYN_CNT (n : Nat) : Nat := 0x10200134 + 0x10000 * n
def FE.SHADOW_LATE_CNT (n : Nat) : Nat := 0x10200138 + 0x10000 * n
def FE.ABSENT_FRAME_CNT (n : Nat) : Nat := 0x1020013c + 0x10000 * n
def FE.PARAM_CLAMP_CNT (n : Nat) : Nat := 0x10200140 + 0x10000 * n
def FE.PP_SYNC_ERR_CNT (n : Nat) : Nat := 0x10200144 + 0x10000 * n
def FE.PP_LOSS_CNT (n : Nat) : Nat := 0x10200148 + 0x10000 * n

/-! ### CLU (R209-R212) -/

def CLU.CTL (n : Nat) : Nat := 0x10400000 + 0x100000 * n
def CLU.STAT (n : Nat) : Nat := 0x10400004 + 0x100000 * n
def CLU.EVT (n : Nat) : Nat := 0x10400008 + 0x100000 * n
def CLU.EVT_EN (n : Nat) : Nat := 0x1040000c + 0x100000 * n
def CLU.TASK (n : Nat) : Nat := 0x10400010 + 0x100000 * n
def CLU.LAST_ABORT (n : Nat) : Nat := 0x10400014 + 0x100000 * n
def CLU.FAULT_LOG (n : Nat) : Nat := 0x10400018 + 0x100000 * n
def CLU.CTX_COMMIT (n : Nat) : Nat := 0x10400020 + 0x100000 * n
def CLU.CTX_TGT (n : Nat) : Nat := 0x10400024 + 0x100000 * n
def CLU.ENG_STAT (n i : Nat) : Nat := 0x10400040 + 0x100000 * n + 4 * i
def CLU.CNT_CLR (n : Nat) : Nat := 0x1040013c + 0x100000 * n
def CLU.MISSING_BAND_CNT (n : Nat) : Nat := 0x10400100 + 0x100000 * n
def CLU.GAP_BAND_CNT (n : Nat) : Nat := 0x10400104 + 0x100000 * n
def CLU.ABSENT_LINE_CNT (n : Nat) : Nat := 0x10400108 + 0x100000 * n
def CLU.STALE_CNT (n : Nat) : Nat := 0x1040010c + 0x100000 * n
def CLU.MARKER_CNT (n : Nat) : Nat := 0x10400110 + 0x100000 * n
def CLU.WD_CNT (n : Nat) : Nat := 0x10400114 + 0x100000 * n
def CLU.LATE_ITEM_CNT (n : Nat) : Nat := 0x10400118 + 0x100000 * n
def CLU.QREAD_ABORT_CNT (n : Nat) : Nat := 0x1040011c + 0x100000 * n
def CLU.FAULT_CNT (n : Nat) : Nat := 0x10400120 + 0x100000 * n
def CLU.OVERRUN_CNT (n : Nat) : Nat := 0x10400124 + 0x100000 * n
def CLU.UE_CNT (n : Nat) : Nat := 0x10400128 + 0x100000 * n
def CLU.CTRL_DROP_CNT (n : Nat) : Nat := 0x1040012c + 0x100000 * n
def CLU.CTRL_REF_CNT (n : Nat) : Nat := 0x10400130 + 0x100000 * n
def CLU.COMMIT_LATE_CNT (n : Nat) : Nat := 0x10400134 + 0x100000 * n

/-- Rows of the SYS register table that software writes or that reset to a value other than 0. -/
def regsSYS : List RegDef :=
  [ { off := 0x0, reset := 0x16281010 }   -- SYS.DEV_ID
  , { off := 0x10, w1s := 0x1 }   -- SYS.SNAP
  , { off := 0x28, rw := 0xffffffff }   -- SYS.IRQ_EN[0]
  , { off := 0x2c, rw := 0x7fffff }   -- SYS.IRQ_EN[1]
  , { off := 0x30, w1c := 0x3 }   -- SYS.EVT
  , { off := 0x34, rw := 0x3 }   -- SYS.EVT_EN
  ]

/-- Rows of the PWR register table that software writes or that reset to a value other than 0. -/
def regsPWR : List RegDef :=
  [ { off := 0x800, reset := 0x12 }   -- PWR.MODE
  , { off := 0x804, w1c := 0x7f }   -- PWR.MODE_EVT
  , { off := 0x808, rw := 0x7f }   -- PWR.MODE_EVT_EN
  , { off := 0x80c, rw := 0x17, rws := 0x17, reset := 0x3 }   -- PWR.WAKE_CFG
  , { off := 0x814, rw := 0x80000007, rws := 0x80000007 }   -- PWR.LAST_SCENE
  , { off := 0x818, rw := 0xffffffff, reset := 0x12c0a08 }   -- PWR.SVC_POLICY
  , { off := 0x81c, rw := 0xffff, reset := 0x258 }   -- PWR.BOOT_CFG
  , { off := 0xa00, rw := 0x2, w1s := 0x1 }   -- PWR.RTC_CTL
  , { off := 0xa14, rw := 0xff }   -- PWR.RTC_SET_HI
  , { off := 0xa18, rw := 0xffffffff }   -- PWR.RTC_SET_LO
  , { off := 0xa1c, rw := 0xff }   -- PWR.RTC_ALARM_HI
  , { off := 0xa20, rw := 0xffffffff }   -- PWR.RTC_ALARM_LO
  , { off := 0xa24, rw := 0x8000ffff }   -- PWR.UTC_OFS
  , { off := 0xa30, reset := 0x2ee }   -- PWR.AVS_SHADOW
  , { off := 0x8, w1c := 0x3f }   -- PWR.EVT
  , { off := 0xc, rw := 0x3f }   -- PWR.EVT_EN
  , { off := 0x10, rw := 0x3ff, reset := 0x2ee }   -- PWR.SUP_SET
  , { off := 0x24, rw := 0xfc }   -- PWR.DOM_REQ
  , { off := 0x2c, rw := 0xfc }   -- PWR.DOM_CFG
  , { off := 0x40, reset := 0x1 }   -- PWR.RST_CAUSE
  , { off := 0x44, rw := 0x80003fff, reset := 0x3e8 }   -- PWR.WDT_CFG
  , { off := 0x50, w1c := 0xff }   -- PWR.FAULT_STAT
  , { off := 0x54, rw := 0xff, rws := 0xff, reset := 0x9f }   -- PWR.FAULT_EN
  ]

/-- Rows of the NVM register table that software writes or that reset to a value other than 0. -/
def regsNVM : List RegDef :=
  [ { off := 0x8, w1c := 0x7f }   -- NVM.EVT
  , { off := 0xc, rw := 0x7f }   -- NVM.EVT_EN
  ]

/-- Rows of the SCHED register table that software writes or that reset to a value other than 0. -/
def regsSCHED : List RegDef :=
  [ { off := 0x0, rw := 0x1 }   -- SCHED.CTL
  , { off := 0x8, w1c := 0x7f }   -- SCHED.EVT
  , { off := 0xc, rw := 0x7f }   -- SCHED.EVT_EN
  , { off := 0x24, rw := 0xffffff, reset := 0x20028 }   -- SCHED.SWAP_CFG
  ]

/-- Rows of the CFS register table that software writes or that reset to a value other than 0. -/
def regsCFS : List RegDef :=
  [ { off := 0x0, rw := 0x3, reset := 0x3 }   -- CFS.CTL
  , { off := 0x8, w1c := 0x3ff }   -- CFS.EVT
  , { off := 0xc, rw := 0x3ff }   -- CFS.EVT_EN
  , { off := 0x28, rw := 0xffff, reset := 0x1f4 }   -- CFS.SCRUB_CTL
  , { off := 0x800c, n1 := 1024, s1 := 32, rw := 0x3ffff }   -- CFS.Q_WM_HI
  , { off := 0x8010, n1 := 1024, s1 := 32, rw := 0x3ffff }   -- CFS.Q_WM_LO
  , { off := 0x8018, n1 := 1024, s1 := 32, w1c := 0x1000000 }   -- CFS.Q_STAT
  ]

/-- Rows of the DMA register table that software writes or that reset to a value other than 0. -/
def regsDMA : List RegDef :=
  [ { off := 0x8, w1c := 0x1f }   -- DMA.EVT
  , { off := 0xc, rw := 0x1f }   -- DMA.EVT_EN
  , { off := 0x40, n1 := 16, s1 := 4, rw := 0xfff3ffff }   -- DMA.QREQ
  , { off := 0x1000, n1 := 32, s1 := 64, rw := 0x1f8, w1s := 0x3, reset := 0x18 }   -- DMA.CH_CTL
  , { off := 0x1004, n1 := 32, s1 := 64, rw := 0x3ffe0 }   -- DMA.CH_DESC
  , { off := 0x1018, n1 := 32, s1 := 64, w1c := 0xf }   -- DMA.CH_EVT
  , { off := 0x101c, n1 := 32, s1 := 64, rw := 0xf }   -- DMA.CH_EVT_EN
  ]

/-- Rows of the BRG register table that software writes or that reset to a value other than 0. -/
def regsBRG : List RegDef :=
  [ { off := 0x8, w1c := 0x7 }   -- BRG.EVT
  , { off := 0xc, rw := 0x7 }   -- BRG.EVT_EN
  ]

/-- Rows of the TIME register table that software writes or that reset to a value other than 0. -/
def regsTIME : List RegDef :=
  [ { off := 0x0, rw := 0x1f, w1s := 0x100, reset := 0x6 }   -- TIME.CTL
  , { off := 0x8, w1c := 0xfff }   -- TIME.EVT
  , { off := 0xc, rw := 0xfff }   -- TIME.EVT_EN
  , { off := 0x28, rw := 0xffff, reset := 0xc8 }   -- TIME.STEP_THR
  , { off := 0x2c, rw := 0xffff, reset := 0x3e8 }   -- TIME.HOLD_MS
  , { off := 0x30, rw := 0xffff, reset := 0x7d0 }   -- TIME.LATE_TOL
  , { off := 0x34, rw := 0xffffffff, reset := 0xa012c }   -- TIME.SW_CFG
  , { off := 0x38, rw := 0xff, reset := 0x14 }   -- TIME.TRIG_CFG
  , { off := 0x60, rw := 0x800000ff, reset := 0x80000000 }   -- TIME.DOM_CFG[0]
  , { off := 0x70, rw := 0x800000ff, reset := 0x1 }   -- TIME.DOM_CFG[1]
  , { off := 0x6c, n1 := 2, s1 := 16, rw := 0xffffffff }   -- TIME.DOM_ASYM
  , { off := 0x3c, img := 0xffffff }   -- TIME.ORG_ID
  , { off := 0x300, n1 := 18, s1 := 4, rw := 0xfffff }   -- TIME.CAM_DLY
  ]

/-- Rows of the ETH register table that software writes or that reset to a value other than 0. -/
def regsETH : List RegDef :=
  [ { off := 0x8, w1c := 0xffff }   -- ETH.EVT
  , { off := 0xc, rw := 0xffff }   -- ETH.EVT_EN
  , { off := 0x10, img := 0xffffffff }   -- ETH.ADDR_HI
  , { off := 0x14, img := 0xffff }   -- ETH.ADDR_LO
  , { off := 0x18, rw := 0xffff, reset := 0x88b5 }   -- ETH.MGMT_ETYPE
  , { off := 0x1c, img := 0xffffffff, reset := 0x8000080 }   -- ETH.PASS_CFG
  , { off := 0x20, n1 := 2, s1 := 16, rw := 0xff3f, reset := 0x28 }   -- ETH.PCFG
  , { off := 0x28, n1 := 2, s1 := 16, rw := 0x3 }   -- ETH.LOOP_CTL
  , { off := 0x40, rw := 0xffff001f, reset := 0x1c }   -- ETH.MS_CTL
  , { off := 0x48, rw := 0xffffffff, reset := 0xc0000000 }   -- ETH.MS_PN_THR
  , { off := 0x404, n1 := 2, s1 := 256, n2 := 4, s2 := 64, rw := 0x3f }   -- ETH.LANE_RXCFG
  , { off := 0x408, n1 := 2, s1 := 256, n2 := 4, s2 := 64, rw := 0x3f3f3f3f, reset := 0x300000 }   -- ETH.LANE_TXEQ
  , { off := 0x40c, n1 := 2, s1 := 256, n2 := 4, s2 := 64, n3 := 3, s3 := 4, rw := 0xffffffff }   -- ETH.LANE_DFE
  ]

/-- Rows of the PRES register table that software writes or that reset to a value other than 0. -/
def regsPRES : List RegDef :=
  [ { off := 0x0, rw := 0x3 }   -- PRES.CTL
  , { off := 0x8, w1c := 0x7ff }   -- PRES.EVT
  , { off := 0xc, rw := 0x7ff }   -- PRES.EVT_EN
  , { off := 0x10, img := 0xffffffff }   -- PRES.VSF_EUI_HI
  , { off := 0x14, img := 0xffff }   -- PRES.VSF_EUI_LO
  , { off := 0x40, n1 := 8, s1 := 4, rw := 0xbfff071f, reset := 0x20000 }   -- PRES.FRZ_CFG
  , { off := 0x60, n1 := 8, s1 := 8, rw := 0x1fff1fff }   -- PRES.FRZ_WIN
  , { off := 0x64, n1 := 8, s1 := 8, rw := 0x1fff1fff }   -- PRES.FRZ_WSIZE
  , { off := 0x2000, n1 := 64, s1 := 128, n2 := 8, s2 := 16, rw := 0x1fff1fff }   -- PRES.CHK_POS
  , { off := 0x2004, n1 := 64, s1 := 128, n2 := 8, s2 := 16, rw := 0x1fff1fff }   -- PRES.CHK_SIZE
  , { off := 0x2008, n1 := 64, s1 := 128, n2 := 8, s2 := 16, rw := 0x80000003 }   -- PRES.CHK_CFG
  , { off := 0x200c, n1 := 64, s1 := 128, n2 := 8, s2 := 16, rw := 0xffffffff }   -- PRES.CHK_EXP
  ]

/-- Rows of the BIST register table that software writes or that reset to a value other than 0. -/
def regsBIST : List RegDef :=
  [ { off := 0x8, w1c := 0xff }   -- BIST.EVT
  , { off := 0xc, rw := 0xff }   -- BIST.EVT_EN
  , { off := 0x10, rw := 0xdf, w1s := 0x300 }   -- BIST.RUN
  ]

/-- Rows of the ALM register table that software writes or that reset to a value other than 0. -/
def regsALM : List RegDef :=
  [ { off := 0x0, rw := 0x7, reset := 0x7 }   -- ALM.CTL
  , { off := 0x8, w1c := 0x7ff }   -- ALM.EVT
  , { off := 0xc, rw := 0x7ff }   -- ALM.EVT_EN
  , { off := 0x10, rw := 0xff, reset := 0x28 }   -- ALM.SLACK_MIN
  , { off := 0x14, rw := 0xffffff, reset := 0x190314 }   -- ALM.SLACK_CFG
  , { off := 0x18, rw := 0xffffffff, reset := 0x32d4abc }   -- ALM.AVS_CFG
  , { off := 0x1c, reset := 0x2ee }   -- ALM.AVS_STAT
  , { off := 0x24, rw := 0xffffff, reset := 0x10041e }   -- ALM.SOUND_CFG
  , { off := 0x2c, w1s := 0xffff }   -- ALM.REBASE
  ]

/-- Rows of the MGMT register table that software writes or that reset to a value other than 0. -/
def regsMGMT : List RegDef :=
  [ { off := 0x0, rw := 0xff03, w1s := 0x4, reset := 0xa03 }   -- MGMT.CTL
  , { off := 0x8, w1c := 0xf }   -- MGMT.EVT
  , { off := 0xc, rw := 0xf }   -- MGMT.EVT_EN
  , { off := 0x1c, reset := 0x4100000 }   -- MGMT.MBX_LEVEL
  , { off := 0x20, rw := 0xffff }   -- MGMT.HOST_ADDR_HI
  , { off := 0x24, rw := 0xffffffff }   -- MGMT.HOST_ADDR_LO
  ]

/-- Rows of the LNK register table that software writes or that reset to a value other than 0. -/
def regsLNK : List RegDef :=
  [ { off := 0x0, rw := 0xf, w1s := 0x10 }   -- LNK.CTL
  , { off := 0x8, w1c := 0x3ff }   -- LNK.EVT
  , { off := 0xc, rw := 0x3ff }   -- LNK.EVT_EN
  , { off := 0x10, rw := 0xfff1f, reset := 0x14003 }   -- LNK.EQ_CTL
  , { off := 0x20, rw := 0xffffffff, reset := 0xffffffe0 }   -- LNK.TAP_BOUND
  , { off := 0x24, rw := 0xff, reset := 0x28 }   -- LNK.IDLE_CFG
  , { off := 0x30, rw := 0x1fff, w1s := 0x10000 }   -- LNK.BC_REQ_CTL
  , { off := 0x40, n1 := 5, s1 := 4, rw := 0xffffffff }   -- LNK.BC_REQ_DATA
  , { off := 0x80, rw := 0x3 }   -- LNK.LOOP_CTL
  , { off := 0x90, rw := 0xe, w1s := 0x1, reset := 0x8 }   -- LNK.SOUND_CTL
  ]

/-- Rows of the FE register table that software writes or that reset to a value other than 0. -/
def regsFE : List RegDef :=
  [ { off := 0x0, rw := 0x3ff }   -- FE.CTL
  , { off := 0x8, w1c := 0x7ff }   -- FE.EVT
  , { off := 0xc, rw := 0x7ff }   -- FE.EVT_EN
  , { off := 0x10, rw := 0x7 }   -- FE.SHADOW_CTL
  , { off := 0x14, rw := 0xffffffff }   -- FE.SHADOW_TGT
  , { off := 0x20, img := 0xffffffff }   -- FE.GEOM
  , { off := 0x24, rw := 0xffff0fff }   -- FE.SRC
  , { off := 0x28, rw := 0xffffff }   -- FE.FILL
  , { off := 0x30, rw := 0x3ff, reset := 0xc }   -- FE.PP_CFG
  , { off := 0x34, rw := 0xffff, reset := 0x6400 }   -- FE.PP_TIMING
  , { off := 0x40, rw := 0x3f, reset := 0x1 }   -- FE.LIN_CFG
  , { off := 0x44, rw := 0x1f03, reset := 0x1001 }   -- FE.MERGE_CFG
  , { off := 0x48, rw := 0xffffffff, reset := 0x1000100 }   -- FE.MERGE_RATIO
  , { off := 0x4c, rw := 0xffffff }   -- FE.MERGE_THR
  , { off := 0x50, rw := 0xffffffff }   -- FE.MERGE_MOT
  , { off := 0x60, n1 := 4, s1 := 4, rw := 0xffffff }   -- FE.BLACK
  , { off := 0x70, rw := 0xff, reset := 0xe4 }   -- FE.CFA
  , { off := 0x74, rw := 0xdfffffff }   -- FE.DPC_CFG
  , { off := 0x80, rw := 0x1ff01ff }   -- FE.LSC_CFG
  , { off := 0xa0, rw := 0x1ffff }   -- FE.STAT_CFG
  , { off := 0xa4, rw := 0x1fff1fff }   -- FE.STAT_WIN
  , { off := 0xa8, rw := 0x1fff1fff }   -- FE.STAT_SIZE
  , { off := 0xb0, rw := 0x1fff1fff }   -- FE.CROP
  , { off := 0xb4, rw := 0x1fff1fff }   -- FE.CROP_SIZE
  , { off := 0x400, n1 := 96, s1 := 4, rw := 0xffffff }   -- FE.LIN_KNEE
  , { off := 0x600, n1 := 84, s1 := 4, rw := 0xfff0fff }   -- FE.TONE_TC
  , { off := 0x750, rw := 0xfff }   -- FE.TONE_TC word 84
  , { off := 0x800, n1 := 128, s1 := 4, rw := 0xffffffff, reset := 0x1000100 }   -- FE.TONE_LGAIN
  , { off := 0x1000, n1 := 578, s1 := 4, rw := 0xffffffff, reset := 0x10001000 }   -- FE.LSC_GAIN
  , { off := 0x8000, n1 := 4096, s1 := 4, rw := 0x9fff1fff }   -- FE.DPC_MAP
  ]

/-- Rows of the CLU register table that software writes or that reset to a value other than 0. -/
def regsCLU : List RegDef :=
  [ { off := 0x0, rw := 0x1 }   -- CLU.CTL
  , { off := 0x8, w1c := 0x7ff }   -- CLU.EVT
  , { off := 0xc, rw := 0x7ff }   -- CLU.EVT_EN
  , { off := 0x20, rw := 0x17, w1s := 0x100 }   -- CLU.CTX_COMMIT
  , { off := 0x24, rw := 0xffffffff }   -- CLU.CTX_TGT
  ]

end Sys2Proof.Machine
end

