-- ==== Sys2Proof/Machine/TableSets.lean ====
section
/-! DEFINITION. Table sets as the image lays them out (R349-R354): header, directory and sequencer tables. -/

namespace Sys2Proof.Machine

/-- The little-endian field of `n` bytes at `o`. -/
def leAt (bs : List Byte) (o n : Nat) : Nat := le (slice bs o n)

/-- Section `i` of the directory of a table set (R349). -/
def setSection (bs : List Byte) (i : Nat) : List Byte := slice bs (leAt bs (32 + 12 * i) 4) (leAt bs (36 + 12 * i) 4)

/-- COUNT of a sequencer table; an empty section is an empty table (R349, R350). -/
def tableCount (t : List Byte) : Nat := if t.isEmpty then 0 else leAt t 4 4

/-- A 16-byte entry (R350, R351). -/
def parseEntry (b : List Byte) : Entry :=
  { slot := fld (leAt b 0 4) 0 22, carry := bitOf (leAt b 0 4) 22, op := fld (leAt b 0 4) 24 8,
    w1 := leAt b 4 4, w2 := leAt b 8 4, w3 := leAt b 12 4 }

/-- A table of 16-byte entries (R350, R351). -/
def parseTable (t : List Byte) : List Entry := (upto (tableCount t)).map (fun i => parseEntry (slice t (16 + 16 * i) 16))

/-- A front-end entry (R353). -/
def parseFeEntry (b : List Byte) : FeEntry :=
  { slot := fld (leAt b 0 4) 0 22, carry := bitOf (leAt b 0 4) 22, close := leAt b 4 4, dl := leAt b 8 4,
    d0 := [leAt b 12 4, leAt b 16 4, leAt b 20 4], wr0 := leAt b 24 4, openOfs := leAt b 28 1 }

/-- The open time of a front-end entry, core cycles from its period's start (R353). -/
def FeEntry.opens (e : FeEntry) : Nat := 256 * e.slot + e.openOfs

/-- The deadline of line `l` of exposure `x` (R353). -/
def FeEntry.deadline (e : FeEntry) (x l : Nat) : Nat := nth 0 e.d0 x + l * e.dl / 256

/-- The write time of merge row `l` (R353). -/
def FeEntry.writes (e : FeEntry) (l : Nat) : Nat := e.wr0 + l * e.dl / 256

/-- A front-end table: FE.GEOM and the entries (R353). -/
def parseFeTable (t : List Byte) : Nat × List FeEntry :=
  (leAt t 8 4, (upto (tableCount t)).map (fun i => parseFeEntry (slice t (16 + 32 * i) 32)))

/-- A queue descriptor (R354): word 0 in the layout of CFS.Q_CFG above bit 17. -/
def parseQueue (b : List Byte) : QueueCfg :=
  let w := leAt b 0 4
  { queue := fld w 0 10, en := bitOf w 31, sched := bitOf w 30, prod := fld w 25 5, cons := fld w 20 5,
    reserve := fld (leAt b 4 4) 0 18, quota := fld (leAt b 8 4) 0 18, hi := fld (leAt b 12 4) 0 18, lo := fld (leAt b 16 4) 0 18 }

/-- The store table (R354). -/
def parseStore (t : List Byte) : StoreTable :=
  let d := fld (leAt t 8 4) 0 16
  let p := fld (leAt t 8 4) 16 8
  { queues := (upto d).map (fun i => parseQueue (slice t (16 + 24 * i) 24)),
    patterns := (upto p).map (fun i => slice t (16 + 24 * d + 1024 * i) 1024),
    map := (upto (tableCount t)).map (fun i =>
      let w := leAt t (16 + 24 * d + 1024 * p + 8 * i) 4
      (fld w 0 22, fld w 24 7)) }

/-- The contexts that the context image of cluster `k` initialises: as many as its table says (R351, R355). -/
def TableSet.images (t : TableSet) (k : Nat) : List CtxImage := (nth [] t.loads.ctxs k).take (nth 0 t.contexts k)

/-- A table set from its bytes, with the sections whose layout the spec does not give (R349-R354, log entry 20). -/
def parseSet (bs : List Byte) (loads : SetLoads) : TableSet :=
  { scene := leAt bs 7 1, grade := leAt bs 8 1, variant := leAt bs 9 1, position := leAt bs 10 1,
    early := bitOf (leAt bs 11 1) 0, chain := bitOf (leAt bs 11 1) 1, periodNs := leAt bs 12 4, periodFrac := leAt bs 16 2,
    usable := fld (leAt bs 20 4) 0 22, planId := leAt bs 24 4,
    link := (upto 16).map (fun i => parseTable (setSection bs i)),
    fe := (upto 18).map (fun i => parseFeTable (setSection bs (16 + i))),
    store := if (setSection bs 34).isEmpty then {} else parseStore (setSection bs 34),
    cluster := (upto 8).map (fun i => parseTable (setSection bs (35 + i))),
    contexts := (upto 8).map (fun i => leAt (setSection bs (35 + i)) 8 4),
    pkt := parseTable (setSection bs 43), launch := parseTable (setSection bs 44), trig := parseTable (setSection bs 45),
    loads := loads }

end Sys2Proof.Machine
end

