-- ==== Sys2Proof/Machine/State.lean ====
section
/-! DEFINITION. The state of the device: the queue of waiting commands, the register file of the control bus, and the
state of each block beyond its registers. -/

namespace Sys2Proof.Machine

/-- The state of the device. -/
structure State where
  /-- Commands that wait, first in, first out. -/
  pending : List Instr := []
  /-- The control-bus registers by address; an unlisted one holds its reset value (R551). Active copies of shadowed ones. -/
  regs : Map Word := []
  /-- The shadow copies of shadowed registers (R124, R276). -/
  shadow : Map Word := []
  link : Map LinkState := []
  fe : Map FeState := []
  cfs : CfsState := {}
  clu : Map CluState := []
  pres : PresState := {}
  eth : EthState := {}
  time : TimeState := {}
  sched : SchedState := {}
  nvm : NvmState := {}
  alm : AlmState := {}
  bist : BistState := {}
  dma : DmaState := {}
  mgmt : MgmtState := {}
  power : PowerState := {}
  /-- Core cycles (1 ns) since the state after reset. -/
  now : Nat := 0
  /-- The core cycle of the wake (R409, R417). -/
  wakeAt : Nat := 0
  /-- The chain position, from the straps (R296). -/
  position : Nat := 0
  /-- Front ends taken out of service (R344). -/
  feOos : List Nat := []
  /-- Pulse request lines of the DMA that are held (R430). -/
  dmaReq : Nat := 0
  /-- Sensor scripts of cameras 0 to 15: request types and payloads (R402). -/
  scripts : List (List (Nat × List Byte)) := []
  /-- Free values taken so far: the model's own field (log entry 1). -/
  free : Nat := 0
deriving DecidableEq, Repr

/-- The machine right after a power-on reset (R394, R511): in STANDBY, AON alone powered, every register at the value its
table gives (unlisted), nothing in any memory, no command waiting. -/
def State.reset : State := {}

/-- Why the machine stops with a fault: no command does, since the spec gives every access and every command an effect
(an access outside the control-bus map ends in BUS_ERR under R551, which is an answer). -/
inductive Fault where
deriving DecidableEq, Repr

/-- Why the machine refuses a command. -/
inductive Refusal where
  /-- The command has no meaning in the model. Raised by no arm of `exec` at present. Safe: the machine stops. -/
  | notModelled (mnemonic : String)
deriving DecidableEq, Repr

end Sys2Proof.Machine
end

