-- ==== Sys2Proof/Machine/Ops.lean ====
section
/-! DEFINITION. The named operations over the register file, the event bits and the counters (R6, R10-R15), and the
accessors of the per-instance state that every family uses. -/

namespace Sys2Proof.Machine

/-- Whether the row `d` of a register table covers offset `o` of the window. -/
def RegDef.covers (d : RegDef) (o : Nat) : Bool :=
  if o < d.off then false
  else
    let x := o - d.off
    let i := if d.s1 = 0 then 0 else x / d.s1
    let y := x - i * d.s1
    let j := if d.s2 = 0 then 0 else y / d.s2
    let z := y - j * d.s2
    let k := if d.s3 = 0 then 0 else z / d.s3
    decide (i < d.n1) && decide (j < d.n2) && decide (k < d.n3) && z - k * d.s3 == 0

/-- The register table and the window base of a control-bus address in a block window (R551, R14). -/
def windowOf (a : Nat) : Option (List RegDef × Nat) :=
  if a < 0x10000000 then none
  else if a < 0x100D0000 then
    let base := 0x10000000 + (a - 0x10000000) / 0x10000 * 0x10000
    match (a - 0x10000000) / 0x10000 with
    | 0 => some (regsSYS, base)
    | 1 => some (regsPWR, base)
    | 2 => some (regsNVM, base)
    | 3 => some (regsSCHED, base)
    | 4 => some (regsCFS, base)
    | 5 => some (regsDMA, base)
    | 6 => some (regsBRG, base)
    | 7 => some (regsTIME, base)
    | 8 => some (regsETH, base)
    | 9 => some (regsPRES, base)
    | 10 => some (regsBIST, base)
    | 11 => some (regsALM, base)
    | _ => some (regsMGMT, base)
  else if a < 0x10100000 then none
  else if a < 0x10200000 then some (regsLNK, 0x10100000 + (a - 0x10100000) / 0x10000 * 0x10000)
  else if a < 0x10320000 then some (regsFE, 0x10200000 + (a - 0x10200000) / 0x10000 * 0x10000)
  else if a < 0x10400000 then none
  else if a < 0x10C00000 then some (regsCLU, 0x10400000 + (a - 0x10400000) / 0x100000 * 0x100000)
  else none

/-- The row of the register map that covers address `a`. -/
def regDefAt (a : Nat) : Option RegDef :=
  match windowOf a with
  | none => none
  | some (defs, base) => defs.find? (fun d => d.covers (a - base))

/-- The reset value of the register at `a`; 0 where the map gives none (R14). -/
def regReset (a : Nat) : Word :=
  match regDefAt a with
  | none => 0
  | some d => BitVec.ofNat 32 d.reset

/-- The stored value of the register at `a`. -/
def State.rd (s : State) (a : Nat) : Nat := (Map.get (regReset a) s.regs a).toNat

/-- The register at `a` set to `v` modulo 2^32. -/
def State.wr (s : State) (a : Nat) (v : Nat) : State :=
  { s with regs := Map.set (regReset a) s.regs a (BitVec.ofNat 32 v) }

/-- The `w`-bit field at bit `lo` of the register at `a`. -/
def State.getF (s : State) (a lo w : Nat) : Nat := fld (s.rd a) lo w

/-- Bit `i` of the register at `a`. -/
def State.bit (s : State) (a i : Nat) : Bool := bitOf (s.rd a) i

/-- The `w`-bit field at bit `lo` of the register at `a` set to `v`. -/
def State.putF (s : State) (a lo w v : Nat) : State := s.wr a (setFld (s.rd a) lo w v)

/-- Bit `i` of the register at `a` set, as hardware sets an event bit (R10, R11). -/
def State.setBit (s : State) (a i : Nat) : State := s.putF a i 1 1

/-- Bit `i` of the register at `a` cleared. -/
def State.clrBit (s : State) (a i : Nat) : State := s.putF a i 1 0

/-- Bit `i` of the register at `a` set to `b`. -/
def State.putBit (s : State) (a i : Nat) (b : Bool) : State := s.putF a i 1 (b2n b)

/-- The 32-bit saturating counter at `a` plus `k` (R15). -/
def State.incBy (s : State) (a k : Nat) : State := s.wr a (min 0xFFFFFFFF (s.rd a + k))

/-- The 32-bit saturating counter at `a` plus 1 (R15). -/
def State.inc (s : State) (a : Nat) : State := s.incBy a 1

/-- What a software write of `v` makes of a register that holds `old` (R10, R13): writable bits take the written value,
W1C bits written 1 clear, W1S bits written 1 set, all others stay. -/
def RegDef.written (d : RegDef) (old v : Nat) : Nat :=
  let w := d.rw ||| d.rws
  ((old &&& (0xFFFFFFFF ^^^ (w ||| (d.w1c &&& v)))) ||| (v &&& w)) ||| (v &&& d.w1s)

/-- The register at `a` after a plain software write of `v`; an offset the map does not assign ignores it (R10, R14). -/
def State.plainWrite (s : State) (a v : Nat) : State :=
  match regDefAt a with
  | none => s
  | some d => s.wr a (d.written (s.rd a) v)

/-- What the image or a table set makes of a register that holds `old` when it loads `v` (R10, R13): the bits that software
writes and those that only a load gives take the loaded value. -/
def RegDef.loaded (d : RegDef) (old v : Nat) : Nat :=
  let m := d.rw ||| d.rws ||| d.img
  (old &&& (0xFFFFFFFF ^^^ m)) ||| (v &&& m)

/-- What a load or a write leaves of `v` in the register at `a`: N of PRES.FRZ_CFG is at least 2 (R277). -/
def regLimit (a v : Nat) : Nat :=
  if (upto 8).any (fun j => PRES.FRZ_CFG j == a) then setFld v 16 8 (max 2 (fld v 16 8)) else v

/-- The register at `a` loaded with `v` by the image or a table set; an offset the map does not assign takes nothing (R13, R14). -/
def State.imageWrite (s : State) (a v : Nat) : State :=
  match regDefAt a with
  | none => s
  | some d => s.wr a (regLimit a (d.loaded (s.rd a) v))

/-- Bits of the register at `a` that only a load by the image gives. -/
def imageOnly (a : Nat) : Bool := (regDefAt a).any (fun d => d.img != 0)

/-- `s` if `c` is false, else `f s`. -/
def State.when (s : State) (c : Bool) (f : State → State) : State := if c then f s else s

/-- PWR.MODE.MODE (R393): 2 BOOT, 3 EARLY_VIEW, 4 SERVICE, 5 DEGRADED, 6 MAINTENANCE, 7 SHUTDOWN_RECORD. -/
def State.mode (s : State) : Nat := s.getF PWR.MODE 0 3

/-- The next free value, and the state with the count of free values moved on (log entry 1). -/
def State.fresh (s : State) : Nat × State := (Config.freeValue s.free, { s with free := s.free + 1 })

/-- Link `n`. -/
def State.lnk (s : State) (n : Nat) : LinkState := Map.get {} s.link n

/-- Link `n` replaced. -/
def State.setLnk (s : State) (n : Nat) (l : LinkState) : State := { s with link := Map.set {} s.link n l }

/-- Link `n` changed by `f`. -/
def State.modLnk (s : State) (n : Nat) (f : LinkState → LinkState) : State := s.setLnk n (f (s.lnk n))

/-- Front end `n`. -/
def State.fes (s : State) (n : Nat) : FeState := Map.get {} s.fe n

/-- Front end `n` replaced. -/
def State.setFe (s : State) (n : Nat) (f : FeState) : State := { s with fe := Map.set {} s.fe n f }

/-- Front end `n` changed by `f`. -/
def State.modFe (s : State) (n : Nat) (f : FeState → FeState) : State := s.setFe n (f (s.fes n))

/-- The shadow copy of the shadowed register at `a` (R124). -/
def State.sh (s : State) (a : Nat) : Nat := (Map.get (regReset a) s.shadow a).toNat

/-- The shadow copy of the register at `a` set to `v` modulo 2^32. -/
def State.setSh (s : State) (a v : Nat) : State :=
  { s with shadow := Map.set (regReset a) s.shadow a (BitVec.ofNat 32 v) }

/-- Boot milestone `i` in this wake, in µs from the wake (PWR.BOOT_MARK, R417); only the first time counts. -/
def State.bootMark (s : State) (i : Nat) : State :=
  if s.bit (PWR.BOOT_MARK i) 31 then s else s.wr (PWR.BOOT_MARK i) (2 ^ 31 + min 0xFFFFFF ((s.now - s.wakeAt) / 1000))

/-- The device has no service scene for the rest of the wake: EARLY_ONLY (R406). -/
def State.noService (s : State) : State := (s.putBit PWR.MODE 16 true).setBit PWR.MODE_EVT 3

/-- The part is a KVA-1628-AS, which has no cascade port (R3). -/
def State.isAS (s : State) : Bool := s.getF SYS.DEV_ID 12 4 == 2

/-- An event report waits to be sent (R534). -/
def State.report (s : State) (code : Nat) (data : List Byte) : State :=
  { s with mgmt := { s.mgmt with events := s.mgmt.events ++ [(code, data)] } }

/-- A mode change (R394): MODE, PREV and REASON, the events and milestones of R417, and the event report of R534. -/
def State.setMode (s : State) (m reason : Nat) : State :=
  if s.mode = m then s
  else
    let s := (s.wr PWR.MODE (fld (s.rd PWR.MODE) 16 1 * 65536 + reason * 256 + s.mode * 16 + m)).setBit PWR.MODE_EVT 0
    let s := s.when (m == 3) (·.setBit PWR.MODE_EVT 1)
    let s := s.when (m == 4 || m == 5) (fun s => { ((s.setBit PWR.MODE_EVT 2).bootMark 3) with power := { s.power with served := true } })
    s.report 3 (beBytes 4 (s.rd PWR.MODE))

/-- The firmware runs: it has started and the cores are not halted (R25, R26). -/
def State.fwActs (s : State) : Bool := s.power.phase == .running && s.power.firmware && !s.power.coresHalted

/-- An internal scan chain is enabled (R457, R459): by the test port, or while a logic test runs. -/
def State.scanActive (s : State) : Bool := s.bist.portScan || s.bist.testing.any (fun t => t.logic && t.at_.isSome)

/-- The advance of device time in one core cycle: 1 ns × (1 + y), in 2^-40 ns (R306). -/
def cycleTime (y : Int) : Nat := (2 ^ 40 + 2 ^ 40 * y / 256000000000).toNat

/-- The state of domain `d` (R504-R506). -/
def State.dom (s : State) (d : Nat) : DomPower := nth .off s.power.doms d

/-- Domain `d` is on. -/
def State.domOn (s : State) (d : Nat) : Bool := s.dom d == .up

/-- Domain `d` set to `x`. -/
def State.setDom (s : State) (d : Nat) (x : DomPower) : State :=
  { s with power := { s.power with doms := setNth s.power.doms d x } }

/-- The table set whose entries run: the set in force, or the old one whose CARRY entries still run (R363). -/
def State.tableSet (s : State) (old : Bool) : TableSet := if old then s.sched.old.getD {} else s.sched.cur

/-- The set whose table sequencer `q` holds active (R363): until it has switched, the old one. -/
def State.setOf (s : State) (q : Nat) : TableSet :=
  match s.sched.old with
  | none => s.sched.cur
  | some old => if s.sched.switched.contains q && !s.sched.draining then s.sched.cur else old

/-- An entry of sequencer `q` runs in the present period (R348, R363, R364): of the set in force every one, but for CARRY entries
in the first period of a set; in the first period after a swap point the old CARRY entries, and the new others once the sequencer has
switched, where the swap does not drain. -/
def State.runsNow (s : State) (q : Nat) (old carry : Bool) : Bool :=
  match s.sched.old with
  | none => !old && !(carry && s.sched.fresh)
  | some _ => if old then carry else !carry && s.sched.switched.contains q && !s.sched.draining

/-- An entry of sequencer `q` is executed now: it runs in the present period, and its slot has come (R347, R363). -/
def State.entryNow (s : State) (q : Nat) (old : Bool) (slot : Nat) (carry : Bool) : Bool :=
  s.runsNow q old carry && s.sched.slot == slot

/-- The entries of a sequencer that run in the present period. -/
def State.liveEntries (s : State) (q : Nat) (table : TableSet → List Entry) : List Entry :=
  (table (s.tableSet true)).filter (fun e => s.runsNow q true e.carry) ++ (table s.sched.cur).filter (fun e => s.runsNow q false e.carry)

/-- The states after each element of a list has acted in turn. -/
def State.each {α : Type} (s : State) (l : List α) (f : State → α → State) : State := l.foldl f s

/-- The answer to the command's sender: a status of R536 and the words read. -/
def State.answer (s : State) (status : Nat) (words : List Word) : State :=
  { s with mgmt := { s.mgmt with answer := { status := status, words := words } } }

end Sys2Proof.Machine
end

