-- ==== Sys2Proof/Machine/Regions.lean ====
section
/-! DEFINITION. Which domain a register window needs, and which registers are counters (R30, R544, R551). -/

namespace Sys2Proof.Machine

/-- Consecutive counters: the first one's address, how many, the distance to their snapshot registers, and the domain. -/
structure CounterRun where
  first : Nat
  count : Nat
  snap : Nat
  dom : Nat

/-- The domain of link or front end `n` (R30). -/
def camDomain (n : Nat) : Nat := if n < 8 ∨ n = 16 then 3 else 4

/-- The domain of cluster `k` (R30). -/
def cluDomain (k : Nat) : Nat := if k < 4 then 5 else 6

/-- Every counter of the device that has a snapshot register at a fixed distance (R86, R131, R174, R212, R277, R303, R340,
R369, R392, R417, R443, R444, R467, R496, R523, R549, R550). -/
def counterRuns : List CounterRun :=
  [⟨SYS.LOCKSTEP_CNT, 2, 0x100, 1⟩, ⟨PWR.DIP_CNT, 9, 0x100, 0⟩, ⟨PWR.WAKE_CNT, 5, 0x100, 0⟩, ⟨NVM.RETRY_CNT, 7, 0x100, 1⟩,
   ⟨SCHED.DEV_CNT 0, 54, 0x100, 1⟩, ⟨CFS.DROP_CNT, 11, 0x100, 2⟩, ⟨DMA.BUS_ERR_CNT, 6, 0x100, 1⟩, ⟨BRG.RETRY_CNT, 3, 0x100, 1⟩,
   ⟨0x10070100, 15, 0x100, 7⟩, ⟨0x10080100, 28, 0x100, 7⟩, ⟨0x10090100, 16, 0x100, 7⟩, ⟨BIST.FAIL_CNT, 7, 0x100, 1⟩,
   ⟨ALM.AVS_UP_CNT, 10, 0x100, 1⟩, ⟨MGMT.SPI_ERR_CNT, 5, 0x100, 1⟩]
  ++ (upto 16).map (fun n => ⟨LNK.CV_CNT n, 12, 0x100, camDomain n⟩)
  ++ (upto 18).map (fun n => ⟨FE.CTL n + 0x100, 20, 0x100, camDomain n⟩)
  ++ (upto 8).map (fun k => ⟨CLU.CTL k + 0x100, 14, 0x100, cluDomain k⟩)

/-- Address `a` lies in the run. -/
def CounterRun.has (c : CounterRun) (a : Nat) : Bool := decide (c.first ≤ a) && decide (a < c.first + 4 * c.count)

/-- Address `a` is a counter; the run of SCHED has two unassigned offsets (R369). -/
def isCounter (a : Nat) : Bool :=
  (counterRuns.any (fun c => c.has a) && a != 0x100301B8 && a != 0x100301BC) || (decide (0x10048000 ≤ a) && decide (a < 0x10050000) && a % 32 == 28)

/-- The domain whose power a register window needs (R30); none outside the block windows. PWR lies in AON, and is reached
through CTRL. -/
def windowDomain (a : Nat) : Option Nat :=
  if a < 0x10000000 then none
  else if a < 0x100D0000 then
    match (a - 0x10000000) / 0x10000 with
    | 4 => some 2
    | 7 => some 7
    | 8 => some 7
    | 9 => some 7
    | _ => some 1
  else if a < 0x10100000 then none
  else if a < 0x10200000 then some (camDomain ((a - 0x10100000) / 0x10000))
  else if a < 0x10320000 then some (camDomain ((a - 0x10200000) / 0x10000))
  else if a < 0x10400000 then none
  else if a < 0x10C00000 then some (cluDomain ((a - 0x10400000) / 0x100000))
  else none

/-! ### Accesses that a block does not serve (R27, R465) -/

/-- Unit `u` of R461 is under test. -/
def State.underTest (s : State) (u : Nat) : Bool := s.bist.testing.any (fun t => t.unit == u)

/-- The unit of R461 whose register window holds `a`: clusters 0 to 7, then front ends. -/
def windowUnit (a : Nat) : Option Nat :=
  if 0x10200000 ≤ a ∧ a < 0x10320000 then some (8 + (a - 0x10200000) / 0x10000)
  else if 0x10400000 ≤ a ∧ a < 0x10C00000 then some ((a - 0x10400000) / 0x100000)
  else none

/-- The register window at `a` belongs to a unit under test (R465). -/
def State.windowTest (s : State) (a : Nat) : Bool :=
  match windowUnit a with
  | none => false
  | some u => s.underTest u

/-- An access to a unit under test (R465). -/
def State.testAccess (s : State) : State := (s.inc BIST.UNDER_TEST_ACC_CNT).setBit BIST.EVT 7

/-- An access to a block agent in a powered-down domain (R27). -/
def State.offAccess (s : State) : State := (s.inc SYS.OFF_ACCESS_CNT).setBit SYS.EVT 1

/-- A write of the register at `a` whose effect in a block that serves it is `f`: nothing answers while CTRL is unpowered; in a
powered-down domain, or in a unit under test, the write is discarded and counted (R27, R465). -/
def State.served (s : State) (a : Nat) (f : State → State) : State :=
  if !s.domOn 1 then s
  else if !s.domOn ((windowDomain a).getD 1) then s.offAccess
  else if s.windowTest a then s.testAccess
  else f s

end Sys2Proof.Machine
end

