-- ==== Sys2Proof/Machine/Cfs.lean ====
section
/-! DEFINITION. The Central Frame Store (spec/04_central_frame_store.md): cells, free lists, queues, push at full,
markers, flush, pop, audit, scrub, watermarks and the aperture. -/

namespace Sys2Proof.Machine

/-! ### Cells and free lists (R132, R133, R142, R144) -/

/-- Cells on a free list. -/
def runsCount (r : Runs) : Nat := (r.map (·.2)).sum

/-- The head cell of a free list and the rest of it. -/
def runsTake (r : Runs) : Option (Nat × Runs) :=
  match r with
  | [] => none
  | (c, n) :: rest =>
    if n = 0 then none
    else if n = 1 then some (c, rest) else some (c, (c + 4, n - 1) :: rest)

/-- A cell returned to the tail of its free list. DESIGN CHOICE (log entry 7): the spec does not give the end. -/
def runsPut (r : Runs) (c : Nat) : Runs :=
  match r with
  | [] => [(c, 1)]
  | [(b, n)] => if b + 4 * n = c then [(b, n + 1)] else [(b, n), (c, 1)]
  | x :: rest => x :: runsPut rest c

/-- The first `k` cells of a list kept, the rest returned as cells. -/
def runsCut (r : Runs) (k : Nat) : Runs × List Nat :=
  match r with
  | [] => ([], [])
  | (c, n) :: rest =>
    if n ≤ k then
      let (a, b) := runsCut rest (k - n)
      ((c, n) :: a, b)
    else
      ((if k = 0 then [] else [(c, k)]), (upto (n - k)).map (fun i => c + 4 * (k + i)) ++ rest.flatMap (fun p => (upto p.2).map (fun i => p.1 + 4 * i)))

/-- FREE of R142. -/
def CfsState.freeCells (f : CfsState) : Nat := (f.free.map runsCount).sum

/-- The free list of quad `j` (R142). -/
def CfsState.quad (f : CfsState) (j : Nat) : Runs := nth [] f.free j

/-- A cell taken for the rotation's next quad `j`, or for the first following quad that has one (R144). The answer is
the cell, its quad, whether it is outside the rotation, and the lists without it. -/
def CfsState.takeFrom (f : CfsState) (j : Nat) : Nat → Option (Nat × Nat × Bool × CfsState)
  | 0 => none
  | k + 1 =>
    match runsTake (f.quad (j % 4)) with
    | some (c, r) => some (c, j % 4, k + 1 != 4, { f with free := setNth f.free (j % 4) r })
    | none => CfsState.takeFrom f (j + 1) k

/-- A cell returned to its quad free list (R145, R158). -/
def CfsState.putCell (f : CfsState) (c : Nat) : CfsState :=
  { f with free := setNth f.free (c % 4) (runsPut (f.quad (c % 4)) c) }

/-- Queue `q`. -/
def State.q (s : State) (q : Nat) : QueueState := Map.get {} s.cfs.queues q

/-- Queue `q` replaced. -/
def State.setQ (s : State) (q : Nat) (x : QueueState) : State :=
  { s with cfs := { s.cfs with queues := Map.set {} s.cfs.queues q x } }

/-- Queue `q` changed by `f`. -/
def State.modQ (s : State) (q : Nat) (f : QueueState → QueueState) : State := s.setQ q (f (s.q q))

/-- Cells an item of `len` bytes occupies. -/
def cellsOf (len : Nat) : Nat := (len + 255) / 256

/-- OCC of R141: the cells of the accepted items not released, those still to be taken included, the marker cell apart. -/
def QueueState.occ (x : QueueState) : Nat :=
  ((x.items.filter (fun i => i.kind = .data)).map (fun i => cellsOf i.len)).sum

/-- Cells charged to accepted items of the queue and not yet taken (R142, R143). -/
def QueueState.charged (x : QueueState) : Nat :=
  ((x.items.filter (fun i => i.kind = .data)).map (fun i => cellsOf i.len - i.cells.length)).sum

/-- DEPTH of R141. -/
def QueueState.depth (x : QueueState) : Nat := (x.items.filter (·.committed)).length

/-- UDEPTH of R141. -/
def QueueState.udepth (x : QueueState) : Nat := (x.items.filter (fun i => i.committed && !i.claimed)).length

/-- A marker is in the queue or being read. -/
def QueueState.markerBusy (x : QueueState) : Bool := x.items.any (fun i => i.kind != .data)

/-- The outstanding reserve of R142. -/
def CfsState.outstanding (f : CfsState) : Nat :=
  (f.queues.map (fun p => if p.2.en then p.2.reserve - p.2.occ else 0)).sum

/-- AVAIL of R142: FREE minus the cells charged and not yet taken. -/
def CfsState.avail (f : CfsState) : Int := (f.freeCells : Int) - (f.queues.map (fun p => p.2.charged)).sum

/-- UNRES of R142; it may be negative. -/
def CfsState.unres (f : CfsState) : Int := f.avail - f.outstanding

/-! ### Pointer entries (R139) -/

/-- The entries of a list of cells: `f` gives each cell's but for NEXT, and the last cell's NEXT is `after`. -/
def linkEntries (f : Nat → PtrEntry) (after : Option Nat) : List Nat → List (Nat × PtrEntry)
  | [] => []
  | [c] => [(c, { f c with next := after })]
  | c :: d :: rest => (c, { f c with next := some d }) :: linkEntries f after (d :: rest)

/-- The pointer entries of an item's cells; the first cell holds LEN, SOI and KIND, the last cell of a written item EOI. -/
def CfsItem.entries (i : CfsItem) (after : Option Nat) : List (Nat × PtrEntry) :=
  let last := i.cells.getLast?
  linkEntries (fun c => { len := if i.cells.head? = some c then i.len else 0, soi := i.cells.head? == some c,
                          eoi := i.rest.isEmpty && !i.part && last == some c, kind := i.kind }) after i.cells

/-- The pointer entries of a queue's cells, each item's last cell linked to the next item's first (R139). -/
def queueEntries : List CfsItem → List (Nat × PtrEntry)
  | [] => []
  | i :: rest => i.entries ((rest.flatMap (·.cells)).head?) ++ queueEntries rest

/-- The cells of a free list, head first. -/
def runsCells (r : Runs) : List Nat := r.flatMap (fun p => (upto p.2).map (fun i => p.1 + 4 * i))

/-- The entry that both pointer RAMs hold for cell `c` on a queue list, a free list or a running flush walk (R139); the two copies
differ only where a command's operand says so. -/
def CfsState.entry (f : CfsState) (c : Nat) : Option PtrEntry :=
  ((f.queues.flatMap (fun p => queueEntries p.2.items) ++ (f.free.flatMap (fun r => linkEntries (fun _ => {}) none (runsCells r)))
    ++ f.walks.flatMap (linkEntries (fun _ => {}) none)).find? (fun p => p.1 == c)).map (·.2)

/-- CFS.CYCLE (R174). -/
def State.cfsCycle (s : State) : Nat := (s.now - s.cfs.cycleBase) % 2 ^ 32

/-- An event of the store, counted and shown in CFS.EVT. -/
def State.cfsEvent (s : State) (cnt bit : Nat) : State := (s.inc cnt).setBit CFS.EVT bit

/-- The bytes of a cell, 256 of them, written from the head of `bs` over the cells `cells`. -/
def cfsWriteCells (m : Memory) (cells : List Nat) (bs : List Byte) : Memory :=
  match cells with
  | [] => m
  | c :: rest => cfsWriteCells (Memory.write m (256 * c) (bs.take 256)) rest (bs.drop 256)

/-- `len` bytes read over the cells `cells`. -/
def cfsReadCells (m : Memory) (cells : List Nat) (len : Nat) : List Byte :=
  match cells with
  | [] => []
  | c :: rest => Memory.read m (256 * c) (min 256 len) ++ cfsReadCells m rest (len - 256)

/-! ### Upsets (R139, R140, R163, R164) -/

/-- One of `us` has struck the store. -/
def State.meets (s : State) (us : List Config.StoreUpset) : Bool := us.any (fun u => s.cfs.upsets.contains u)

/-- What `us` names has been written again, and its copies agree. -/
def State.mend (s : State) (us : List Config.StoreUpset) : State :=
  { s with cfs := { s.cfs with upsets := s.cfs.upsets.filter (fun u => !us.contains u) } }

/-- The errors that a read meets by what has struck the words (cell and word) that `p` names (R163, R164). -/
def State.struck (s : State) (p : Nat → Nat → Bool) : ReadErrs :=
  { ce := s.cfs.upsets.filterMap (fun u => match u with
      | .single c w => if p c w then some c else none
      | _ => none),
    ue := s.cfs.upsets.filterMap (fun u => match u with
      | .double c w v => if p c w then some (c, w, v) else none
      | _ => none) }

/-- New data and check bits in the words (cell and word) that `p` names (R163). -/
def State.rewritten (s : State) (p : Nat → Nat → Bool) : State :=
  { s with cfs := { s.cfs with upsets := s.cfs.upsets.filter (fun u => match u with
      | .single c w => !p c w
      | .double c w _ => !p c w
      | _ => true) } }

/-! ### Markers (R149-R152) -/

/-- KIND of word 0 of a marker item (R152). -/
def ItemKind.code : ItemKind → Nat
  | .data => 0
  | .gap => 1
  | .flush => 2
  | .reset => 3

/-- Eight bytes as stored in a head field: a missing byte reads 0. -/
def headBytes (bs : List Byte) : List Byte := (bs ++ List.replicate 8 0).take 8

/-- The 40 bytes of a marker item of queue `q` (R152). -/
def Marker.bytes (m : Marker) (q : Nat) : List Byte :=
  leBytes 8 (m.kind.code + 256 * b2n m.deferred + 512 * b2n m.cutItem + 1024 * b2n m.sat + 2048 * b2n m.domain
      + 4096 * b2n m.pool + 65536 * m.drops + 2 ^ 32 * q)
    ++ leBytes 4 m.firstCycle ++ leBytes 4 m.lastCycle ++ headBytes m.firstHead ++ headBytes m.lastHead
    ++ leBytes 4 m.cells ++ leBytes 2 m.items ++ leBytes 2 0

/-- Queue `q` with its marker's content `m` stored in its marker cell, whose other bytes read 0 (R152). -/
def State.storeMarker (s : State) (q : Nat) (m : Marker) : State :=
  let s := s.modQ q (fun x => { x with mark := m })
  ({ s with cfs := { s.cfs with
      mem := Memory.write s.cfs.mem (256 * (s.q q).marker) (m.bytes q ++ List.replicate 216 0) } } : State).rewritten
    (fun c _ => c == (s.q q).marker)

/-- A marker written at the tail of queue `q`; it commits by ITEM_COMMIT in the next cycle. -/
def State.writeMarker (s : State) (q : Nat) (m : Marker) : State :=
  let s := s.modQ q (fun x => { x with
    items := x.items ++ [{ kind := m.kind, len := 40, cells := [x.marker] }] })
  s.storeMarker q m

/-- A further drop recorded in a marker at the tail (R149 case 1, R151). In a flush or reset marker that carries no drop yet it is the
first, and its cycle replaces that of the flush in FIRST_CYCLE. DEDUCED (log entry 194). -/
def Marker.addDrop (m : Marker) (head : List Byte) (cycle : Nat) (pool : Bool) : Marker :=
  { m with drops := min 0xFFFF (m.drops + 1), sat := m.sat || m.drops == 0xFFFF, pool := m.pool || (pool && m.drops != 0xFFFF),
           firstHead := if m.drops = 0 then headBytes head else m.firstHead,
           firstCycle := if m.drops = 0 then cycle else m.firstCycle,
           lastHead := headBytes head, lastCycle := cycle }

/-- The tail item of a queue is its marker, not claimed. -/
def QueueState.tailIsMarker (x : QueueState) : Bool :=
  match x.items.getLast? with
  | none => false
  | some i => i.kind != .data && !i.claimed

/-- A deviation of sequencer `i` (R360): its counter, SCHED.EVT.DEV, and SCHED.LAST_DEV with the present slot. -/
def State.dev (s : State) (i : Nat) : State :=
  ((s.inc (SCHED.DEV_CNT i)).setBit SCHED.EVT 5).wr SCHED.LAST_DEV (i * 2 ^ 26 + s.sched.slot % 2 ^ 22)

/-- A drop at queue `q` of an item that begins with `bytes` (R149). -/
def State.dropItem (s : State) (q : Nat) (bytes : List Byte) (pool : Bool) : State :=
  let cyc := s.cfsCycle
  let x := s.q q
  let s := ((s.inc (CFS.Q_DROP_CNT q)).cfsEvent CFS.DROP_CNT 0).when x.sched (·.dev 34)
  if x.tailIsMarker then s.storeMarker q (x.mark.addDrop bytes cyc pool)
  else if !x.markerBusy && x.pend == 0 then
    s.writeMarker q (Marker.addDrop { kind := .gap } bytes cyc pool)
  else
    (s.modQ q (fun x => { x with
      pend := min 0xFFFF (x.pend + 1), pendSat := x.pendSat || x.pend == 0xFFFF,
      pendPool := x.pendPool || (pool && x.pend != 0xFFFF),
      pendFirstHead := if x.pend = 0 then headBytes bytes else x.pendFirstHead,
      pendFirstCycle := if x.pend = 0 then cyc else x.pendFirstCycle,
      pendLastHead := headBytes bytes, pendLastCycle := cyc })).inc CFS.DEFER_CNT

/-- The marker cell is free and drops are pending: a deferred gap marker at the tail (R150). -/
def State.writeDeferred (s : State) (q : Nat) : State :=
  let x := s.q q
  if x.en && !x.markerBusy && x.pend != 0 then
    let s := s.writeMarker q
      { kind := .gap, deferred := true, sat := x.pendSat, pool := x.pendPool, drops := x.pend,
        firstHead := x.pendFirstHead, firstCycle := x.pendFirstCycle,
        lastHead := x.pendLastHead, lastCycle := x.pendLastCycle }
    s.modQ q (fun x => { x with pend := 0, pendSat := false, pendPool := false })
  else s

/-! ### Watermark (R169) -/

/-- The watermark of queue `q` after its OCC went from `old` to its present value (R168, R169): LO is not used while HI is 0. -/
def State.watermark (s : State) (q old : Nat) : State :=
  let x := s.q q
  let hi := s.getF (CFS.Q_WM_HI q) 0 18
  let lo := s.getF (CFS.Q_WM_LO q) 0 18
  let occ := x.occ
  if hi != 0 && x.armed && decide (old < hi) && decide (hi ≤ occ) then
    (s.modQ q (fun x => { x with hwm := true, xcnt := min 255 (x.xcnt + 1), armed := false })).setBit CFS.EVT 1
  else if hi != 0 && decide (occ ≤ lo) && decide (occ < old) then s.modQ q (fun x => { x with armed := true })
  else s

/-! ### Reading with errors (R163, R164) -/

/-- The corrected errors of a read: each counted, its cell queued for the scrubber's write-back (R163). -/
def State.corrected (s : State) (cells : List Nat) : State :=
  cells.foldl (fun s c =>
    let s := s.cfsEvent CFS.ECC_CE_CNT 4
    if s.cfs.scrubPend.contains c then s else { s with cfs := { s.cfs with scrubPend := s.cfs.scrubPend ++ [c] } }) s

/-- The uncorrectable words of a read, each a cell, a word index and the value as read (R164). -/
def State.uncorrectable (s : State) (ws : List (Nat × Nat × Nat)) : State :=
  ws.foldl (fun s w =>
    let s := (s.cfsEvent CFS.ECC_UE_CNT 5).wr CFS.ECC_LOG (2 ^ 31 + w.2.1 % 32 * 2 ^ 18 + w.1 % 2 ^ 18)
    { s with cfs := { s.cfs with mem := Memory.write s.cfs.mem (256 * w.1 + 8 * (w.2.1 % 32)) (leBytes 8 w.2.2) } }) s

/-- The read of the cells `cells` meets the errors `e` that lie in them (R163, R164). -/
def State.readErrs (s : State) (e : ReadErrs) (cells : List Nat) : State :=
  (s.corrected (e.ce.filter (fun c => cells.contains c))).uncorrectable (e.ue.filter (fun w => cells.contains w.1))

/-- The cells among `cells` that a read meets with UE status (R164). -/
def badCells (e : ReadErrs) (cells : List Nat) : Nat := (cells.filter (fun c => e.ue.any (fun w => w.1 == c))).length

/-! ### Flush and reset of a queue (R157-R160) -/

/-- The items read from queue `q` and not yet handled. -/
def State.delivered (s : State) (q : Nat) : List Delivered := Map.get [] s.cfs.delivered q

/-- The delivered items of queue `q` replaced. -/
def State.setDelivered (s : State) (q : Nat) (d : List Delivered) : State :=
  { s with cfs := { s.cfs with delivered := Map.set [] s.cfs.delivered q d } }

/-- Queue `q` flushed, with a marker of kind `kind` (R157, R159) or reset after a pointer error (R160). Without a recorded drop
LAST_CYCLE is the cycle of the flush, and CELLS is OCC, cells charged and not yet written included. DEDUCED (log entries 195 and 196). -/
def State.flushQueue (s : State) (q : Nat) (kind : ItemKind) (domain : Bool) : State :=
  let x := s.q q
  let cyc := s.cfsCycle
  let datas := x.items.filter (fun i => i.kind = .data)
  let cells := datas.flatMap (·.cells)
  let held := if x.items.any (fun i => i.kind != .data && !i.claimed) then x.mark else {}
  let drops := held.drops + x.pend
  let m : Marker :=
    { kind := kind, domain := domain,
      cutItem := x.items.any (fun i => (i.kind == .data && !i.committed && (!i.rest.isEmpty || i.part)) || i.claimed),
      sat := held.sat || x.pendSat || decide (0xFFFF < drops), pool := held.pool || x.pendPool,
      drops := min 0xFFFF drops,
      firstHead := if held.drops != 0 then held.firstHead else if x.pend != 0 then x.pendFirstHead else [],
      firstCycle := if held.drops != 0 then held.firstCycle else if x.pend != 0 then x.pendFirstCycle else cyc,
      lastHead := if x.pend != 0 then x.pendLastHead else if held.drops != 0 then held.lastHead else [],
      lastCycle := if x.pend != 0 then x.pendLastCycle else if held.drops != 0 then held.lastCycle else cyc,
      cells := x.occ, items := min 0xFFFF datas.length }
  let cut := (x.items.filter (·.claimed)).map
    (fun i => ({ kind := i.kind, bytes := cfsReadCells s.cfs.mem i.cells i.len, ue := i.ue, cut := true, owner := i.owner, cells := i.cells } : Delivered))
  let s := s.setDelivered q (s.delivered q ++ cut)
  let s := s.modQ q (fun x => { x with items := [], pend := 0, pendSat := false, pendPool := false })
  let s := if kind = .reset then { s with cfs := { s.cfs with orphansNew := s.cfs.orphansNew ++ cells } }
    else if cells.isEmpty then s else { s with cfs := { s.cfs with walks := s.cfs.walks ++ [cells] } }
  (s.writeMarker q m).watermark q x.occ

/-- A pointer error on the list of queue `q` (R160): its head, tail and marker index are written anew. -/
def State.queueReset (s : State) (q : Nat) : State :=
  (((s.cfsEvent CFS.PTR_ERR_CNT 2).dev 34).mend [.head q, .tail q, .marker q]).flushQueue q .reset false

/-- A use of the head, the tail or the marker index of queue `q`: copies that differ reset the queue (R140, R160). -/
def State.useList (s : State) (q : Nat) (us : List Config.StoreUpset) : State := s.when (s.meets us) (·.queueReset q)

/-! ### Push and commit (R141-R146, R149) -/

/-- A refused operation (R146). -/
def State.opErr (s : State) : State := s.cfsEvent CFS.OP_ERR_CNT 6

/-- The push is allowed under R146: READY, enabled, from the producer port, of 1 to 65,535 bytes. -/
def State.pushAllowed (s : State) (q port len : Nat) : Bool :=
  s.cfs.ready && (s.q q).en && (s.q q).prod == port && decide (0 < len) && decide (len < 65536)

/-- The quota test of R143. -/
def State.quotaOk (s : State) (q n : Nat) : Bool := decide ((s.q q).occ + n ≤ (s.q q).quota)

/-- The pool test of R143. -/
def State.poolOk (s : State) (q n : Nat) : Bool :=
  decide (((n - ((s.q q).reserve - (s.q q).occ) : Nat) : Int) ≤ s.cfs.unres)

/-- A port writes cells: a write-back that waits for one of them is abandoned (R165), and their words have new check bits. -/
def State.dropScrub (s : State) (cells : List Nat) : State :=
  ({ s with cfs := { s.cfs with scrubPend := s.cfs.scrubPend.filter (fun c => !cells.contains c) } } : State).rewritten (fun c _ => cells.contains c)

/-- A pointer error on free list `j`: the list is cut after its first `keep` cells (R160). -/
def State.cutFreeList (s : State) (j keep : Nat) : State :=
  let s := (s.cfsEvent CFS.PTR_ERR_CNT 2).dev 34
  let (r, lost) := runsCut (s.cfs.quad (j % 4)) keep
  { s with cfs := { s.cfs with free := setNth s.cfs.free (j % 4) r, orphansNew := s.cfs.orphansNew ++ lost } }

/-- One cell for a push on `port`, in its rotation (R144), which goes on behind the quad taken, be it outside the rotation. DEDUCED (log
entry 193). An entry that has been struck is met here like one that `errs` names: `errs` names free lists of which an entry differs in the two pointer
RAMs, each with the cells that the allocator still takes from it before that one: the list is cut there and the allocation
proceeds in the next quad (R160). The answer is the cell and the errors not met. -/
def State.takeCell (s : State) (port : Nat) (errs : List (Nat × Nat)) : Nat → Option (Nat × List (Nat × Nat) × State)
  | 0 => none
  | fuel + 1 =>
    match s.cfs.takeFrom (Map.get 0 s.cfs.rot port) 4 with
    | none => none
    | some (c, j, skew, f) =>
      if errs.contains (j, 0) || s.meets [.entry c] then
        ((s.cutFreeList j 0).mend [.entry c]).takeCell port (errs.filter (fun e => e.1 != j)) fuel
      else
        let s : State := { s with cfs := { f with rot := Map.set 0 f.rot port ((j + 1) % 4), marks := f.marks ++ [c] } }
        some (c, errs.map (fun e => if e.1 = j then (j, e.2 - 1) else e), s.when skew (fun s => (s.cfsEvent CFS.QUAD_SKEW_CNT 7).dev 34))

/-- The first item of a list of which bytes wait for a cell, changed by `f`. -/
def modUnwritten (f : CfsItem → CfsItem) : List CfsItem → List CfsItem
  | [] => []
  | i :: rest => if i.kind = .data ∧ !i.committed ∧ (!i.rest.isEmpty || i.part) then f i :: rest else i :: modUnwritten f rest

/-- Cell writes to the tail item of queue `q` (R143): at most `n` cells, each taken from a free list and linked as it is written; of
an item still being presented whole cells alone. -/
def State.writeCells (s : State) (q port : Nat) (errs : List (Nat × Nat)) : Nat → State
  | 0 => s
  | n + 1 =>
    match (s.q q).items.find? (fun i => decide (i.kind = .data) && !i.committed && (!i.rest.isEmpty || i.part)) with
    | none => s
    | some i =>
      if i.rest.isEmpty || (i.part && decide (i.rest.length < 256)) then s
      else
        match s.takeCell port errs 5 with
        | none => s
        | some (c, errs, s) =>
          let s := s.modQ q (fun x => { x with items := modUnwritten (fun i => { i with cells := i.cells ++ [c], rest := i.rest.drop 256 }) x.items })
          ({ s with cfs := { s.cfs with mem := Memory.write s.cfs.mem (256 * c) (i.rest.take 256) } } : State).dropScrub [c]
            |>.writeCells q port errs n

/-- The quota test of a push of `n` cells, which nets `rel` cells released in the same cycle (R143, R156). -/
def State.quotaNet (s : State) (q n rel : Nat) : Bool := decide ((s.q q).occ + n ≤ (s.q q).quota + rel)

/-- A push that R146 allows uses the tail of queue `q`, and its marker index where the item does not fit: copies that differ, struck or
named by `err`, reset the queue first, and the push then meets the reset queue (R140, R159, R160). -/
def State.pushUse (s : State) (q port len rel : Nat) (err : Bool) : State :=
  let us := .tail q :: if s.quotaNet q (cellsOf len) rel && s.poolOk q (cellsOf len) then [] else [.marker q]
  s.when (s.pushAllowed q port len && (err || s.meets us)) (·.queueReset q)

/-- A push to queue `q` from `port` of an item of `len` bytes, of which `bytes` are presented now (R143): refused, accepted with its
first cell written, or dropped at full. `rel` is the cells that a read of the queue releases in the same cycle, which the quota
test nets (R156). Of an item before it, all cells are written first. The watermark follows the whole cycle, and its callers set it. -/
def State.pushItem (s : State) (q port len rel : Nat) (bytes : List Byte) (errs : List (Nat × Nat)) : State :=
  if !s.pushAllowed q port len then s.opErr
  else if s.quotaNet q (cellsOf len) rel && s.poolOk q (cellsOf len) then
    let older := (s.q q).charged
    (s.modQ q (fun x => { x with items := x.items ++ [{ len := len, rest := bytes, part := decide (bytes.length < len) }] })).writeCells
      q port errs (older + 1)
  else s.dropItem q bytes (s.quotaNet q (cellsOf len) rel)

/-- A push of an item of `len` bytes that begins with `bytes` to queue `q` from `port`, in a cycle without other events (R143, R169). -/
def State.pushPart (s : State) (q port len : Nat) (bytes : List Byte) : State :=
  let s := s.pushUse q port len 0 false
  (s.pushItem q port len 0 bytes []).watermark q (s.q q).occ

/-- A push of the whole item `bytes` to queue `q` from `port` (R143). -/
def State.push (s : State) (q port : Nat) (bytes : List Byte) : State := s.pushPart q port bytes.length bytes

/-- Further bytes of the item that queue `q`'s producer is still presenting, `bs`, fill its cells; an item dropped or flushed absorbs
them (R149, R159). -/
def State.pushMore (s : State) (q : Nat) (bs : List Byte) : State :=
  (s.modQ q (fun x => { x with items := x.items.map (fun i =>
    if i.part then { i with rest := i.rest ++ bs, part := decide (256 * i.cells.length + i.rest.length + bs.length < i.len) } else i) })).writeCells
      q (s.q q).prod [] 256

/-- The producer of queue `q` ends before it has presented its whole item: the rest is zeros, as an accepted item always completes
(R143). DESIGN CHOICE (log entry 151). -/
def State.pushEnd (s : State) (q : Nat) : State :=
  s.modQ q (fun x => { x with items := x.items.map (fun i =>
    if i.part then { i with rest := i.rest ++ List.replicate (i.len - (256 * i.cells.length + i.rest.length)) 0, part := false } else i) })

/-- The first item that can commit, all its bytes presented, becomes committed (R141). -/
def commitFirst : List CfsItem → List CfsItem
  | [] => []
  | i :: rest => if i.committed || i.part then i :: commitFirst rest else { i with committed := true } :: rest

/-- The oldest item or marker of queue `q` that is written and not committed commits, once the last of its cells is written (R141): it
is linked at the tail, of which differing copies reset the queue instead (R160). -/
def State.commitItem (s : State) (q : Nat) (errs : List (Nat × Nat)) : State :=
  if s.meets [.tail q] && (s.q q).items.any (fun i => !i.committed) then s.queueReset q
  else (s.writeCells q (s.q q).prod errs 256).modQ q (fun x => { x with items := commitFirst x.items })

/-! ### Pop, stall, cancel, release (R145, R153-R155) -/

/-- The oldest item that no pop has claimed has committed: a pop claims it (R141). -/
def QueueState.canClaim (x : QueueState) : Bool :=
  match x.items.find? (fun i => !i.claimed) with
  | none => false
  | some i => i.committed

/-- The oldest unclaimed item becomes claimed by `owner`, `ue` of its cells read with UE status. -/
def claimFirst (owner ue : Nat) : List CfsItem → List CfsItem
  | [] => []
  | i :: rest => if i.claimed then i :: claimFirst owner ue rest else { i with claimed := true, owner := owner, ue := ue } :: rest

/-- A pop of queue `q` for `owner` claims its head item, or stalls (R145, R153); differing copies of the head reset the queue (R160). -/
def State.claim (s : State) (q owner ue : Nat) : State :=
  let s := s.useList q [.head q]
  if (s.q q).canClaim then s.modQ q (fun x => { x with items := claimFirst owner ue x.items })
  else s.modQ q (fun x => { x with stall := x.stall + 1 })

/-- The pop is allowed under R146. -/
def State.popAllowed (s : State) (q port : Nat) : Bool := s.cfs.ready && (s.q q).en && (s.q q).cons == port

/-- A pop of queue `q` from `port` for `owner` of the port (R145, R146, R153, R236). -/
def State.popFor (s : State) (q port owner : Nat) : State := if s.popAllowed q port then s.claim q owner 0 else s.opErr

/-- A pop of queue `q` from `port` (R145, R146, R153). -/
def State.pop (s : State) (q port : Nat) : State := s.popFor q port 0

/-- A stalled pop of queue `q` is cancelled (R154); without one the cancel has no effect (R155). -/
def State.cancelPop (s : State) (q : Nat) : State :=
  if (s.q q).stall = 0 then s else (s.modQ q (fun x => { x with stall := x.stall - 1 })).inc CFS.CANCEL_CNT

/-- Cells returned to their quad free lists, each marked for the running audit pass (R158, R161). -/
def State.freeNow (s : State) (cells : List Nat) : State :=
  { s with cfs := cells.foldl CfsState.putCell { s.cfs with marks := s.cfs.marks ++ cells } }

/-- Cells released in this cycle: they are back in their quad free lists, and count in FREE, from the next cycle on (R145, R156). -/
def State.freeAll (s : State) (cells : List Nat) : State := { s with cfs := { s.cfs with back := s.cfs.back ++ cells } }

/-- The next cycle begins: the cells released in the last one go to their free lists (R145). -/
def State.cellsBack (s : State) : State := (({ s with cfs := { s.cfs with back := [] } } : State).freeNow s.cfs.back)

/-- The read of the oldest claimed item of queue `q` that `p` names completes: its bytes reach the consumer and its cells go back
to their free lists (R145); a marker frees the marker cell (R150). An entry that has been struck resets the queue, which cuts the read
(R159, R160); words that have been struck are corrected or read with UE (R163, R164). -/
def State.releaseOf (s : State) (q : Nat) (p : CfsItem → Bool) : State :=
  match (s.q q).items.find? (fun i => i.claimed && p i) with
  | none => s
  | some i =>
    let entries := i.cells.map Config.StoreUpset.entry
    if s.meets entries then (s.mend entries).queueReset q
    else
      let e := s.struck (fun c _ => i.cells.contains c)
      let s := s.readErrs e i.cells
      let d : Delivered := { kind := i.kind, bytes := cfsReadCells s.cfs.mem i.cells i.len, ue := i.ue + badCells e i.cells, owner := i.owner }
      let s := s.setDelivered q (s.delivered q ++ [d])
      let s := s.modQ q (fun x => { x with items := x.items.eraseP (fun i => i.claimed && p i) })
      if i.kind = .data then s.freeAll i.cells else s

/-- The read of the oldest claimed item of queue `q` completes (R145, R169). -/
def State.releaseItem (s : State) (q : Nat) : State := (s.releaseOf q (fun _ => true)).watermark q (s.q q).occ

/-- The next item of queue `q` that `owner` has claimed, its read completed first where it has not been (R145): the item and the
state without it. -/
def State.takeOwned (s : State) (q owner : Nat) : Option (Delivered × State) :=
  let mine := fun (d : Delivered) => d.owner == owner
  let s := if (s.delivered q).any mine then s else (s.releaseOf q (fun i => i.owner == owner)).watermark q (s.q q).occ
  match (s.delivered q).find? mine with
  | none => none
  | some d => some (d, s.setDelivered q ((s.delivered q).eraseP mine))

/-- The next item of queue `q` for its consumer's port. -/
def State.takeItem (s : State) (q : Nat) : Option (Delivered × State) := s.takeOwned q 0

/-- An item of queue `q` for a consumer on `port`: one already read, one claimed, or a new pop, which stalls on an empty
queue (R145, R153). A consumer that pops no more (`more` = false) takes only what it has claimed. -/
def State.popTake (s : State) (q port : Nat) (more : Bool) : Option Delivered × State :=
  match s.takeItem q with
  | some (d, s) => (some d, s)
  | none =>
    if !more || (s.q q).stall != 0 then (none, s)
    else
      let s := s.pop q port
      match s.takeItem q with
      | some (d, s) => (some d, s)
      | none => (none, s)

/-- A consumer that has nothing outstanding on queue `q` issues a pop (R145, R153). -/
def State.startPop (s : State) (q port : Nat) : State :=
  if !(s.delivered q).isEmpty || (s.q q).items.any (·.claimed) || (s.q q).stall != 0 then s else s.pop q port

/-- An item that `owner` has claimed from queue `q` is read, discarded and released (R197, R238). -/
def State.discardOwned (s : State) (q owner : Nat) : State :=
  match s.takeOwned q owner with
  | some (_, s) => s
  | none => s

/-! ### Flush and reset (R157-R160) -/

/-- A flush of queue `q` by Q_FLUSH or by a domain reset (R157); no effect where EN is 0. Where the copies of the head or of the marker
index that it uses differ, the queue is reset in place of the flush (R160). DESIGN CHOICE (log entry 192). -/
def State.flush (s : State) (q : Nat) (domain : Bool) : State :=
  if (s.q q).en then (if s.meets [.head q, .marker q] then s.queueReset q else s.flushQueue q .flush domain).inc CFS.FLUSH_CNT else s

/-- A pointer error during the oldest flush walk, after `done` more cells: the rest become orphans (R160). -/
def State.walkStop (s : State) (done : Nat) : State :=
  match s.cfs.walks with
  | [] => s
  | w :: rest =>
    let s := (s.cfsEvent CFS.PTR_ERR_CNT 2).dev 34
    ({ s with cfs := { s.cfs with walks := rest, orphansNew := s.cfs.orphansNew ++ w.drop done } } : State).freeNow (w.take done)

/-- One core cycle of the oldest flush walk: it returns one cell (R158), or stops at an entry that has been struck (R160). The walk
ends by FLUSH_WALK_DONE. -/
def State.walkCycle (s : State) : State :=
  match s.cfs.walks with
  | (c :: w) :: rest =>
    if s.meets [.entry c] then (s.mend [.entry c]).walkStop 0
    else ({ s with cfs := { s.cfs with walks := w :: rest } } : State).freeNow [c]
  | _ => s

/-- The oldest flush walk ends: the cells that it has not yet returned have been (R158), those from an entry on that has been struck
apart (R160). -/
def State.walkDone (s : State) : State :=
  match s.cfs.walks with
  | [] => s
  | w :: rest =>
    let entries := w.map Config.StoreUpset.entry
    if s.meets entries then (s.walkStop (w.takeWhile (fun c => !s.meets [.entry c])).length).mend entries
    else ({ s with cfs := { s.cfs with walks := rest } } : State).freeNow w

/-- An audit pass begins when AUDIT_EN goes from 0 to 1, its bitmap clear: every orphan there is lies outside what it will mark (R161). -/
def State.auditBegin (s : State) : State :=
  { s with cfs := { s.cfs with orphans := s.cfs.orphans ++ s.cfs.orphansNew, orphansNew := [], marks := [] } }

/-- The oldest unclaimed item of queue `q`, which must have committed, is claimed for `owner` and read, with the errors `e` (R145,
R163, R164). -/
def State.claimRead (s : State) (q owner : Nat) (e : ReadErrs) : State :=
  let cells := match (s.q q).items.find? (fun i => !i.claimed) with
    | none => []
    | some i => if i.committed then i.cells else []
  (s.readErrs e cells).claim q owner (badCells e cells)

/-- The read of the oldest item that `owner` has claimed from queue `q` meets the errors `e`: a pointer error resets the queue, which
cuts the read (R159, R160, R163, R164). -/
def State.readOn (s : State) (q owner : Nat) (e : ReadErrs) : State :=
  let mine := fun (i : CfsItem) => i.claimed && i.owner == owner
  match (s.q q).items.find? mine with
  | none => s
  | some i =>
    if e.ptr then s.queueReset q
    else (s.readErrs e i.cells).modQ q (fun x => { x with
      items := x.items.takeWhile (fun i => !mine i) ++ ((x.items.dropWhile (fun i => !mine i)).take 1).map (fun j => { j with ue := j.ue + badCells e i.cells })
        ++ (x.items.dropWhile (fun i => !mine i)).drop 1 })

/-- The read of an item that a flush or reset cut after `got` bytes met those of the errors `e` that lie in the cells read by then (R163,
R164): the state, and how many of these cells were read with UE status. -/
def State.cutErrs (s : State) (d : Delivered) (got : Nat) (e : ReadErrs) : State × Nat :=
  let cells := if d.cut then d.cells.take ((got + 255) / 256) else []
  (s.readErrs e cells, d.ue + badCells e cells)

/-! ### Configuration, reset and initialisation (R147, R166, R167) -/

/-- The cells of one run that lie outside the range of `n` cells from `lo` on. -/
def runMinus (lo n : Nat) (r : Nat × Nat) : Runs :=
  let a := min r.2 ((lo + 3 - r.1) / 4)
  let b := max a (min r.2 ((lo + n + 3 - r.1) / 4))
  (if a = 0 then [] else [(r.1, a)]) ++ (if b = r.2 then [] else [(r.1 + 4 * b, r.2 - b)])

/-- The free list of quad `j` with the retired cells left out (R166, R171): macro m of a bank of the quad holds rows 4,096 m to
4,096 m + 4,095. -/
def initRuns (retired ptr : List (Nat × Nat)) (j : Nat) : Runs :=
  ptr.foldl (fun r p => r.flatMap (runMinus p.1 p.2))
    ((upto 12).filterMap (fun m => if retired.any (fun x => x.1 / 4 == j && x.2 == m) then none else some (j + 16384 * m, 4096)))

/-- The cells that the free lists leave out (R171). -/
def CfsState.retiredCells (f : CfsState) : Nat := 196608 - ((upto 4).map (fun j => runsCount (initRuns f.retired f.retiredPtr j))).sum

/-- A marker cell for a newly enabled queue, from the first quad that has a free cell: DESIGN CHOICE (log entry 8). A list whose head
entry has been struck is cut (R160), at most one for each quad. -/
def State.takeMarkerCell (s : State) : Nat → State × Nat
  | 0 => (s, 0)
  | fuel + 1 =>
    match s.cfs.takeFrom 0 4 with
    | none => (s, 0)
    | some (c, j, _, f) =>
      if s.meets [.entry c] then ((s.cutFreeList j 0).mend [.entry c]).takeMarkerCell fuel else ({ s with cfs := f }, c)

/-- Queue `q` disabled: emptied without a marker, its cells and its marker cell back to the pool (R147). HWM and XCNT stay
(R169). -/
def State.disableQueue (s : State) (q : Nat) : State :=
  let x := s.q q
  if x.en then
    let cells := ((x.items.filter (fun i => i.kind = .data)).flatMap (·.cells)) ++ [x.marker]
    ((s.freeAll cells).setQ q { hwm := x.hwm, xcnt := x.xcnt }).setDelivered q []
  else s

/-- Queue `c.queue` enabled, re-configured or disabled as the table set says; its configuration is the set's (R147, R174). -/
def State.configQueue (s : State) (c : QueueCfg) : State :=
  let s := if !c.en then s.disableQueue c.queue
    else if (s.q c.queue).en then s
    else
      let (s, cell) := s.takeMarkerCell 5
      s.modQ c.queue (fun x => { hwm := x.hwm, xcnt := x.xcnt, en := true, marker := cell, armed := true })
  s.modQ c.queue (fun x => { x with sched := c.sched, prod := c.prod, cons := c.cons, reserve := c.reserve, quota := c.quota })

/-- The queues set to a table set's descriptors: a queue without one is disabled (R147, R354). -/
def State.configQueues (s : State) (cs : List QueueCfg) : State :=
  let s := (s.cfs.queues.map (·.1)).foldl
    (fun s q => if cs.any (fun c => c.queue == q) then s else s.disableQueue q) s
  cs.foldl State.configQueue s

/-- HI and LO of queue `q` after a write: LO below a non-zero HI (R168). -/
def State.fixWatermark (s : State) (q : Nat) : State :=
  let hi := s.getF (CFS.Q_WM_HI q) 0 18
  let lo := s.getF (CFS.Q_WM_LO q) 0 18
  if hi != 0 && decide (hi ≤ lo) then s.wr (CFS.Q_WM_LO q) (hi - 1) else s

/-- The watermarks the image gives, written with the first set in force of a wake, the image setting them at boot (R168); the queues
of later sets keep theirs. DEDUCED (log entry 197). -/
def State.loadWatermarks (s : State) (cs : List QueueCfg) : State :=
  cs.foldl (fun s c => ((s.wr (CFS.Q_WM_LO c.queue) c.lo).wr (CFS.Q_WM_HI c.queue) c.hi).fixWatermark c.queue) s

/-- The free lists are built and READY is set; the queues of the set in force come back with a reset marker (R166,
R167). -/
def State.storeInit (s : State) (cs : List QueueCfg) : State :=
  let s := { s with cfs := { s.cfs with free := (upto 4).map (initRuns s.cfs.retired s.cfs.retiredPtr), ready := true,
                                        walks := [], orphans := [], orphansNew := [], marks := [], back := [], upsets := [] } }
  let s := s.configQueues cs
  cs.foldl (fun s c => if c.en then
      s.writeMarker c.queue { kind := .reset, domain := true, firstCycle := s.cfsCycle, lastCycle := s.cfsCycle }
    else s) s

/-- The store comes out of reset: CFS.CYCLE counts from here (R174). -/
def State.storeOut (s : State) : State := { s with cfs := { s.cfs with cycleBase := s.now } }

/-- The store reset: all content lost, READY 0, the queues as they come out of reset (R166, R167); XCNT is a counter and stays
(R510). -/
def State.storeReset (s : State) : State :=
  let counts := s.cfs.queues.filterMap (fun p => if p.2.xcnt = 0 then none else some (p.1, ({ xcnt := p.2.xcnt } : QueueState)))
  ({ s with cfs := { retired := s.cfs.retired, retiredPtr := s.cfs.retiredPtr, queues := counts } } : State).storeOut

/-! ### Watermark and aperture registers (R168, R172, R173) -/

/-- A write of Q_WM_HI (`high`) or Q_WM_LO of queue `q` (R168). -/
def State.writeWatermark (s : State) (q : Nat) (high : Bool) (v : Nat) : State :=
  (s.wr (if high then CFS.Q_WM_HI q else CFS.Q_WM_LO q) (v % 2 ^ 18)).fixWatermark q

/-- A read of the word at byte offset `o` of the aperture meets what has struck it (R163, R164). -/
def State.apertureMeets (s : State) (o : Nat) : State :=
  s.readErrs (s.struck (fun c w => c == o / 256 && w == o % 256 / 8)) [o / 256]

/-- The word at byte offset `o` of the aperture (R172, R173). -/
def State.apertureRead (s : State) (o : Nat) : Nat := Memory.readWord s.cfs.mem (o / 4 * 4)

/-- A write of the aperture at byte offset `o` (R173): performed in BOOT and MAINTENANCE. -/
def State.apertureWrite (s : State) (o v : Nat) : State :=
  if s.mode == 2 || s.mode == 6 then
    let pend := s.cfs.scrubPend.filter (fun c => c != o / 256)
    ({ s with cfs := { s.cfs with mem := Memory.writeWord s.cfs.mem (o / 4 * 4) v, scrubPend := pend } } : State).rewritten
      (fun c w => c == o / 256 && w == o % 256 / 8)
  else s.cfsEvent CFS.APERTURE_REF_CNT 8

/-- A write of Q_CNT_CLR (R170). -/
def State.queueCntClear (s : State) (v : Nat) : State :=
  let q := fld v 0 10
  let s := if bitOf v 16 then s.wr (CFS.Q_DROP_CNT q) 0 else s
  if bitOf v 17 then s.modQ q (fun x => { x with xcnt := 0 }) else s

end Sys2Proof.Machine
end

