-- ==== Sys2Proof/Machine/FePixel.lean ====
section
/-! DEFINITION. The pixel stages of a front end on one frame (R106-R120): linearisation, exposure merge, black level,
defect-pixel correction, lens shading, local tone compression, crop and statistics. Parameters are the active registers
of the front end (R124). -/

namespace Sys2Proof.Machine

/-- 2^24 - 1, the largest linear value (R106). -/
def max24 : Nat := 0xFFFFFF

/-- Index `i` mirrored about the edge elements 0 and n - 1 (R113, R217). -/
def mirror (i : Int) (n : Nat) : Nat :=
  if i < 0 then (-i).toNat else if ((n : Int) - 1) < i then (2 * ((n : Int) - 1) - i).toNat else i.toNat

/-! ### Input bits and samples (R53, R89, R101) -/

/-- Bits per pixel of a video line format (R52). -/
def fmtBits (fmt : Nat) : Nat := nth 24 [8, 10, 12, 14, 16, 20, 24] fmt

/-- Input bits per sample of front end `n` (R52, R89). -/
def State.feBits (s : State) (n : Nat) : Nat :=
  if n < 16 then fmtBits (s.getF (FE.SRC n) 16 4) else max 7 (s.getF (FE.PP_CFG n) 4 4) + 1

/-- The samples of a packed line of `b`-bit pixels, most significant bit first (R53): floor(8 · bytes / b) of them. -/
def unpackLine (b : Nat) (bs : List Byte) : List Nat :=
  let v := be bs
  let total := 8 * bs.length
  (upto (total / b)).map (fun i => v / 2 ^ (total - (i + 1) * b) % 2 ^ b)

/-! ### Linearisation (R108) -/

/-- The knees in use: (X, Y, S), those from the first X that does not increase left out (R108). -/
def kneesFrom (prev : Option Nat) : List (Nat × Nat × Nat) → List (Nat × Nat × Nat)
  | [] => []
  | k :: rest =>
    match prev with
    | some p => if k.1 ≤ p then [] else k :: kneesFrom (some k.1) rest
    | none => k :: kneesFrom (some k.1) rest

/-- The knee table of front end `n`. -/
def State.feKnees (s : State) (n : Nat) : List (Nat × Nat × Nat) :=
  kneesFrom none ((upto (s.getF (FE.LIN_CFG n) 0 6)).map (fun i =>
    (s.getF (FE.LIN_KNEE n (3 * i)) 0 24, s.getF (FE.LIN_KNEE n (3 * i + 1)) 0 24, s.getF (FE.LIN_KNEE n (3 * i + 2)) 0 24)))

/-- R108 on one input sample. -/
def linearise (knees : List (Nat × Nat × Nat)) (x : Nat) : Nat :=
  match (knees.filter (fun k => k.1 ≤ x)).getLast? with
  | some k => min max24 (k.2.1 + ((x - k.1) * k.2.2 + 2048) / 4096)
  | none => (nth (0, 0, 0) knees 0).2.1

/-- Stage 1 on a line of `b`-bit samples (R106, R108). -/
def State.feLin (s : State) (n b : Nat) (l : List Px) : List Px :=
  if s.bit (FE.CTL n) 1 then l.map (fun p => (p.1 * 2 ^ (24 - b), p.2))
  else
    let ks := s.feKnees n
    l.map (fun p => (linearise ks p.1, p.2))

/-! ### Exposure merge (R109, R110) -/

/-- The merge parameters: THR_LO, SPAN, MOT_THR, MOT_SHIFT, MOT_ATT. -/
structure MergeCfg where
  thr : Nat
  span : Nat
  motThr : Nat
  motShift : Nat
  motAtt : Nat
deriving DecidableEq, Repr

/-- One pair of R109 and R110 on one sample: the result, and whether it took the single-sample path. -/
def mergePair (c : MergeCfg) (gain : Nat) (p q : Px) : Px × Bool :=
  let a := p.1
  let b := min max24 ((q.1 * gain + 128) / 256)
  if p.2 != q.2 then ((if p.2 then b else a, false), true)
  else if p.2 then ((a, true), false)
  else
    let w := if a ≤ c.thr then 256 else if c.thr + 2 ^ c.span ≤ a then 0 else 256 - (a - c.thr) / 2 ^ (c.span - 8)
    let d := if a ≤ b then b - a else a - b
    let w := if c.motThr + a / 2 ^ c.motShift < d then w / 2 ^ c.motAtt else w
    (((w * a + (256 - w) * b + 128) / 256, false), false)

/-- A merge row from the lines of the exposures, exposure 0 first, with the gains R1 and R2: the row, and whether a
sample took the single-sample path (PART). -/
def mergeRow (c : MergeCfg) (acc : List Px) : List Nat → List (List Px) → List Px × Bool
  | g :: gs, l :: ls =>
    let r := List.zipWith (mergePair c g) acc l
    let (out, part) := mergeRow c (r.map (·.1)) gs ls
    (out, part || r.any (·.2))
  | _, _ => (acc, false)

/-- The merge parameters of front end `n`. -/
def State.feMergeCfg (s : State) (n : Nat) : MergeCfg :=
  { thr := s.getF (FE.MERGE_THR n) 0 24, span := s.getF (FE.MERGE_CFG n) 8 5, motThr := s.getF (FE.MERGE_MOT n) 0 24,
    motShift := s.getF (FE.MERGE_MOT n) 24 5, motAtt := s.getF (FE.MERGE_MOT n) 29 3 }

/-! ### One row before defect correction -/

/-- A fill line (R100). -/
def State.fillLine (s : State) (n width : Nat) : List Px := List.replicate width (s.getF (FE.FILL n) 0 24, true)

/-- The line `l` of exposure `e` of a frame; a line not yet there is the fill line of its deadline (R100). -/
def State.feLineOf (s : State) (n : Nat) (f : FeFrame) (e l : Nat) : List Px :=
  let x := Map.get {} f.lines (65536 * e + l)
  if x.got then x.px else s.fillLine n f.width

/-- The exposures a merge row takes (R106, R109). -/
def State.feExps (s : State) (n : Nat) (f : FeFrame) : Nat := if s.bit (FE.CTL n) 2 then 1 else f.nexp

/-- The colour channel at column `x`, line `y` (R111). -/
def State.feChan (s : State) (n x y : Nat) : Nat := s.getF (FE.CFA n) (2 * (2 * (y % 2) + x % 2)) 2

/-- Merge row `r` after stages 1 to 3, with PART (R108-R111). -/
def State.fePre (s : State) (n : Nat) (f : FeFrame) (r : Nat) : List Px × Bool :=
  let lines := (upto (s.feExps n f)).map (fun e => s.feLin n f.bits (s.feLineOf n f e r))
  let (row, part) := mergeRow (s.feMergeCfg n) (nth [] lines 0)
    [s.getF (FE.MERGE_RATIO n) 0 16, s.getF (FE.MERGE_RATIO n) 16 16] (lines.drop 1)
  let row := if s.bit (FE.CTL n) 3 then row
    else row.mapIdx (fun x p => (p.1 - s.getF (FE.BLACK n (s.feChan n x r)) 0 24, p.2))
  (row, part)

/-! ### Defect-pixel correction (R112, R113) -/

/-- The entries of the static map in force as (line, column): valid entries up to the first that breaks raster order (R112). A repeated
entry breaks it, and entries without VALID are no part of it. DEDUCED (log entry 210). -/
def staticFrom (prev : Option (Nat × Nat)) : List Nat → List (Nat × Nat)
  | [] => []
  | v :: rest =>
    if bitOf v 31 then
      let p := (fld v 0 13, fld v 16 13)
      match prev with
      | some q => if p.1 < q.1 ∨ (p.1 = q.1 ∧ p.2 ≤ q.2) then [] else p :: staticFrom (some p) rest
      | none => p :: staticFrom (some p) rest
    else staticFrom prev rest

/-- The words of the static map. -/
def State.feDpcMap (s : State) (n : Nat) : List Nat := (upto 4096).map (fun i => s.rd (FE.DPC_MAP n i))

/-- The static map of front end `n` as (line, column); empty while STATIC_EN is 0. -/
def State.feStatic (s : State) (n : Nat) : List (Nat × Nat) :=
  if s.bit (FE.DPC_CFG n) 30 then staticFrom none (s.feDpcMap n) else []

/-- The mean, rounded down, of the middle two of four values (R113). -/
def middleTwo (a b c d : Nat) : Nat := (a + b + c + d - max (max a b) (max c d) - min (min a b) (min c d)) / 2

/-- Row `r` after stage 4, with the count of dynamic replacements (R113). -/
def State.feDpc (s : State) (n : Nat) (f : FeFrame) (stat : List (Nat × Nat)) (r : Nat) : List Px × Nat :=
  let cur := (s.fePre n f r).1
  let up := (s.fePre n f (mirror ((r : Int) - 2) f.height)).1
  let dn := (s.fePre n f (mirror ((r : Int) + 2) f.height)).1
  let cfg := s.rd (FE.DPC_CFG n)
  let hi := fld cfg 12 12 * 2 ^ fld cfg 24 5
  let lo := fld cfg 0 12 * 2 ^ fld cfg 24 5
  let px := fun (l : List Px) (x : Nat) => nth (0, true) l x
  let out := cur.mapIdx (fun x p =>
    let a := px cur (mirror ((x : Int) - 2) f.width)
    let b := px cur (mirror ((x : Int) + 2) f.width)
    let c := px up x
    let d := px dn x
    let rep := middleTwo a.1 b.1 c.1 d.1
    if stat.contains (r, x) then ((rep, p.2), 0)
    else if bitOf cfg 31 && !(p.2 || a.2 || b.2 || c.2 || d.2) &&
        (decide (max (max a.1 b.1) (max c.1 d.1) + hi < p.1) || decide (p.1 + lo < min (min a.1 b.1) (min c.1 d.1)))
      then ((rep, p.2), 1)
    else (p, 0))
  (out.map (·.1), (out.map (·.2)).sum)

/-! ### Lens shading (R114) -/

/-- Bilinear interpolation of four node values with weights fx of dx and fy of dy, rounded to nearest, half up. -/
def bilinear (g00 g10 g01 g11 fx dx fy dy : Nat) : Nat :=
  (2 * (g00 * (dx - fx) * (dy - fy) + g10 * fx * (dy - fy) + g01 * (dx - fx) * fy + g11 * fx * fy) + dx * dy) / (2 * (dx * dy))

/-- The gain of channel `c` at node (i, j) of FE.LSC_GAIN, edge nodes beyond the grid (R114). The lower index lies in bits 15:0 of a
word. PRESUMED (log entry 211). -/
def State.lscNode (s : State) (n c i j : Nat) : Nat :=
  let k := 4 * (17 * min j 16 + min i 16) + c
  s.getF (FE.LSC_GAIN n (k / 2)) (16 * (k % 2)) 16

/-- R114 on one sample. A spacing that no apply has clamped yet counts as the nearest in range. DEDUCED (log entry 166). -/
def State.feShade (s : State) (n x y v : Nat) : Nat :=
  let dx := 2 * max 8 (s.getF (FE.LSC_CFG n) 0 9)
  let dy := 2 * max 8 (s.getF (FE.LSC_CFG n) 16 9)
  let c := s.feChan n x y
  let i := x / dx
  let j := y / dy
  let g := bilinear (s.lscNode n c i j) (s.lscNode n c (i + 1) j) (s.lscNode n c i (j + 1)) (s.lscNode n c (i + 1) (j + 1))
    (x % dx) dx (y % dy) dy
  min max24 ((v * g + 2048) / 4096)

/-! ### Tone compression (R115) -/

/-- The node before position `2 (x - origin) + 1` half pixels, and the weight towards the next node, of `2 size` (R115). -/
def toneAxis (x origin size : Nat) : Nat × Nat :=
  let num : Int := (2 * ((x : Int) - origin) + 1) * 16 - size
  if num < 0 then (0, 0)
  else if 15 * (2 * size) ≤ num.toNat then (15, 0)
  else (num.toNat / (2 * size), num.toNat % (2 * size))

/-- Node (i, j) of FE.TONE_LGAIN. -/
def State.toneNode (s : State) (n i j : Nat) : Nat :=
  let k := 16 * min j 15 + min i 15
  s.getF (FE.TONE_LGAIN n (k / 2)) (16 * (k % 2)) 16

/-- TC[k] of FE.TONE_TC. -/
def State.toneTc (s : State) (n k : Nat) : Nat := s.getF (FE.TONE_TC n (k / 2)) (16 * (k % 2)) 12

/-- Steps 2 and 3 of R115: the global curve. -/
def State.toneCurve (s : State) (n x : Nat) : Nat :=
  if x < 8 then min 4095 ((s.toneTc n 0 * x + 4) / 8)
  else
    let e := Nat.log2 x
    let k := (e - 3) * 8 + x / 2 ^ (e - 3) % 8
    if e = 3 then s.toneTc n k
    else
      let f := x % 2 ^ (e - 3)
      clampNat 4095 ((s.toneTc n k : Int) + (((s.toneTc n (k + 1) : Int) - s.toneTc n k) * f + 2 ^ (e - 4)) / 2 ^ (e - 3))

/-- A box in force on the input geometry of front end `n`: X0, Y0, W, H; a size of 0 reaches to the far edge (R116, R120). -/
def State.feBox (s : State) (n org size : Nat) : Nat × Nat × Nat × Nat :=
  let x0 := s.getF org 0 13
  let y0 := s.getF org 16 13
  let w := s.getF size 0 13
  let h := s.getF size 16 13
  (x0, y0, if w = 0 then s.getF (FE.GEOM n) 0 16 - x0 else w, if h = 0 then s.getF (FE.GEOM n) 16 16 - y0 else h)

/-- The crop in force: X0, Y0, W, H (R120). -/
def State.feCrop (s : State) (n : Nat) : Nat × Nat × Nat × Nat := s.feBox n (FE.CROP n) (FE.CROP_SIZE n)

/-- R115 on one sample. -/
def State.feTone (s : State) (n x y v : Nat) : Nat :=
  if s.bit (FE.CTL n) 6 then v / 4096
  else
    let (x0, y0, w, h) := s.feCrop n
    let (i, fx) := toneAxis x x0 w
    let (j, fy) := toneAxis y y0 h
    let g := bilinear (s.toneNode n i j) (s.toneNode n (i + 1) j) (s.toneNode n i (j + 1)) (s.toneNode n (i + 1) (j + 1))
      fx (2 * w) fy (2 * h)
    s.toneCurve n (min max24 ((v * g + 128) / 256))

/-! ### A finished row, its item and the statistics -/

/-- Merge row `r` after stage 6: the 12-bit row, PART, and the dynamic replacements. -/
def State.feRowOut (s : State) (n : Nat) (f : FeFrame) (stat : List (Nat × Nat)) (r : Nat) : List Px × Bool × Nat :=
  let (pre, part) := s.fePre n f r
  let (row, dyn) := if s.bit (FE.CTL n) 4 then (pre, 0) else s.feDpc n f stat r
  let row := row.mapIdx (fun x p =>
    let v := if s.bit (FE.CTL n) 5 then p.1 else s.feShade n x r p.1
    (s.feTone n x r v, p.2))
  (row, part, dyn)

/-- Pixel pairs as little-endian 24-bit groups (R122). -/
def pixelPairs : List Nat → List Byte
  | [] => []
  | [a] => leBytes 3 a
  | a :: b :: rest => leBytes 3 (a + 4096 * b) ++ pixelPairs rest

/-- `bs` with bytes of 0 up to a multiple of `k` bytes. -/
def padTo (k : Nat) (bs : List Byte) : List Byte := bs ++ List.replicate ((k - bs.length % k) % k) 0

/-- The line item of R121 and R122. -/
def lineItem (line num w : Nat) (absent part crc cut pad : Bool) (px : List Px) : List Byte :=
  leBytes 8 (line % 65536 * 2 ^ 48 + num % 65536 * 2 ^ 32 + w % 65536 * 2 ^ 16 + 32 * b2n absent + 16 * b2n part
      + 8 * b2n crc + 4 * b2n cut + 2 * b2n pad + b2n (px.all (·.2)))
    ++ padTo 8 (pixelPairs (px.map (·.1)))

/-- Merge row `r` of frame `f` as it leaves the pipeline: the line item where the crop takes the row (R120-R122). -/
def State.feRow (s : State) (n : Nat) (f : FeFrame) (stat : List (Nat × Nat)) (r : Nat) : FeRow :=
  let (row, part, dyn) := s.feRowOut n f stat r
  let (x0, y0, w, h) := s.feCrop n
  let ls := (upto (s.feExps n f)).map (fun e => Map.get {} f.lines (65536 * e + r))
  { num := f.num, row := r, part := part, dyn := dyn,
    item := if y0 ≤ r ∧ r < y0 + h then
        some (lineItem (r - y0) f.num w f.absent part (ls.any (·.crc)) (ls.any (·.cut)) (ls.any (·.pad)) (slice row x0 w))
      else none }

/-- One 2 x 2 quad: its unmarked R samples, its unmarked B samples, and its G and Y unless a sample is fill-marked. -/
structure Quad where
  r : List Nat
  b : List Nat
  gy : Option (Nat × Nat)
deriving DecidableEq, Repr

/-- The mean of a list, rounded down; `d` for the empty list. -/
def meanOr (d : Nat) (l : List Nat) : Nat := if l.isEmpty then d else l.sum / l.length

/-- The quad at column `x`, line `y` of the finished rows `rows` (R116). -/
def State.feQuad (s : State) (n : Nat) (rows : List (List Px)) (x y : Nat) : Quad :=
  let at4 := [(x, y), (x + 1, y), (x, y + 1), (x + 1, y + 1)].map (fun p =>
    (s.feChan n p.1 p.2, nth (0, true) (nth [] rows p.2) p.1))
  let ok := at4.filter (fun p => !p.2.2)
  let pick := fun (c : Nat → Bool) => (ok.filter (fun p => c p.1)).map (fun p => p.2.1)
  let r := pick (· == 0)
  let b := pick (· == 3)
  let cfa := s.getF (FE.CFA n) 0 8
  let open_ := fun (ch : Nat) => Config.quadValue cfa ch x y % 4096
  let rv := meanOr (open_ 0) r
  let g := meanOr (open_ 1) (pick (fun c => c == 1 || c == 2))
  let bv := meanOr (open_ 2) b
  { r := r, b := b, gy := if at4.any (fun p => p.2.2) then none else some (g, (77 * rv + 150 * g + 29 * bv + 128) / 256) }

/-- The values of R, G, B and Y that a list of quads adds to histograms and zone sums (R116). -/
def quadValues (qs : List Quad) : List (List Nat) :=
  [qs.flatMap (·.r), qs.filterMap (fun q => q.gy.map (·.1)), qs.flatMap (·.b), qs.filterMap (fun q => q.gy.map (·.2))]

/-- The 256 bin counts of a list of 12-bit values. -/
def histogram (l : List Nat) : List Nat := (upto 256).map (fun b => l.countP (fun v => v / 16 == b))

/-- The statistics window and zones in force: X0, Y0, W, H, ZX, ZY; 0 zones are taken as 1 (R116). -/
def State.feStatCfg (s : State) (n : Nat) : Nat × Nat × Nat × Nat × Nat × Nat :=
  let (x0, y0, w, h) := s.feBox n (FE.STAT_WIN n) (FE.STAT_SIZE n)
  (x0, y0, w, h, max 1 (s.getF (FE.STAT_CFG n) 0 8), max 1 (s.getF (FE.STAT_CFG n) 8 8))

/-- The statistics block of frame `f` (R117-R119); `rows` are its finished rows, used while STAT_EN is 1. -/
def State.feStatBlock (s : State) (n : Nat) (f : FeFrame) (rows : List (List Px)) : List Byte :=
  let (x0, y0, w, h, zx, zy) := s.feStatCfg n
  let on := s.bit (FE.CTL n) 7 && !f.absent
  let quads := fun (qx qy nx ny : Nat) =>
    if on then (upto ny).flatMap (fun j => (upto nx).map (fun i => s.feQuad n rows (x0 + 2 * (qx + i)) (y0 + 2 * (qy + j)))) else []
  let hist := (quadValues (quads 0 0 (w / 2) (h / 2))).map histogram
  let zw := w / 2 / zx
  let zh := h / 2 / zy
  let zones := (upto zy).flatMap (fun j => (upto zx).flatMap (fun i =>
    (quadValues (quads (i * zw) (j * zh) zw zh)).flatMap (fun l => beBytes 2 (meanOr 0xFFFF l))))
  if s.bit (FE.STAT_CFG n) 16 then
    beBytes 4 f.num ++ beBytes 1 zx ++ beBytes 1 zy ++ beBytes 2 (b2n on)
      ++ hist.flatMap (fun l => l.flatMap (fun v => beBytes 2 (min v 0xFFFF))) ++ zones
  else
    beBytes 1 2 ++ beBytes 1 (b2n on + 2 * b2n f.short + 4 * b2n f.long) ++ beBytes 1 zx ++ beBytes 1 zy
      ++ beBytes 4 f.num ++ beBytes 6 (f.capture / 2 ^ 40 / 1000000000) ++ beBytes 4 (f.capture / 2 ^ 40 % 1000000000)
      ++ beBytes 2 f.sensorFc ++ beBytes 4 0 ++ hist.flatMap (fun l => l.flatMap (beBytes 4)) ++ zones

end Sys2Proof.Machine
end

