-- ==== Sys2Proof/Machine/FrontEnd.lean ====
section
/-! DEFINITION. Camera front ends and parallel ports (spec/03_camera_front_ends.md): presence, frame windows, the line
acceptance table, fill lines, the shadow set, the items a front end writes, and the commands of the family. -/

namespace Sys2Proof.Machine

/-! ### Presence (R73, R93, R105) -/

/-- The camera of front end `n` is absent (R105, R406): EN is 0, the link is not in ACTIVE, its sensor script has failed, or the port is
absent. -/
def State.feAbsent (s : State) (n : Nat) : Bool :=
  !s.bit (FE.CTL n) 0 || (if n < 16 then decide ((s.lnk n).training ≠ .active) || (s.lnk n).scriptFail else !(s.fes n).ppPresent)

/-- FE.STAT.ABSENT of front end `n` (R131). -/
def State.statAbsent (s : State) (n : Nat) : Bool := s.bit (FE.CTL n) 0 && s.feAbsent n

/-- FE.EVT.ABSENT or FE.EVT.PRESENT after absence was `old` (R93, R131). -/
def State.fePresence (s : State) (n : Nat) (old : Bool) : State :=
  if s.feAbsent n = old then s else s.setBit (FE.EVT n) (if old then 3 else 2)

/-- The front end takes input: it is used by the current scene and enabled (first row of R99), and not under test (R465). -/
def State.feTakes (s : State) (n : Nat) : Bool := (s.fes n).inScene && s.bit (FE.CTL n) 0 && !s.underTest (8 + n)

/-- A counted front-end event that is also a deviation of sequencer 16 + n (R360). -/
def State.feDev (s : State) (n cnt : Nat) : State := (s.inc cnt).dev (16 + n)

/-- A departure of R103. -/
def State.feFsErr (s : State) (n : Nat) : State := (s.feDev n (FE.FS_ERR_CNT n)).setBit (FE.EVT n) 5

/-- The open frame of front end `n` changed by `f`. -/
def State.modFrame (s : State) (n : Nat) (f : FeFrame → FeFrame) : State :=
  s.modFe n (fun x => { x with frame := x.frame.map f })

/-! ### The shadow set (R116, R120, R124-R128) -/

/-- The shadowed registers of front end `n` (R131). -/
def feShadowed (n : Nat) : List Nat :=
  [FE.SRC n, FE.FILL n, FE.LIN_CFG n, FE.MERGE_CFG n, FE.MERGE_RATIO n, FE.MERGE_THR n, FE.MERGE_MOT n, FE.BLACK n 0,
    FE.BLACK n 1, FE.BLACK n 2, FE.BLACK n 3, FE.CFA n, FE.DPC_CFG n, FE.LSC_CFG n, FE.STAT_CFG n, FE.STAT_WIN n,
    FE.STAT_SIZE n, FE.CROP n, FE.CROP_SIZE n]
  ++ (upto 96).map (FE.LIN_KNEE n) ++ (upto 85).map (FE.TONE_TC n) ++ (upto 128).map (FE.TONE_LGAIN n)

/-- The `w`-bit field at `lo` of `v` brought to the nearest value of `mn` to `mx` (R128). -/
def clampField (v lo w mn mx : Nat) : Nat := setFld v lo w (max mn (min mx (fld v lo w)))

/-- One axis of the clamps of R116 and R120, steps 1 to 3: origin and size within `full`. A size of 0 takes the rest. With an
odd `full` a limited value is rounded down to even once more. DEDUCED (log entry 212). -/
def boxAxis (full o z : Nat) : Nat × Nat :=
  let o' := min (o / 2 * 2) (full - 2)
  let o' := o' / 2 * 2
  let z' := if z = 0 then full - o' else z
  let z' := min (z' / 2 * 2) (full - o') / 2 * 2
  (o', if z' = 0 then 2 else z')

/-- Steps 1 to 3 on an origin and a size register: the two values, and whether a field was clamped. -/
def boxClamp (width height org size : Nat) : Nat × Nat × Bool :=
  let (x0, w) := boxAxis width (fld org 0 13) (fld size 0 13)
  let (y0, h) := boxAxis height (fld org 16 13) (fld size 16 13)
  (x0 + 65536 * y0, w + 65536 * h,
    x0 != fld org 0 13 || y0 != fld org 16 13 || (fld size 0 13 != 0 && w != fld size 0 13)
      || (fld size 16 13 != 0 && h != fld size 16 13))

/-- Steps 4 and 5 of R116 on one axis: zones and window size, after the limit `top` of R116 or R119. -/
def zoneAxis (top z size : Nat) : Nat × Nat :=
  let z' := min (max 1 (min z top)) (size / 2)
  (z', size / (2 * z') * (2 * z'))

/-- The value of one shadowed register after the clamps of R128, its clamp, and the stage it belongs to: the bypass bit of
FE.CTL, 7 for statistics, 0 for the fields of no stage. -/
structure Applied where
  addr : Nat
  value : Nat
  clamped : Bool
  stage : Nat
deriving DecidableEq, Repr

/-- A register of which single fields are clamped. -/
def State.appliedField (s : State) (a stage : Nat) (fs : List (Nat × Nat × Nat × Nat)) : Applied :=
  let v := fs.foldl (fun v f => clampField v f.1 f.2.1 f.2.2.1 f.2.2.2) (s.sh a)
  { addr := a, value := v, clamped := v != s.sh a, stage := stage }

/-- The knees of the shadow copy, K of them, to test their order (R108). -/
def State.shadowKneesOk (s : State) (n : Nat) : Bool :=
  let k := max 1 (min 32 (fld (s.sh (FE.LIN_CFG n)) 0 6))
  (kneesFrom none ((upto k).map (fun i => (s.sh (FE.LIN_KNEE n (3 * i)), 0, 0)))).length == k

/-- The static map breaks raster order, so that entries of it are ignored (R112, R128). -/
def State.dpcMapBad (s : State) (n : Nat) : Bool :=
  decide ((staticFrom none (s.feDpcMap n)).length < (s.feDpcMap n).countP (fun v => bitOf v 31))

/-- The shadow set of front end `n` as an apply writes it to the active set (R124, R128). -/
def State.feApplied (s : State) (n : Nat) : List Applied :=
  let width := s.getF (FE.GEOM n) 0 16
  let height := s.getF (FE.GEOM n) 16 16
  let b := if n < 16 then fmtBits (min 6 (fld (s.sh (FE.SRC n)) 16 4)) else s.feBits n
  let (crop, cropSize, cropC) := boxClamp width height (s.sh (FE.CROP n)) (s.sh (FE.CROP_SIZE n))
  let (win, size, winC) := boxClamp width height (s.sh (FE.STAT_WIN n)) (s.sh (FE.STAT_SIZE n))
  let cfg := s.sh (FE.STAT_CFG n)
  let top := if bitOf cfg 16 then 16 else 32
  let (zx, w) := zoneAxis top (fld cfg 0 8) (fld size 0 13)
  let (zy, h) := zoneAxis top (fld cfg 8 8) (fld size 16 13)
  let zone := zx != max 1 (fld cfg 0 8) || zy != max 1 (fld cfg 8 8)
  let keep := fun (a stage : Nat) => ({ addr := a, value := s.sh a, clamped := false, stage := stage } : Applied)
  let fill := s.sh (FE.FILL n)
  [s.appliedField (FE.SRC n) 0 [(16, 4, 0, 6)],
    { addr := FE.FILL n, value := min fill (2 ^ b - 1), clamped := decide (2 ^ b - 1 < fill), stage := 0 },
    s.appliedField (FE.LIN_CFG n) 1 [(0, 6, 1, 32)],
    s.appliedField (FE.MERGE_CFG n) 2 [(8, 5, 8, 23), (0, 2, 1, 3)],
    keep (FE.MERGE_RATIO n) 2, keep (FE.MERGE_THR n) 2, keep (FE.MERGE_MOT n) 2,
    keep (FE.BLACK n 0) 3, keep (FE.BLACK n 1) 3, keep (FE.BLACK n 2) 3, keep (FE.BLACK n 3) 3, keep (FE.CFA n) 0,
    { s.appliedField (FE.DPC_CFG n) 4 [(24, 5, 0, 16)] with
        clamped := (s.appliedField (FE.DPC_CFG n) 4 [(24, 5, 0, 16)]).clamped || s.dpcMapBad n },
    s.appliedField (FE.LSC_CFG n) 5 [(0, 9, 8, 256), (16, 9, 8, 256)],
    { addr := FE.STAT_CFG n, value := setFld (setFld cfg 0 8 zx) 8 8 zy, clamped := zone, stage := 7 },
    { addr := FE.STAT_WIN n, value := win, clamped := winC, stage := 7 },
    { addr := FE.STAT_SIZE n, value := w + 65536 * h,
      clamped := (fld (s.sh (FE.STAT_SIZE n)) 0 13 != 0 && w != fld size 0 13)
        || (fld (s.sh (FE.STAT_SIZE n)) 16 13 != 0 && h != fld size 16 13), stage := 7 },
    { addr := FE.CROP n, value := crop, clamped := cropC, stage := 0 },
    { addr := FE.CROP_SIZE n, value := cropSize, clamped := false, stage := 0 }]
  ++ (upto 96).map (fun i =>
      { addr := FE.LIN_KNEE n i, value := s.sh (FE.LIN_KNEE n i), clamped := i == 0 && !s.shadowKneesOk n, stage := 1 })
  ++ (upto 85).map (fun i => keep (FE.TONE_TC n i) 6) ++ (upto 128).map (fun i => keep (FE.TONE_LGAIN n i) 6)

/-- A stage is in use at an apply (R128). -/
def State.feStageUsed (s : State) (n stage : Nat) : Bool :=
  s.bit (FE.CTL n) 0 && (stage == 0 || s.bit (FE.CTL n) stage == (stage == 7))

/-- The shadow set differs from the active set (FE.STAT.PEND, R124): the two copies as they stand (log entry 146). -/
def State.fePend (s : State) (n : Nat) : Bool := (feShadowed n).any (fun a => s.sh a != s.rd a)

/-- The shadow set is copied to the active set in one cycle (R124, R128). -/
def State.feCopy (s : State) (n : Nat) : State :=
  let l := s.feApplied n
  let s1 := s.when (l.any (fun x => s.feStageUsed n x.stage && x.clamped))
    (fun s => (s.inc (FE.PARAM_CLAMP_CNT n)).setBit (FE.EVT n) 8)
  let s2 := s1.when (s.fePend n) (fun s => s.setBit (FE.EVT n) 6)
  s2.each l (fun s x => s.wr x.addr x.value)

/-- FE.FRAME_NUM has reached the target frame: it is 0 to 2^31 past it (R124, R126). -/
def State.feTargetReached (s : State) (n : Nat) : Bool :=
  decide ((s.rd (FE.FRAME_NUM n) + 2 ^ 32 - s.rd (FE.SHADOW_TGT n)) % 2 ^ 32 ≤ 2 ^ 31)

/-- The apply of the open time of the frame whose number FE.FRAME_NUM now holds (R124, R126). A target frame that HOLD made the
set miss is reached, so the set is applied at the first open time without HOLD. DEDUCED (log entry 165). -/
def State.feApply (s : State) (n : Nat) : State :=
  if s.bit (FE.SHADOW_CTL n) 0 then s
  else if s.bit (FE.SHADOW_CTL n) 2 then
    if s.feTargetReached n then (s.feCopy n).clrBit (FE.SHADOW_CTL n) 2 else s
  else s.feCopy n

/-- A write of FE.SHADOW_CTL: a target frame already passed when TGT_EN is set is late (R126). -/
def State.feShadowCtl (s : State) (n v : Nat) : State :=
  let was := s.bit (FE.SHADOW_CTL n) 2
  let s := s.plainWrite (FE.SHADOW_CTL n) v
  if !was && s.bit (FE.SHADOW_CTL n) 2 && s.feTargetReached n then
    ((s.feDev n (FE.SHADOW_LATE_CNT n)).setBit (FE.EVT n) 7).clrBit (FE.SHADOW_CTL n) 2
  else s

/-- A write of a shadowed register goes to its shadow copy (R124). -/
def State.shadowWrite (s : State) (a v : Nat) : State :=
  match regDefAt a with
  | none => s
  | some d => s.setSh a (d.written (s.sh a) v)

/-! ### Capture records (R337) -/

/-- The device is grandmaster of domain A (R313). -/
def State.gm (s : State) : Bool := s.bit TIME.CTL 3 && s.position == 0 && !s.isAS

/-- SYNCED (R308). -/
def State.synced (s : State) : Bool :=
  s.gm || ((s.time.dtState == .locked || s.time.dtState == .slew || s.time.dtState == .hold) &&
    decide (s.time.measured.natAbs ≤ max 1 (s.getF TIME.SW_CFG 16 16) * 16000))

/-- The trigger records whose instant device time has reached take SYNCED as it stands (R337). -/
def State.latchTrigs (s : State) : State :=
  let ok := s.synced
  { s with time := { s.time with trigRecs := s.time.trigRecs.map (fun p => (p.1, p.2.map (fun t =>
      if t.instant ≤ s.time.dt && !t.latched then { t with latched := true, unsync := t.unsync || !ok } else t))) } }

/-- The newest trigger handed over and not yet skipped is marked skipped. -/
def markSkipped : List TrigRec → List TrigRec
  | [] => []
  | t :: rest =>
    if rest.any (fun t => t.sent && !t.skipped) then t :: markSkipped rest
    else if t.sent && !t.skipped then { t with unsync := true, skipped := true } :: rest
    else t :: rest

/-- A trigger of camera `c` is skipped (R335, R336): reason 1 LATE, 2 LINK, 3 CAM, 4 QUEUE. -/
def State.trigSkip (s : State) (c reason lateNs : Nat) : State :=
  let s := (((s.inc TIME.TRIG_SKIP_CNT).setBit TIME.EVT 8).wr TIME.TRIG_LAST
    (reason * 2 ^ 29 + c * 2 ^ 24 + min lateNs 0xFFFF)).dev 45
  let r := markSkipped (Map.get [] s.time.trigRecs c)
  { s with time := { s.time with trigRecs := Map.set [] s.time.trigRecs c r } }

/-- The capture record of the frame that opens now on front end `n`, kept with the last four of its camera, and
UNSYNC_FRAME_CNT (R337). -/
def State.capture (s : State) (n : Nat) : Capture × State :=
  let s := s.latchTrigs
  let num := s.rd (FE.FRAME_NUM n)
  let recs := Map.get [] s.time.trigRecs n
  let mine := fun (t : TrigRec) => t.passed || decide (t.instant < s.time.dt)
  let c : Capture := match (recs.filter mine).getLast? with
    | some t => { frameNum := num, instant := t.instant, unsync := t.unsync }
    | none => { frameNum := num, instant := s.time.dt, unsync := true }
  let old := Map.get [] s.time.captures n
  let s : State := { s with time := { s.time with
    trigRecs := Map.set [] s.time.trigRecs n (recs.filter (fun t => !mine t)),
    captures := Map.set [] s.time.captures n (c :: old.take 3) } }
  (c, s.when c.unsync (·.inc TIME.UNSYNC_FRAME_CNT))

/-! ### Frame windows (R98-R105, R121) -/

/-- The frame-open item (R121). -/
def frameOpenItem (num capture w h expSet : Nat) : List Byte :=
  beBytes 4 num ++ beBytes 6 (capture / 2 ^ 40 / 1000000000) ++ beBytes 4 (capture / 2 ^ 40 % 1000000000)
    ++ beBytes 2 w ++ beBytes 2 h ++ beBytes 1 expSet ++ List.replicate 12 0 ++ [1]

/-- The frame-close item (R121). -/
def frameCloseItem (f : FeFrame) : List Byte :=
  beBytes 4 f.num ++ beBytes 2 (b2n f.short + 2 * b2n f.long + 4 * b2n f.absent + 32 * b2n f.unsync)
    ++ beBytes 2 (min f.fills 0xFFFF) ++ beBytes 2 (min f.pads 0xFFFF) ++ beBytes 2 (min f.cuts 0xFFFF)
    ++ beBytes 2 (min f.lates 0xFFFF) ++ List.replicate 17 0 ++ [2]

/-- The open time of entry `e` of front end `n` (R98, R105, R121, R124, R337, R353). -/
def State.feOpen (s : State) (n : Nat) (e : FeEntry) : State :=
  if !(s.fes n).inScene || s.underTest (8 + n) then s
  else
    let s := (s.wr (FE.FRAME_NUM n) (s.rd (FE.FRAME_NUM n) + 1)).feApply n
    let (c, s) := s.capture n
    let absent := s.feAbsent n
    let f : FeFrame :=
      { num := s.rd (FE.FRAME_NUM n), width := s.getF (FE.GEOM n) 0 16, height := s.getF (FE.GEOM n) 16 16,
        nexp := s.getF (FE.MERGE_CFG n) 0 2, entry := e, base := s.sched.startCycle, bits := s.feBits n, absent := absent, capture := c.instant, unsync := c.unsync }
    let s := (s.modFe n (fun x => { x with frame := some f })).when absent (fun s => s.feDev n (FE.ABSENT_FRAME_CNT n))
    let (_, _, w, h) := s.feCrop n
    s.push (s.fes n).lineQ n (frameOpenItem f.num f.capture w h (s.getF (FE.SRC n) 24 8))

/-- The deadline of line `l` of exposure `e`, where it has come (R100, R105, R353). -/
def State.feDeadline (s : State) (n e l : Nat) : State :=
  match (s.fes n).frame.filter (fun _ => !s.underTest (8 + n)) with
  | none => s
  | some f =>
    if f.nexp ≤ e ∨ f.height ≤ l ∨ s.now < f.base + f.entry.deadline e l then s
    else
      let k := 65536 * e + l
      let x := Map.get {} f.lines k
      if x.dl then s
      else if x.got then s.modFrame n (fun f => { f with lines := Map.set {} f.lines k { x with dl := true } })
      else
        let y : FeLine := { got := true, px := s.fillLine n f.width, dl := true }
        let s := s.modFrame n (fun f => { f with lines := Map.set {} f.lines k y, fills := f.fills + 1, short := f.short || !f.absent })
        s.when (!f.absent) (fun s => s.feDev n (FE.MISSING_LINE_CNT n))

/-- A finished merge row leaves the pipeline: its item is written and its counters move (R110, R113, R121). -/
def State.feEmitRow (s : State) (n : Nat) (r : FeRow) : State :=
  let s := (s.when r.part (·.inc (FE.MERGE_PART_CNT n))).incBy (FE.DPC_DYN_CNT n) r.dyn
  let s := s.modFe n (fun x => { x with buf := x.buf.filter (fun b => !(b.1 == r.num && b.2.1 == r.row)) })
  match r.item with
  | none => s
  | some bs => s.push (s.fes n).lineQ n bs

/-- The write time of merge row `r`, where it has come (R121, R123, R353): of a closed frame whose row still waits, else of the
open frame. -/
def State.feWriteSlot (s : State) (n r : Nat) : State :=
  if s.underTest (8 + n) then s else
  match (s.fes n).rows.find? (fun x => x.row == r) with
  | some x =>
    if s.now < x.due then s else (s.modFe n (fun f => { f with rows := f.rows.eraseP (fun x => x.row == r) })).feEmitRow n x
  | none =>
    match (s.fes n).frame with
    | none => s
    | some f => if f.height ≤ r ∨ s.now < f.base + f.entry.writes r then s
      else (s.modFrame n (fun f => { f with written := r + 1 })).feEmitRow n (s.feRow n f (s.feStatic n) r)

/-- The close time of front end `n`, where it has come (R103-R105, R116-R121, R353). The rows whose write slots
are still to come keep the values they have now. -/
def State.feClose (s : State) (n : Nat) : State :=
  match (s.fes n).frame.filter (fun f => decide (f.base + f.entry.close ≤ s.now) && !s.underTest (8 + n)) with
  | none => s
  | some f =>
    let check := !f.absent && s.feTakes n
    let s1 := (s.when (check && !f.fe) (·.feFsErr n)).when (check && !f.fs && !f.anyLine) (·.feFsErr n)
    let s1 := s1.when f.short (fun s => (s.inc (FE.SHORT_FRAME_CNT n)).setBit (FE.EVT n) 0)
    let s1 := s1.when f.long (fun s => (s.inc (FE.LONG_FRAME_CNT n)).setBit (FE.EVT n) 1)
    let stat := s.feStatic n
    let rows := if s.bit (FE.CTL n) 7 && !f.absent then (upto f.height).map (fun r => (s.feRowOut n f stat r).1) else []
    let late := ((upto f.height).drop f.written).map (fun r => { s.feRow n f stat r with due := f.base + f.entry.writes r })
    let s1 := s1.modFe n (fun x => { x with frame := none, rows := x.rows ++ late })
    let s1 := s1.push (s.fes n).lineQ n (frameCloseItem f)
    s1.each (s.fes n).statQs (fun s1 q => s1.push q n (s.feStatBlock n f rows))

/-! ### Input from a link or a port (R95, R96, R99-R103) -/

/-- Bytes of the line buffer in use (R99). -/
def FeState.bufUsed (x : FeState) : Nat := (x.buf.map (fun b => b.2.2)).sum

/-- Line `l` of exposure `e` accepted with its samples (R99, last row; R101-R103). -/
def State.feAccept (s : State) (n e l : Nat) (f : FeFrame) (samples : List Nat) (crc : Bool) : State :=
  let fill := s.getF (FE.FILL n) 0 24
  let pad := decide (samples.length < f.width)
  let cut := decide (f.width < samples.length)
  let crcFill := crc && s.bit (FE.CTL n) 9
  let px := if crcFill then s.fillLine n f.width
    else (samples.take f.width).map (fun v => (v, false)) ++ List.replicate (f.width - samples.length) (fill, true)
  let x : FeLine := { got := true, px := px, crc := crc, pad := pad, cut := cut }
  let s1 := s.when (!f.fs && !f.anyLine) (·.feFsErr n)
  let s1 := s1.modFrame n (fun f => { f with
    lines := Map.set {} f.lines (65536 * e + l) x, anyLine := true, short := f.short || pad || crcFill,
    long := f.long || cut, pads := f.pads + b2n pad, cuts := f.cuts + b2n cut })
  let s1 := s1.modFe n (fun y => { y with
    buf := y.buf ++ [(f.num, min (l + 2) (f.height - 1), f.width * ((f.bits + 7) / 8))] })
  let s1 := s1.when pad (fun s => s.feDev n (FE.SHORT_LINE_CNT n))
  let s1 := s1.when cut (fun s => s.feDev n (FE.LONG_LINE_CNT n))
  s1.when crc (·.inc (FE.CRC_LINE_CNT n))

/-- The acceptance table of R99 on a video line of a selected stream. -/
def State.feLine (s : State) (n e l : Nat) (samples : List Nat) (crc : Bool) : State :=
  if !s.feTakes n then s
  else
    match (s.fes n).frame with
    | none => (s.inc (FE.STRAY_LINE_CNT n)).setBit (FE.EVT n) 4
    | some f =>
      let x := Map.get {} f.lines (65536 * e + l)
      if f.absent then s
      else if f.height ≤ l then (s.feDev n (FE.EXTRA_LINE_CNT n)).modFrame n (fun f => { f with long := true })
      else if x.got && !x.dl then s.inc (FE.LINE_ERR_CNT n)
      else if x.dl then (s.feDev n (FE.LATE_LINE_CNT n)).modFrame n (fun f => { f with lates := f.lates + 1 })
      else if 262144 < (s.fes n).bufUsed + f.width * ((f.bits + 7) / 8) then s.feDev n (FE.EARLY_DROP_CNT n)
      else s.feAccept n e l f samples crc

/-- A camera-absent frame is open on front end `n` (R105). -/
def State.feAbsentOpen (s : State) (n : Nat) : Bool :=
  match (s.fes n).frame with
  | none => false
  | some f => f.absent

/-- A video line from link `n` (R95): stream, exposure, line, format, payload bytes, CRC-error mark. -/
def State.feVideo (s : State) (n stream exp line fmt : Nat) (bytes : List Byte) (crc : Bool) : State :=
  let src := s.rd (FE.SRC n)
  if !s.feTakes n || s.feAbsentOpen n then s
  else if exp < s.getF (FE.MERGE_CFG n) 0 2 ∧ fld src (4 * exp) 4 = stream then
    if fld src 16 4 = fmt then s.feLine n exp line (unpackLine (fmtBits fmt) bytes) crc else s.inc (FE.LINE_ERR_CNT n)
  else s

/-- An embedded line of `stream` (R96). -/
def State.feEmbedded (s : State) (n stream : Nat) (bytes : List Byte) : State :=
  if !s.feTakes n || s.feAbsentOpen n then s
  else if s.bit (FE.CTL n) 8 && s.getF (FE.SRC n) 20 4 == stream then
    match (s.fes n).embQ with
    | some q => s.push q n bytes
    | none => s
  else s

/-- A frame start with sensor frame count `fc` (R103); one that departs in two ways counts once (DEDUCED, log entry 209). At a front end
under test it counts the frame dropped (R465). -/
def State.feFrameStart (s : State) (n fc : Nat) : State :=
  if s.underTest (8 + n) then s.inc BIST.TEST_DROP_CNT
  else if !s.feTakes n || s.feAbsentOpen n then s
  else
    let last := (s.fes n).lastFc
    let s := (s.wr (FE.SENSOR_FC n) (fc % 65536)).modFe n (fun x => { x with lastFc := some (fc % 65536) })
    match (s.fes n).frame with
    | none => s.feFsErr n
    | some f =>
      let s := s.modFrame n (fun f => { f with fs := true, sensorFc := if f.fs then f.sensorFc else fc % 65536 })
      let seqBad := match last with
        | some p => fc % 65536 != (p + 1) % 65536
        | none => false
      s.when (f.fs || f.anyLine || seqBad) (·.feFsErr n)

/-- A frame end (R103). -/
def State.feFrameEnd (s : State) (n : Nat) : State :=
  if !s.feTakes n || s.feAbsentOpen n then s
  else
    match (s.fes n).frame with
    | none => s.feFsErr n
    | some f => (s.modFrame n (fun f => { f with fe := true })).when f.fe (·.feFsErr n)

/-! ### Parallel ports (R88-R93) -/

/-- A port sync error, `k` times (R92). -/
def State.ppSync (s : State) (n k : Nat) : State :=
  if k = 0 then s else (s.incBy (FE.PP_SYNC_ERR_CNT n) k).setBit (FE.EVT n) 9

/-- Exposures interleaved on the port; 0 is taken as 1 (R91). -/
def State.ppNexp (s : State) (n : Nat) : Nat := max 1 (s.getF (FE.PP_CFG n) 8 2)

/-- A run of the samples `d` ends on the port of front end `n` (R90, R91); a run of which no sample was kept is no line. -/
def State.ppRun (s : State) (n : Nat) (d : List Nat) : State :=
  if d.isEmpty then s
  else
    let k := (s.fes n).ppRuns
    let s := s.modFe n (fun x => { x with ppRuns := x.ppRuns + 1 })
    let skip := s.getF (FE.PP_TIMING n) 0 8
    if k < skip then s
    else
      let r := k - skip
      let e := r % s.ppNexp n
      if e < s.getF (FE.MERGE_CFG n) 0 2 then s.feLine n e (r / s.ppNexp n) (d.take 4096) false else s

/-- The run in progress on the port of front end `n` ends; `cut` where a frame start ends it (R90, R92). -/
def State.ppEndRun (s : State) (n : Nat) (cut : Bool) : State :=
  match (s.fes n).ppOpen with
  | none => s
  | some d => (((s.ppSync n (b2n cut)).modFe n (fun x => { x with ppOpen := none })).ppRun n d)

/-- A frame start on the port (R90, R92, R93, R94). -/
def State.ppStart (s : State) (n : Nat) : State :=
  let s := s.ppEndRun n true
  let old := s.feAbsent n
  let fc := (s.fes n).ppFc
  let s := (s.modFe n (fun x => { x with ppPresent := true, ppFrame := true, ppRuns := 0, ppFc := (fc + 1) % 65536 })).fePresence n old
  s.feFrameStart n fc

/-- A frame end on the port (R90). -/
def State.ppEnd (s : State) (n : Nat) : State :=
  if (s.fes n).ppFrame then (s.modFe n (fun x => { x with ppFrame := false })).feFrameEnd n else s

/-- A valid sample `v` on the port, PP_VSYNC being active or not (R90, R92): kept in the run, discarded with a sync error while
PP_VSYNC is inactive, the first one beyond 4,096 a sync error. Discarded without count while PP_VSYNC is active in no frame.
DESIGN CHOICE (log entry 167). -/
def State.ppTake (s : State) (n : Nat) (vs : Bool) (v : Nat) : State :=
  let d := (s.fes n).ppOpen.getD []
  let put := fun (s : State) (d : List Nat) => s.modFe n (fun x => { x with ppOpen := some d })
  if !vs then (put s d).ppSync n 1
  else if !(s.fes n).ppFrame || decide (4096 < d.length) then put s d
  else (put s (d ++ [v])).ppSync n (b2n (decide (d.length = 4096)))

/-- What the port of front end `n` samples in one pixel clock (R89, R90): whether PP_VSYNC is active, whether the sample is valid,
and the pixel. -/
def State.ppSample (s : State) (n : Nat) (c : PpClock) : Bool × Bool × Nat :=
  let cfg := s.rd (FE.PP_CFG n)
  let p := if bitOf cfg 0 then c.fall else c.rise
  (p.vs == bitOf cfg 2, (if bitOf cfg 3 then p.de else p.hs) == bitOf cfg 1, p.d.toNat % 2 ^ s.feBits n)

/-- One pixel clock at the port of front end `n` (R89-R92); a port that is not enabled takes nothing, and one whose front end is
under test takes no input and counts the frames it drops (R465). -/
def State.ppClock (s : State) (n : Nat) (c : PpClock) : State :=
  if !s.bit (FE.CTL n) 0 then s
  else
    let (vs, valid, v) := s.ppSample n c
    let start := vs && !(s.fes n).ppVs
    let s := s.modFe n (fun x => { x with ppVs := vs })
    if s.underTest (8 + n) then (s.modFe n (fun x => { x with ppFrame := false, ppOpen := none })).when start (·.inc BIST.TEST_DROP_CNT)
    else
      let s := if start then s.ppStart n else if vs then s else s.ppEnd n
      if valid then s.ppTake n vs v else s.ppEndRun n false

/-- The port becomes absent (R93). -/
def State.ppLose (s : State) (n : Nat) : State :=
  if (s.fes n).ppPresent then
    let old := s.feAbsent n
    ((s.modFe n (fun x => { x with ppPresent := false })).inc (FE.PP_LOSS_CNT n)).fePresence n old
  else s

/-! ### The commands of the family -/

/-- PP_FRAME_START (R89, R90, R92, R93): the pixel clocks up to the one in which PP_VSYNC becomes active. -/
def execPpFrameStart (p : Fin 2) (clocks : List PpClock) (s : State) : Host.Outcome State Fault Refusal :=
  .next (s.each clocks (fun s c => s.ppClock (16 + p) c))

/-- PP_LINE_RUN (R89-R92): the pixel clocks of a run of valid samples and of the sample that ends it. -/
def execPpLineRun (p : Fin 2) (clocks : List PpClock) (s : State) : Host.Outcome State Fault Refusal :=
  .next (s.each clocks (fun s c => s.ppClock (16 + p) c))

/-- PP_FRAME_END (R89, R90): the pixel clocks up to the one in which PP_VSYNC becomes inactive. -/
def execPpFrameEnd (x : PpRun) (s : State) : Host.Outcome State Fault Refusal :=
  .next (s.each x.clocks (fun s c => s.ppClock (16 + x.p) c))

/-- PP_ABSENT (R93): the pixel clock stops, or no frame start has come within TIMEOUT. -/
def execPpAbsent (p : Fin 2) (s : State) : Host.Outcome State Fault Refusal := .next (s.ppLose (16 + p))

/-- FRAME_OPEN_TIME (R98, R105, R121, R124-R128, R337, R353): an entry of a front-end table of the set in force or of the old set,
executed now. With a frame of the front end still open it does nothing: a front end never has two frames open at once (R353). -/
def execFrameOpenTime (x : FrameEntry) (s : State) : Host.Outcome State Fault Refusal :=
  match ((nth (0, []) (s.tableSet x.old).fe x.n).2[x.i]?).filter (fun e => s.entryNow (16 + x.n) x.old e.slot e.carry && (s.fes x.n).frame.isNone) with
  | none => .next s
  | some e => .next (s.feOpen x.n e)

/-- LINE_DEADLINE (R100, R105): the deadline of line `l` of exposure `e`. -/
def execLineDeadline (n : Fin 18) (e : Fin 3) (l : Nat) (s : State) : Host.Outcome State Fault Refusal :=
  .next (s.feDeadline n e l)

/-- LINE_WRITE_SLOT (R121-R123): the write time of merge row `r`. -/
def execLineWriteSlot (n : Fin 18) (r : Nat) (s : State) : Host.Outcome State Fault Refusal := .next (s.feWriteSlot n r)

/-- FRAME_CLOSE_TIME (R103-R105, R117-R121). -/
def execFrameCloseTime (n : Fin 18) (s : State) : Host.Outcome State Fault Refusal := .next (s.feClose n)

/-- A write of FE.DPC_MAP or FE.LSC_GAIN (R129). -/
def State.feTableWrite (s : State) (n a v : Nat) : State :=
  if !(s.fes n).inScene || s.mode == 6 then s.plainWrite a v else s.setBit (FE.EVT n) 10

/-- FE_TABLE_WRITE (R129): a write of entry `i` of FE.DPC_MAP (`dpc`) or word `i` of FE.LSC_GAIN. -/
def execFeTableWrite (n : Fin 18) (dpc : Bool) (i : Nat) (v : Word) (s : State) : Host.Outcome State Fault Refusal :=
  let a := if dpc then FE.DPC_MAP n i else FE.LSC_GAIN n i
  .next (s.served a (·.feTableWrite n a v.toNat))

end Sys2Proof.Machine
end

