-- ==== Sys2Proof/Machine/Ctx.lean ====
section
/-! DEFINITION. Clusters and their context store (R183-R187, R208): accessors of header, state and parameter buffers,
commits, and the response ring. -/

namespace Sys2Proof.Machine

/-- Cluster `k`. -/
def State.cl (s : State) (k : Nat) : CluState := Map.get {} s.clu k

/-- Cluster `k` replaced. -/
def State.setCl (s : State) (k : Nat) (c : CluState) : State := { s with clu := Map.set {} s.clu k c }

/-- Cluster `k` changed by `f`. -/
def State.modCl (s : State) (k : Nat) (f : CluState → CluState) : State := s.setCl k (f (s.cl k))

/-- The word at offset `o` of context `x` (R183). -/
def State.ctxWord (s : State) (k x o : Nat) : Nat := Memory.readWord (s.cl k).ctx (0x10000 * x + o)

/-- The word at offset `o` of context `x` set to `v`. -/
def State.setCtxWord (s : State) (k x o v : Nat) : State :=
  s.modCl k (fun c => { c with ctx := Memory.writeWord c.ctx (0x10000 * x + o) v })

/-- A header field (R183). -/
def State.hdr (s : State) (k x o lo w : Nat) : Nat := fld (s.ctxWord k x o) lo w

/-- A state field (R183). -/
def State.cst (s : State) (k x o lo w : Nat) : Nat := fld (s.ctxWord k x (0x1000 + o)) lo w

/-- A state field set to `v`. -/
def State.setCst (s : State) (k x o lo w v : Nat) : State :=
  s.setCtxWord k x (0x1000 + o) (setFld (s.ctxWord k x (0x1000 + o)) lo w v)

/-- FRAME_NUM of the context. -/
def State.ctxFrame (s : State) (k x : Nat) : Nat := s.ctxWord k x 0x1000

/-- OPEN of the context. -/
def State.ctxOpen (s : State) (k x : Nat) : Bool := s.cst k x 0x004 31 1 == 1

/-- The offset of parameter buffer `b` within a context (R183). -/
def paramBase (b : Nat) : Nat := 0x2000 + 0x7000 * (b % 2)

/-- ACTIVE_BUF. -/
def State.activeBuf (s : State) (k x : Nat) : Nat := s.cst k x 0x004 29 1

/-- A write of word `w` (byte offset `o`) of the pending buffer of context `x` (R184, R187). -/
def State.pendingWrite (s : State) (k x o v : Nat) : State :=
  let s := s.setCtxWord k x (paramBase (s.activeBuf k x + 1) + o) v
  s.modCl k (fun c => { c with copying := c.copying.map (fun p =>
    if p.1 = x then (p.1, p.2 ++ [(o, BitVec.ofNat 32 v)]) else p) })

/-- A commit of context `x`, with target `g` or none (R185, R186). -/
def State.commit (s : State) (k x : Nat) (g : Option Nat) : State :=
  let s := s.setCst k x 0x004 28 1 1
  let s := s.modCl k (fun c => { c with noTarget := (c.noTarget.filter (· != x)) ++ (if g.isNone then [x] else []) })
  match g with
  | some t => s.setCtxWord k x 0x1014 t
  | none => s

/-- The commit of a waiting buffer at the start edge of a band-0 task (R185, R187). -/
def State.applyCommit (s : State) (k x : Nat) : State :=
  let want := (s.ctxFrame k x + 1) % 2 ^ 32
  let g := s.ctxWord k x 0x1014
  let any := (s.cl k).noTarget.contains x
  let behind := (want + 2 ^ 32 - g) % 2 ^ 32
  if s.cst k x 0x004 28 1 = 0 then s
  else if any || behind ≤ 2 ^ 31 then
    let s := s.when (!any && behind != 0) (fun s => (s.inc (CLU.COMMIT_LATE_CNT k)).setBit (CLU.EVT k) 7)
    let s := s.setCst k x 0x004 28 1 0
    let s := s.setCst k x 0x004 29 1 (1 - s.activeBuf k x)
    s.modCl k (fun c => { c with noTarget := c.noTarget.filter (· != x), copying := c.copying.filter (fun p => p.1 != x) ++ [(x, [])] })
  else s

/-- The new active buffer has been copied into the new pending buffer (R187). -/
def State.copyDone (s : State) (k x : Nat) : State :=
  match (s.cl k).copying.find? (fun p => p.1 == x) with
  | none => s
  | some (_, ws) =>
    let a := 0x10000 * x + paramBase (s.activeBuf k x)
    let b := 0x10000 * x + paramBase (s.activeBuf k x + 1)
    let s := s.modCl k (fun c => { c with
      ctx := Memory.write c.ctx b (Memory.read c.ctx a 0x7000), copying := c.copying.filter (fun p => p.1 != x) })
    s.each ws (fun s w => s.setCtxWord k x (paramBase (s.activeBuf k x + 1) + w.1) w.2.toNat)

/-- A response written into ring RSP of context `x` (R208). -/
def State.ctxResponse (s : State) (k x tag status : Nat) (data : List Byte) : State :=
  let seq := s.ctxWord k x 0x1018
  let bs := leBytes 4 (tag + 256 * status + 65536 * min data.length 24) ++ data.take 24
  let s := s.modCl k (fun c => { c with ctx := Memory.write c.ctx (0x10000 * x + 0x1020 + 32 * (seq % 4)) bs })
  s.setCtxWord k x 0x1018 ((seq + 1) % 2 ^ 32)

/-- The area of the context store that offset `o` of a context falls in: a buffer byte offset, or none for header, state
and unassigned words (R183, R184). -/
def bufferOffset (o : Nat) : Option (Nat × Nat) :=
  if o < 0x2000 then none else if o < 0x9000 then some (0, o - 0x2000) else some (1, o - 0x9000)

/-- A host write of the context store at offset `o` of context `x` (R184): the pending buffer, or refused. -/
def State.ctxHostWrite (s : State) (k x o v : Nat) : State :=
  match bufferOffset o with
  | some (b, i) => if b = s.activeBuf k x then s.setBit (CLU.EVT k) 8 else s.pendingWrite k x (i / 4 * 4) v
  | none => s.setBit (CLU.EVT k) 8

end Sys2Proof.Machine
end

