-- ==== Sys2Proof/Machine/Link.lean ====
section
/-! DEFINITION. Kaydal Camera Links (spec/02_camera_links.md): training, equaliser, electrical idle, packets of both
channels, back-channel requests, loopback and cable sounding. -/

namespace Sys2Proof.Machine

/-! ### Back channel (R42, R43, R58-R67) -/

/-- The bytes of a back-channel packet between SOP and EOP (R48, R49, R58, R60, R61). -/
def bcBytes (type tag : Nat) (payload : List Byte) : List Byte :=
  let h := beBytes 1 type ++ beBytes 1 tag ++ beBytes 1 payload.length
  h ++ beBytes 1 (crc8 h) ++ payload ++ (if payload.isEmpty then [] else leBytes 4 (crc32 payload))

/-- Header and payload of a back-channel packet, as a far-end loopback returns them (R57). -/
def BcPacket.content : BcPacket → List Byte
  | .trigger target out uiOfs width =>
    (bcBytes 0x50 0 (beBytes 4 target ++ beBytes 1 (16 * out + uiOfs) ++ beBytes 2 width)).take 11
  | .keepalive bsc lpbk idleOk => (bcBytes 0x70 0 (beBytes 4 bsc ++ beBytes 1 (2 * b2n lpbk + b2n idleOk))).take 9
  | .request r tag => (bcBytes r.type tag r.payload).take (4 + r.payload.length)
  | .loopTest data => (bcBytes 0x7F 0 data).take (4 + data.length)

/-- The duration of back-channel symbol `j` of the spread profile, in 2^-40 ns, truncated (R42, R333). -/
def symbolTime (spread : Bool) (j : Nat) : Nat :=
  if spread then 40 * 2 ^ 40 * 79400 / (79400 - min (j % 794) (794 - j % 794)) else 40 * 2 ^ 40

/-- The symbols of at most `n` from profile position `j` that have wholly passed after `t` (2^-40 ns). -/
def symbolsIn (spread : Bool) (j t : Nat) : Nat → Nat
  | 0 => 0
  | n + 1 =>
    let d := symbolTime spread j
    if d ≤ t then 1 + symbolsIn spread (j + 1) (t - d) n else 0

/-- One whole spread profile in 2^-40 ns. -/
def profileTime (spread : Bool) : Nat := ((upto 794).map (symbolTime spread)).sum

/-- Back-channel symbols sent since BSC read 0 (R43), not wrapped. -/
def State.symbolCount (s : State) (n : Nat) : Nat :=
  let l := s.lnk n
  let t := (s.now - l.bscStart) * 2 ^ 40
  let p := profileTime l.spread
  794 * (t / p) + symbolsIn l.spread 0 (t % p) 794

/-- When back-channel symbol `k` starts, in 2^-40 ns after BSC read 0 (R42, R43). -/
def symbolStart (spread : Bool) (k : Nat) : Nat :=
  profileTime spread * (k / 794) + ((upto (k % 794)).map (symbolTime spread)).sum

/-- The first symbol of the back channel that starts now or later (R61). -/
def State.nextSymbol (s : State) (n : Nat) : Nat :=
  let l := s.lnk n
  let k := s.symbolCount n
  if symbolStart l.spread k = (s.now - l.bscStart) * 2 ^ 40 then k else k + 1

/-- The symbol that the SOP of a packet chosen now is (R45, R61): the next one, or the third after the EOP of the packet before. -/
def State.sopSymbol (s : State) (n : Nat) : Nat := max (s.nextSymbol n) (s.lnk n).sopFrom

/-- The device time at which back-channel symbol `k`, which has not started yet, starts (R61, R333). -/
def State.sopTime (s : State) (n k : Nat) : Nat :=
  let l := s.lnk n
  s.time.dt + (symbolStart l.spread k - (s.now - l.bscStart) * 2 ^ 40) * cycleTime s.time.y / 2 ^ 40

/-- Whether now lies in a window entry of `op` of link `n`'s table, for stream `st` where it matters: one of this period, or one
that runs on from an earlier period (R346, R352). -/
def State.linkWindow (s : State) (n op : Nat) (st : Option Nat) : Bool :=
  (s.liveEntries n (fun t => nth [] t.link n)).any (fun e => e.op == op && (st.isNone || st == some (fld e.w2 0 4)) &&
    decide (e.slot ≤ s.sched.slot) && decide (s.sched.slot < e.slot + fld e.w1 0 22))
  || s.sched.windows.any (fun w => w.link == n && w.op == op && (st.isNone || st == some w.stream) && decide (s.now < w.ends))

/-- The windows of link tables that are open now, with the core cycles at which they end (R346). -/
def State.openWindows (s : State) : List LinkWindow :=
  s.sched.windows.filter (fun w => decide (s.now < w.ends)) ++ (upto 16).flatMap (fun n =>
    ((s.liveEntries n (fun t => nth [] t.link n)).filter (fun e => decide (e.slot ≤ s.sched.slot) && decide (s.sched.slot < e.slot + fld e.w1 0 22))).map
      (fun e => { link := n, op := e.op, stream := fld e.w2 0 4, ends := s.sched.startCycle + 256 * (e.slot + fld e.w1 0 22) }))

/-- The table of link `n` holds an entry of `op`, for stream `st` where it matters (R352). -/
def State.linkNames (s : State) (n op : Nat) (st : Option Nat) : Bool :=
  (nth [] (s.setOf n).link n).any (fun e => e.op == op && (st.isNone || st == some (fld e.w2 0 4)))

/-- IDLE_OK of a keep-alive whose SOP leaves now (R352). -/
def State.idleOkNow (s : State) (n : Nat) : Bool :=
  s.bit (LNK.CTL n) 3 && (s.linkWindow n 2 none || !s.linkNames n 2 none)

/-- The next 20 bytes of the PRBS-15 generator of loop-test packets (R58), most significant generator bit first. -/
def prbsBits : Nat → Nat → Nat → Nat × Nat
  | 0, g, acc => (g, acc)
  | n + 1, g, acc =>
    let b := (g / 2 ^ 14 + g / 2 ^ 13) % 2
    prbsBits n ((2 * g + b) % 2 ^ 15) (2 * acc + g / 2 ^ 14 % 2)

/-- A packet starts on the back channel of link `n`. -/
def State.bcStart (s : State) (n : Nat) (p : BcPacket) : State := s.modLnk n (fun l => { l with inFlight := some p })

/-- A keep-alive starts, its BSC that of its SOP; it becomes the trigger anchor (R61, R333). -/
def State.bcKeepalive (s : State) (n : Nat) : State :=
  let k := s.sopSymbol n
  let t := s.sopTime n k
  let ok := s.idleOkNow n
  let s := s.modLnk n (fun l => { l with kaDue := false, idleOkSent := ok })
  let s : State := { s with time := { s.time with anchors := Map.set none s.time.anchors n (some (t, k)) } }
  s.bcStart n (.keepalive (k % 2 ^ 32) (s.getF (LNK.LOOP_CTL n) 0 2 == 3) ok)

/-- The firmware hands over the next request of the sensor script (R402): one at a time, and while the 7 entries of the request buffer
that are not the host's have room, so that the script overruns nothing (R65). DESIGN CHOICE (log entry 155). -/
def LinkState.scriptFeed (l : LinkState) : LinkState :=
  let isScript := fun (r : ReqSource) => match r with
    | .script _ => true
    | _ => false
  let busy := l.requests.any (fun r => isScript r.src) || l.outstanding.any (fun o => isScript o.src) ||
    (match l.inFlight with
     | some (.request r _) => isScript r.src
     | _ => false)
  match l.script with
  | [] => l
  | r :: rest =>
    if busy || decide (7 ≤ (l.requests.filter (fun r => r.src != .host)).length) then l
    else { l with requests := l.requests ++ [r], script := rest }

/-- Link `n` chooses its next packet if none is in flight (R63, R65, R66, R82); a loop test fills a gap in which no request can be
sent. A request takes its TAG as it is sent: one count of
bits 6:0 serves the host, the clusters and the sensor script, and bit 7 is 0 for the script too. DESIGN CHOICE (log entry 156). -/
def State.bcNext (s : State) (n : Nat) : State :=
  let s := s.when s.fwActs (·.modLnk n LinkState.scriptFeed)
  let l := s.lnk n
  if l.training ≠ .active ∨ l.inFlight.isSome then s
  else
    match l.triggers with
    | t :: rest => (s.modLnk n (fun l => { l with triggers := rest })).bcStart n t
    | [] =>
      if l.kaDue then s.bcKeepalive n
      else
        match (if l.outstanding.length < 4 then l.requests else []) with
        | r :: rest =>
          let tag := l.tagCount % 128 + (if r.src = .host then 128 else 0)
          (s.modLnk n (fun l => { l with requests := rest, tagCount := (l.tagCount + 1) % 128 })).bcStart n (.request r tag)
        | [] =>
          if s.getF (LNK.LOOP_CTL n) 0 2 = 3 then
            let (g, v) := prbsBits 160 l.prbs 0
            (s.modLnk n (fun l => { l with prbs := g })).bcStart n (.loopTest (beBytes 20 v))
          else s

/-- The host's request waits, is being sent or awaits its response (BC_REQ_CTL.BUSY). -/
def LinkState.hostBusy (l : LinkState) : Bool :=
  l.requests.any (fun r => r.src == .host) || l.outstanding.any (fun o => o.src == .host) ||
    (match l.inFlight with
     | some (.request r _) => r.src == .host
     | _ => false)

/-- A request enters the buffer of link `n`; a cluster's is dropped while 7 entries are taken (R65). A request leaves its entry as it is
sent. DESIGN CHOICE (log entry 154): the spec does not say that it keeps it until its response. -/
def State.bcQueue (s : State) (n : Nat) (r : BcRequest) : State :=
  let others := ((s.lnk n).requests.filter (fun r => r.src != .host)).length
  if r.src ≠ .host ∧ 7 ≤ others then s.inc (LNK.BC_DROP_CNT n)
  else (s.modLnk n (fun l => { l with requests := l.requests ++ [r] })).bcNext n

/-- The payload lengths that fit a request type (R58, R59). -/
def bcLengthOk (type len : Nat) : Bool :=
  match type with
  | 0x40 => decide (5 ≤ len) && decide (len ≤ 8)
  | 0x41 => len == 5
  | 0x42 => [5, 8, 11, 14, 17].contains len
  | 0x60 => len == 2
  | _ => false

/-- Bytes placed in consecutive byte lanes of registers from `a` up. -/
def State.putBytes (s : State) (a : Nat) (bs : List Byte) : State :=
  s.each (bs.zip (upto bs.length)) (fun s p => s.putF (a + 4 * (p.2 / 4)) (8 * (p.2 % 4)) 8 p.1.toNat)

/-- A request of `src` with tag `tag` completes with `status` and data (R57, R67, R208, R86). -/
def State.bcComplete (s : State) (n : Nat) (src : ReqSource) (tag status : Nat) (data : List Byte) : State :=
  match src with
  | .host =>
    let s := s.wr (LNK.BC_RSP_STAT n) (tag * 65536 + min data.length 16 * 256 + status)
    (s.putBytes (LNK.BC_RSP_DATA n 0) (data.take 16)).setBit (LNK.EVT n) 3
  | .cluster k x => s.ctxResponse k x tag status data
  | .script _ => (s.modLnk n (fun l => { l with scriptLeft := l.scriptLeft - 1, scriptFail := l.scriptFail || status != 0 })).fePresence n (s.feAbsent n)

/-- A write of BC_REQ_CTL (R65, R86). -/
def State.bcReqCtl (s : State) (n v : Nat) : State :=
  let busy := (s.lnk n).hostBusy
  let s := s.plainWrite (LNK.BC_REQ_CTL n) (v % 2 ^ 16)
  if bitOf v 16 && !busy then
    let type := fld v 0 8
    let len := fld v 8 5
    if bcLengthOk type len then
      let bytes := (upto len).map (fun i => BitVec.ofNat 8 (s.getF (LNK.BC_REQ_DATA n (i / 4)) (8 * (i % 4)) 8))
      s.bcQueue n { src := .host, type := type, payload := bytes }
    else ((s.putF (LNK.BC_RSP_STAT n) 0 4 7).putF (LNK.BC_RSP_STAT n) 8 5 0).setBit (LNK.EVT n) 3
  else s

/-- The packet in flight on the back channel ends (R61, R66, R82), and the next one is chosen, whose SOP follows after two idle
symbols (R45). -/
def State.bcDone (s : State) (n : Nat) : State :=
  match (s.lnk n).inFlight with
  | none => s
  | some p =>
    let k := s.nextSymbol n
    let s := s.modLnk n (fun l => { l with
      inFlight := none, sopFrom := k + 2,
      outstanding := match p with
        | .request r tag => l.outstanding ++ [{ src := r.src, tag := tag }]
        | _ => l.outstanding,
      loopOut := if s.getF (LNK.LOOP_CTL n) 0 2 = 3 then l.loopOut ++ [p] else l.loopOut })
    s.bcNext n

/-- The oldest request in wait of tag `tag` completes (R57, R66). -/
def State.bcMatch (s : State) (n tag status : Nat) (data : List Byte) : State :=
  match (s.lnk n).outstanding.find? (fun o => o.tag == tag) with
  | none => s
  | some o =>
    let s := s.modLnk n (fun l => { l with outstanding := l.outstanding.eraseP (fun o => o.tag == tag) })
    (s.bcComplete n o.src tag status data).bcNext n

/-- The request with tag `tag` has had no response for 2 ms (R67). -/
def State.bcTimeout (s : State) (n tag : Nat) : State :=
  match (s.lnk n).outstanding.find? (fun o => o.tag == tag) with
  | none => s
  | some _ => ((s.inc (LNK.BC_TO_CNT n)).setBit (LNK.EVT n) 4).bcMatch n tag 6 []

/-! ### Training (R69-R73) -/

/-- The scene uses link `n` (R81). -/
def State.linkUsed (s : State) (n : Nat) : Bool := (s.fes n).inScene

/-- The link leaves ACTIVE (R64, R72, R73, R336, R360). A request in flight, whose EOP is never sent, waits for its response like one
that was sent, and times out under R67; requests that wait are kept for the next ACTIVE. DESIGN CHOICE (log entry 157). -/
def State.linkDown (s : State) (n : Nat) : State :=
  let l := s.lnk n
  let old := s.feAbsent n
  let lost := l.triggers.length + (match l.inFlight with
    | some (.trigger _ _ _ _) => 1
    | _ => 0)
  let s := s.modLnk n (fun l => { l with
    triggers := [], inFlight := none, kaDue := false, eidle := false, idleEntry := false, training := .reset,
    outstanding := match l.inFlight with
      | some (.request r tag) => l.outstanding ++ [{ src := r.src, tag := tag }]
      | _ => l.outstanding })
  let s := ((s.setBit (LNK.EVT n) 1).fePresence n old).when (s.linkUsed n) (·.dev n)
  s.each (upto lost) (fun s _ => s.trigSkip n 2 0)

/-- The link goes to training state `t`, out of ACTIVE under R72 where it was there; in ALIGN it sends BTS2 (R69). -/
def State.linkGo (s : State) (n : Nat) (t : Training) : State :=
  let s := if (s.lnk n).training = .active ∧ t ≠ .active then s.linkDown n else s
  s.modLnk n (fun l => { l with training := t, bts2 := t == .align, commaLock := false, validFrom := 0 })

/-- The link goes to RESET with hold `h` (R70); the back channel is silent. -/
def State.linkReset (s : State) (n : Nat) (h : Hold) : State :=
  (s.linkGo n .reset).modLnk n (fun l => { l with hold := h, bscOn := false })

/-- The requests of the sensor script of link `n`'s camera, sent at each entry to ACTIVE (R402, R406). -/
def State.sendScript (s : State) (n : Nat) : State :=
  let reqs := nth [] s.scripts n
  let old := s.feAbsent n
  State.fePresence (s.modLnk n (fun l => { l with
    scriptLeft := reqs.length, scriptSent := true, scriptFail := false,
    requests := l.requests.filter (fun r => match r.src with
      | .script _ => false
      | _ => true),
    script := (reqs.zip (upto reqs.length)).map (fun r => { src := .script r.2, type := r.1.1, payload := r.1.2 }) })) n old

/-- The link enters ACTIVE (R61, R69, R72, R73, R402): its first keep-alive leaves at the first symbol after the entry. -/
def State.linkUp (s : State) (n : Nat) : State :=
  let old := s.feAbsent n
  let s := s.modLnk n (fun l => { l with training := .active, scriptFail := false, h1Lo := (nth 0 l.taps 0).natAbs, h1Hi := (nth 0 l.taps 0).natAbs })
  (((s.setBit (LNK.EVT n) 0).fePresence n old).when s.fwActs (·.sendScript n)).bcKeepalive n

/-- A training failure (R71). -/
def State.trainFail (s : State) (n : Nat) : State :=
  ((s.inc (LNK.TRAIN_FAIL_CNT n)).setBit (LNK.EVT n) 2).linkReset n .long

/-- Near-end loopback is selected. -/
def State.nearLoop (s : State) (n : Nat) : Bool := s.getF (LNK.LOOP_CTL n) 0 2 == 1 || s.getF (LNK.LOOP_CTL n) 0 2 == 2

/-- A write of LNK.CTL (R70, R72): EN edges, RETRAIN. -/
def State.linkCtl (s : State) (n v : Nat) : State :=
  let was := s.bit (LNK.CTL n) 0
  let s := s.plainWrite (LNK.CTL n) (v % 16)
  if !bitOf v 0 then (if was then s.linkReset n (s.lnk n).hold else s.when (bitOf v 4) (·.modLnk n (fun l => { l with hold := .short })))
  else if !was || bitOf v 4 then s.linkReset n .short else s

/-! ### Equaliser (R75-R77) -/

/-- The bound of tap `t` (0 for h1) in LNK.TAP_BOUND. -/
def State.tapBound (s : State) (n t : Nat) : Nat :=
  if t = 0 then s.getF (LNK.TAP_BOUND n) 0 7 else s.getF (LNK.TAP_BOUND n) (7 + 5 * (t - 1)) 5

/-- Adaptation is frozen (R76). -/
def State.eqFrozen (s : State) (n : Nat) : Bool := (s.lnk n).frozen || s.bit (LNK.EQ_CTL n) 3

/-- Tap `t` at code `v`; the range of h1 in the present CTLE interval takes it in (R75). -/
def LinkState.setTap (l : LinkState) (t : Nat) (v : Int) : LinkState :=
  let l := { l with taps := setNth l.taps t v }
  if t = 0 then { l with h1Lo := min l.h1Lo v.natAbs, h1Hi := max l.h1Hi v.natAbs } else l

/-- Tap `t` moves one code up or down, within its bound (R75, R77). The windows of 1,024 symbols lie on the grid of multiples of 1,024
core cycles. DESIGN CHOICE (log entry 158). -/
def State.tapMove (s : State) (n t : Nat) (up : Bool) : State :=
  let l := s.lnk n
  let b : Int := s.tapBound n t
  let x := nth 0 l.taps t
  let y := if up then x + 1 else x - 1
  if b < y ∨ y < -b then
    let w := s.now / 1024 + 1
    let s := s.modLnk n (fun l => { l.setTap t (clampInt (-b) b y) with clampWin := setNth l.clampWin t w })
    if nth 0 l.clampWin t = w then s else (s.inc (LNK.CLAMP_CNT n)).setBit (LNK.EVT n) 5
  else s.modLnk n (·.setTap t y)

/-! ### Received packets (R50-R57) -/

/-- What the receiver makes of a packet (R50). -/
inductive RxResult where
  | headerError
  | aborted
  | trailerError                                         -- counted in TCRC_CNT, discarded
  | packet (header : List Byte) (payload : List Byte) (marked : Bool)

/-- The header of R52 is in order: CRC, TYPE, LENGTH and FMT (R50, R52). -/
def headerOk (h : List Byte) : Bool :=
  let b := fun (i : Nat) => (nth 0 h i).toNat
  let type := b 0
  crc8 (h.take 7) == b 7 && [0x01, 0x02, 0x10, 0x12, 0x20, 0x30].contains type && decide (256 * b 4 + b 5 ≤ 16384) &&
    !(type == 0x10 && decide (7 ≤ b 6 / 16) && decide (b 6 / 16 ≤ 14))

/-- The rows of R50 in order. -/
def rxCheck (p : RxPacket) : RxResult :=
  if p.header.length < 8 then (if p.ending = .eop then .headerError else .aborted)
  else if !headerOk (p.header.take 8) then .headerError
  else if p.ending ≠ .eop then .aborted
  else
    let h := p.header.take 8
    let len := 256 * (nth 0 h 4).toNat + (nth 0 h 5).toNat
    let n := p.body.length
    let payload := p.body.take (n - 4)
    if len = 0 ∧ n = 0 then .packet h [] false
    else if n < 4 then .trailerError
    else if len ≠ 0 ∧ n = len + 4 ∧ le (p.body.drop (n - 4)) = crc32 payload then .packet h payload false
    else if (nth 0 h 0).toNat = 0x10 then .packet h payload true
    else .trailerError

/-- A sensor status packet (R56, R336). -/
def State.rxStatus (s : State) (n : Nat) (payload : List Byte) : State :=
  let b := fun (i : Nat) => (nth 0 payload i).toNat
  let s := s.wr (LNK.CAM_STAT n) (b 0 + 256 * b 1 + 65536 * (256 * b 2 + b 3))
  let s := (s.modLnk n (fun l => { l with idleEntry := bitOf (b 0) 0 })).when (fld (b 0) 1 4 != 0) (·.setBit (LNK.EVT n) 8)
  s.when (bitOf (b 0) 1 && (Map.get [] s.time.trigRecs n).any (fun t => t.sent && !t.skipped)) (·.trigSkip n 3 0)

/-- A back-channel response (R57, R66, R67, R81, R82). In far-end loopback a returned packet is paired with the oldest packet not yet
returned that equals it, and one that equals none with the oldest. DESIGN CHOICE (log entry 160): the spec does not say how they are
paired once one has been lost. -/
def State.rxResponse (s : State) (n : Nat) (payload : List Byte) : State :=
  let tag := (nth 0 payload 0).toNat
  let status := (nth 0 payload 1).toNat
  let data := payload.drop 2
  if s.getF (LNK.LOOP_CTL n) 0 2 = 3 ∧ status = 5 then
    let out := (s.lnk n).loopOut
    let same := out.find? (fun p => p.content == data)
    match same.or out.head? with
    | none => s
    | some p =>
      let s := s.modLnk n (fun l => { l with loopOut := l.loopOut.erase p })
      let s := s.when same.isNone (·.inc (LNK.LB_ERR_CNT n))
      match p with
      | .request _ _ => s.bcMatch n tag status data
      | _ => s
  else if 1 ≤ status ∧ status ≤ 5 then s.bcMatch n tag status data
  else s

/-- A correct or marked packet by its TYPE (R52, R99). Of a packet whose LENGTH its type does not allow under R52, a status, response
or embedded packet is dropped without a count, an embedded one of LENGTH 0 among them (R96), and the payload of a frame start or frame
end is ignored: R50 has no row for it. DESIGN CHOICE (log entry 41). -/
def State.rxDeliver (s : State) (n : Nat) (h payload : List Byte) (marked : Bool) : State :=
  let b := fun (i : Nat) => (nth 0 h i).toNat
  let stream := b 1 / 16
  let line := 256 * b 2 + b 3
  match b 0 with
  | 0x01 =>
    let s := s.when (s.linkNames n 1 (some stream) && !s.linkWindow n 1 (some stream)) (·.dev n)
    if s.getF (FE.SRC n) 0 4 = stream then s.feFrameStart n line else s
  | 0x02 => if s.getF (FE.SRC n) 0 4 = stream then s.feFrameEnd n else s
  | 0x10 => s.feVideo n stream (b 1 / 4 % 4) line (b 6 / 16) payload marked
  | 0x12 => if payload.isEmpty then s else s.feEmbedded n stream payload
  | 0x20 => if payload.length = 8 then s.rxStatus n payload else s
  | _ => if 2 ≤ payload.length ∧ payload.length ≤ 26 then s.rxResponse n payload else s

/-- A packet received on link `n` (R50). The error rules apply in every state (R70); packets are delivered in ACTIVE. -/
def State.rxPacket (s : State) (n : Nat) (p : RxPacket) : State :=
  match rxCheck p with
  | .headerError => s.inc (LNK.HCRC_CNT n)
  | .aborted => s.inc (LNK.ABORT_CNT n)
  | .trailerError => s.inc (LNK.TCRC_CNT n)
  | .packet h payload marked =>
    let s := s.when marked (·.inc (LNK.TCRC_CNT n))
    if (s.lnk n).training = .active then s.rxDeliver n h payload marked else s

/-! ### Loopback and sounding (R81-R85) -/

/-- A loopback or a sounding is accepted on link `n` (R81, R83). -/
def State.linkTestOk (s : State) (n : Nat) : Bool := !s.linkUsed n || s.mode == 6

/-- A write of LNK.LOOP_CTL (R81). MODE = 0 written while it is 0 does nothing, a refused write over a non-zero MODE clears it
without the return to RESET, and mode 3 written over a near-end loopback leaves the link in RESET with the hold that it had. DESIGN
CHOICE (log entry 161). A near-end serial loopback adapts as in FW_TRAIN, so it ends a freeze of idle symbols (log entry 191). -/
def State.loopSelect (s : State) (n v : Nat) : State :=
  let m := v % 4
  let was := s.getF (LNK.LOOP_CTL n) 0 2
  if m = 0 then (if was = 0 then s else ((s.wr (LNK.LOOP_CTL n) 0).modLnk n (fun l => { l with loopOut := [] })).linkReset n .short)
  else if s.linkTestOk n then
    let s := (s.wr (LNK.LOOP_CTL n) m).when (m != 3) (·.modLnk n (fun l => { l with loopOut := [] }))
    if m = 3 then s.bcNext n else (s.when (m == 1) (·.modLnk n (fun l => { l with frozen := false }))).linkGo n .reset
  else ((s.wr (LNK.LOOP_CTL n) 0).modLnk n (fun l => { l with loopOut := [] })).setBit (LNK.EVT n) 7

/-- A write of LNK.SOUND_CTL (R83, R84). -/
def State.soundCtl (s : State) (n v : Nat) : State :=
  let s := s.plainWrite (LNK.SOUND_CTL n) (v % 16 - v % 2)
  if !bitOf v 0 || (s.lnk n).sounding == .running then s
  else if s.linkTestOk n then
    (s.linkGo n .reset).modLnk n (fun l => { l with sounding := .running, bscOn := false })
  else (s.putF (LNK.SOUND_STAT n) 0 2 3).setBit (LNK.EVT n) 7

/-- A running sounding ends with `samples` in SOUND_BUF, the rest 0 (R83, R84); result 1 DONE, 2 ABORTED. -/
def State.soundEnd (s : State) (n result : Nat) (samples : List Byte) : State :=
  if (s.lnk n).sounding = .running then
    let bytes := (samples ++ List.replicate 768 0).take 768
    let s := s.each (upto 192) (fun s i => s.wr (LNK.SOUND_BUF n i) (le (slice bytes (4 * i) 4)))
    let s := s.wr (LNK.SOUND_STAT n) ((s.getF (LNK.SOUND_STAT n) 16 16 + 1) % 65536 * 65536 + result)
    ((s.modLnk n (fun l => { l with sounding := .idle })).setBit (LNK.EVT n) 6).linkReset n .long
  else s

/-! ### The commands of the family -/

/-- LINK_ENABLE (R70): a write of LNK.CTL that sets EN from 0 to 1. -/
def execLinkEnable (n : Fin 16) (v : Word) (s : State) : Host.Outcome State Fault Refusal := .next (s.served (LNK.CTL n) (·.linkCtl n v.toNat))

/-- LINK_DISABLE (R72): a write of LNK.CTL with EN = 0. -/
def execLinkDisable (n : Fin 16) (v : Word) (s : State) : Host.Outcome State Fault Refusal := .next (s.served (LNK.CTL n) (·.linkCtl n v.toNat))

/-- LINK_RETRAIN (R70): a write of LNK.CTL with RETRAIN = 1. -/
def execLinkRetrain (n : Fin 16) (v : Word) (s : State) : Host.Outcome State Fault Refusal := .next (s.served (LNK.CTL n) (·.linkCtl n v.toNat))

/-- TRAIN_HOLD_END (R42, R43, R69, R70): the hold has passed; with EN = 1 BTS1 starts and BSC reads 0. -/
def execTrainHoldEnd (n : Fin 16) (s : State) : Host.Outcome State Fault Refusal :=
  .next (s.when (decide ((s.lnk n).training = .reset) && s.bit (LNK.CTL n) 0 && !s.nearLoop n && (s.lnk n).sounding == .idle)
    (·.modLnk n (fun l => { l with training := .bcTrain, bscOn := true, bscStart := s.now, sopFrom := 0, spread := s.bit (LNK.CTL n) 2 })))

/-- FTS_DETECTED (R69, R75, R76): forward signal and three K28.7 at one alignment. Training adapts on FTS, so the entry ends a freeze of
256 idle symbols. DEDUCED (log entry 191): R76 names the first K27.7 alone. -/
def execFtsDetected (n : Fin 16) (s : State) : Host.Outcome State Fault Refusal :=
  .next (s.when (decide ((s.lnk n).training = .bcTrain))
    (fun s => (s.linkGo n .fwTrain).modLnk n (fun l => { l with sigDet := true, frozen := false })))

/-- ADAPT_SETTLED (R69, R75, R76, R81): the sweep has kept CTLE code `ctle` (CTLE_CODE with CTLE_MANUAL), the DFE has settled at
`taps` within their bounds, and the eye is `eye`. With EYE at least EYE_MIN the device sends BTS2. Frozen adaptation holds the taps and
the code. -/
def execAdaptSettled (n : Fin 16) (ctle : Fin 16) (eye : Byte) (taps : List Int) (s : State) :
    Host.Outcome State Fault Refusal :=
  let live := decide ((s.lnk n).training = .fwTrain) || s.getF (LNK.LOOP_CTL n) 0 2 == 1
  let held := s.eqFrozen n
  let code := if s.bit (LNK.EQ_CTL n) 4 then s.getF (LNK.EQ_CTL n) 8 4 else ctle.val
  let clamp := (upto 6).map (fun t => clampInt (-(s.tapBound n t : Int)) (s.tapBound n t) (nth 0 taps t))
  .next (s.when live (·.modLnk n (fun l => { l with
    ctle := if held then l.ctle else code, eye := eye.toNat, taps := if held then l.taps else clamp,
    bts2 := decide (l.training = .fwTrain) && decide (s.getF (LNK.EQ_CTL n) 12 8 ≤ eye.toNat) })))

/-- FORWARD_IDLE_ARRIVE (R69): the first forward K28.5 or K28.1 after BTS2. -/
def execForwardIdleArrive (n : Fin 16) (s : State) : Host.Outcome State Fault Refusal :=
  .next (s.when (decide ((s.lnk n).training = .fwTrain) && (s.lnk n).bts2) (·.linkGo n .align))

/-- COMMA_LOCK (R46, R69): three K28.5 at one alignment with no violation between them, in ALIGN. -/
def execCommaLock (n : Fin 16) (s : State) : Host.Outcome State Fault Refusal :=
  .next (s.when (decide ((s.lnk n).training = .align)) (·.modLnk n (fun l => { l with commaLock := true, bts2 := false, validFrom := s.now })))

/-- ALIGN_COMPLETE (R69, R71, R72): 64 consecutive valid symbols after comma lock, an error starting the count again. -/
def execAlignComplete (n : Fin 16) (s : State) : Host.Outcome State Fault Refusal :=
  .next (s.when (decide ((s.lnk n).training = .align) && (s.lnk n).commaLock && decide ((s.lnk n).validFrom + 64 ≤ s.now)) (·.linkUp n))

/-- TRAIN_TIMEOUT (R71): 2 ms in BC_TRAIN, FW_TRAIN or ALIGN. -/
def execTrainTimeout (n : Fin 16) (s : State) : Host.Outcome State Fault Refusal :=
  .next (s.when (decide ((s.lnk n).training ≠ .reset) && decide ((s.lnk n).training ≠ .active)) (·.trainFail n))

/-- LOSS_OF_SIGNAL (R72, R80): amplitude below signal detect for 1 µs in ACTIVE, outside electrical idle. -/
def execLossOfSignal (n : Fin 16) (s : State) : Host.Outcome State Fault Refusal :=
  .next (s.when (decide ((s.lnk n).training = .active) && !(s.lnk n).eidle)
    (fun s => ((s.linkReset n .long).inc (LNK.LOS_CNT n)).modLnk n (fun l => { l with sigDet := false })))

/-- ALIGNMENT_LOSS (R72, R71): four errors in 16 symbols or a K28.5 at a new alignment. In ACTIVE the link goes to ALIGN
and a packet in progress counts as aborted; in ALIGN comma lock starts again. -/
def execAlignmentLoss (n : Fin 16) (inPacket : Bool) (s : State) : Host.Outcome State Fault Refusal :=
  .next (match (s.lnk n).training with
    | .active => (s.when inPacket (·.inc (LNK.ABORT_CNT n))).linkGo n .align
    | .align => s.modLnk n (fun l => { l with commaLock := false, bts2 := true, validFrom := 0 })
    | _ => s)

/-- TAP_UPDATE (R75, R77): `sum` is the sum of the error-sign × data-sign products of tap `t` (0 for h1) since the last. An
accumulator that reaches ±2^(6 + MU) moves its tap by one code and returns to 0. -/
def execTapUpdate (n : Fin 16) (t : Fin 6) (sum : Int) (s : State) : Host.Outcome State Fault Refusal :=
  let a := nth 0 (s.lnk n).acc t + sum
  let full := decide (2 ^ (6 + s.getF (LNK.EQ_CTL n) 0 3) ≤ a.natAbs)
  .next (s.when (!s.eqFrozen n && !(s.lnk n).eidle) (fun s =>
    (s.modLnk n (fun l => { l with acc := setNth l.acc t (if full then 0 else a) })).when full (·.tapMove n t (decide (0 < a)))))

/-- CTLE_STEP (R75): an interval of 2^20 symbols in ACTIVE has passed, in which the magnitude of h1 has stayed from `lo` to `hi`, as the
state holds; with another range the command names no event that occurs. The code steps up where h1 has stayed within 4 codes of its
bound, down where it has stayed below a quarter of it; the next interval starts. -/
def execCtleStep (n : Fin 16) (lo hi : Nat) (s : State) : Host.Outcome State Fault Refusal :=
  let b := s.tapBound n 0
  let live := decide ((s.lnk n).training = .active) && !s.eqFrozen n && !(s.lnk n).eidle && !s.bit (LNK.EQ_CTL n) 4
  let kept := (s.lnk n).h1Lo == lo && (s.lnk n).h1Hi == hi
  .next (s.when (live && kept) (·.modLnk n (fun l => { l with
    ctle := if b ≤ lo + 4 then min 15 (l.ctle + 1) else if 4 * hi < b then l.ctle - 1 else l.ctle,
    h1Lo := (nth 0 l.taps 0).natAbs, h1Hi := (nth 0 l.taps 0).natAbs })))

/-- EQ_FREEZE (R76): 256 consecutive K28.5 or K28.1. -/
def execEqFreeze (n : Fin 16) (s : State) : Host.Outcome State Fault Refusal :=
  .next (s.modLnk n (fun l => { l with frozen := true }))

/-- EQ_RESUME (R76): the first K27.7 after a freeze. -/
def execEqResume (n : Fin 16) (s : State) : Host.Outcome State Fault Refusal :=
  .next (s.modLnk n (fun l => { l with frozen := false }))

/-- EIDLE_ENTRY (R78, R80): the forward signal stops. It is electrical idle only after IDLE_ENTRY with IDLE_OK sent as 1;
otherwise LOSS_OF_SIGNAL follows. An IDLE_ENTRY counts until the next status packet or drop, and the 64 symbols of R78, which bind the
camera, are not checked. DESIGN CHOICE (log entry 159). -/
def execEidleEntry (n : Fin 16) (s : State) : Host.Outcome State Fault Refusal :=
  .next (s.modLnk n (fun l => { l with
    sigDet := false, eidle := decide (l.training = .active) && l.idleEntry && l.idleOkSent, idleEntry := false }))

/-- EIDLE_EXIT (R79, R80, R86): the signal returns; K28.7 came after `k287At` symbols (none: not at all), `d102` D10.2 followed,
and `aligned` says that a K28.5 came at the alignment of the K28.7. -/
def execEidleExit (n : Fin 16) (k287At : Option Nat) (d102 : Nat) (aligned : Bool) (s : State) :
    Host.Outcome State Fault Refusal :=
  let early := match k287At with
    | some k => decide (k < 64)
    | none => false
  .next ((s.modLnk n (fun l => { l with sigDet := true })).when (s.lnk n).eidle (fun s =>
    if early && decide (48 ≤ d102) && aligned then s.modLnk n (fun l => { l with eidle := false })
    else ((s.linkGo n .align).inc (LNK.EIDLE_MISS_CNT n)).setBit (LNK.EVT n) 9))

/-- EIDLE_TIMEOUT (R80): electrical idle has lasted longer than IDLE_MAX. -/
def execEidleTimeout (n : Fin 16) (s : State) : Host.Outcome State Fault Refusal :=
  .next (s.when (s.lnk n).eidle (fun s => (s.linkReset n .long).inc (LNK.LOS_CNT n)))

/-- FRAME_START_PACKET (R50, R103, R352). -/
def execFrameStartPacket (n : Fin 16) (p : RxPacket) (s : State) : Host.Outcome State Fault Refusal := .next (s.rxPacket n p)

/-- FRAME_END_PACKET (R50, R103). -/
def execFrameEndPacket (n : Fin 16) (p : RxPacket) (s : State) : Host.Outcome State Fault Refusal := .next (s.rxPacket n p)

/-- VIDEO_LINE_PACKET (R50, R95, R99-R102). -/
def execVideoLinePacket (n : Fin 16) (p : RxPacket) (s : State) : Host.Outcome State Fault Refusal := .next (s.rxPacket n p)

/-- EMBEDDED_LINE_PACKET (R50, R96). -/
def execEmbeddedLinePacket (n : Fin 16) (p : RxPacket) (s : State) : Host.Outcome State Fault Refusal := .next (s.rxPacket n p)

/-- SENSOR_STATUS_PACKET (R50, R56, R336). -/
def execSensorStatusPacket (n : Fin 16) (p : RxPacket) (s : State) : Host.Outcome State Fault Refusal := .next (s.rxPacket n p)

/-- KEEPALIVE_DUE (R61): a grid point of the 2,500-symbol grid. -/
def execKeepaliveDue (n : Fin 16) (s : State) : Host.Outcome State Fault Refusal :=
  .next (s.when (decide ((s.lnk n).training = .active)) (fun s => (s.modLnk n (fun l => { l with kaDue := true })).bcNext n))

/-- BC_PACKET_COMPLETE (R63): the packet in flight ends and the next is chosen. -/
def execBcPacketComplete (n : Fin 16) (s : State) : Host.Outcome State Fault Refusal := .next (s.bcDone n)

/-- BC_REQ_GO (R65): a write of LNK.BC_REQ_CTL. -/
def execBcReqGo (n : Fin 16) (v : Word) (s : State) : Host.Outcome State Fault Refusal := .next (s.served (LNK.BC_REQ_CTL n) (·.bcReqCtl n v.toNat))

/-- LINK_LOOPBACK_SELECT (R81): a write of LNK.LOOP_CTL. -/
def execLinkLoopbackSelect (n : Fin 16) (v : Word) (s : State) : Host.Outcome State Fault Refusal := .next (s.served (LNK.LOOP_CTL n) (·.loopSelect n v.toNat))

/-- LOOPBACK_RETURN_TIMEOUT (R82): the oldest packet sent in far-end loopback has not come back within 2 ms. -/
def execLoopbackReturnTimeout (n : Fin 16) (s : State) : Host.Outcome State Fault Refusal :=
  .next (match (s.lnk n).loopOut with
    | [] => s
    | _ :: rest => (s.modLnk n (fun l => { l with loopOut := rest })).when (s.getF (LNK.LOOP_CTL n) 0 2 == 3) (·.inc (LNK.LB_ERR_CNT n)))

/-- SOUND_START (R83, R84): a write of LNK.SOUND_CTL. -/
def execSoundStart (n : Fin 16) (v : Word) (s : State) : Host.Outcome State Fault Refusal := .next (s.served (LNK.SOUND_CTL n) (·.soundCtl n v.toNat))

/-- SOUNDING_ABORT (R84, R86): forward signal is detected after the samples `taken`. -/
def execSoundingAbort (n : Fin 16) (taken : List Byte) (s : State) : Host.Outcome State Fault Refusal :=
  .next ((s.modLnk n (fun l => { l with sigDet := true })).soundEnd n 2 taken)

/-- SYMBOL_ERROR (R44, R47, R71, R82): a received symbol has the fault `err`, or none; in near-end loopback it is a wrong data symbol
where `wrong` says so, be it a valid group of the right disparity. -/
def execSymbolError (n : Fin 16) (err : Option SymbolFault) (wrong : Bool) (s : State) : Host.Outcome State Fault Refusal :=
  let s : State := match err with
    | none => s
    | some f =>
      let s := s.inc (if f = .violation then LNK.CV_CNT n else LNK.DISP_CNT n)
      s.when (decide ((s.lnk n).training = .align)) (fun s => s.modLnk n (fun l => { l with validFrom := s.now }))
  .next (s.when (wrong && s.nearLoop n) (·.inc (LNK.LB_ERR_CNT n)))

end Sys2Proof.Machine
end

