-- ==== Sys2Proof/Machine/Engine.lean ====
section
/-! DEFINITION. The engine instruction set (spec/06_engine_instruction_set.md): lanes, fixed-point arithmetic, the address
map, issue, write-back and faults, and one meaning per operation. An operation reads its sources in its issue cycle and
leaves its result in flight; RESULT_WRITEBACK is the end of an engine cycle (R242). -/

namespace Sys2Proof.Machine

/-! ### Lanes and fixed point (R213, R229, R230) -/

/-- The lanes of `w` bits of a vector register, lane 0 first. -/
def lanes (w : Nat) (x : Vec) : List Nat := (upto (512 / w)).map (fun i => fld x.toNat (w * i) w)

/-- A vector register of lanes of `w` bits. -/
def ofLanes (w : Nat) (l : List Nat) : Vec := BitVec.ofNat 512 (l.foldr (fun v acc => v % 2 ^ w + 2 ^ w * acc) 0)

/-- The bits of the 16-bit lanes whose bit of predicate `p` is 1. -/
def laneMask (p : Nat) : Vec := ofLanes 16 ((upto 32).map (fun i => if bitOf p i then 0xFFFF else 0))

/-- rnd of R229. -/
def rndShift (x : Int) (sh mode : Nat) : Int :=
  if sh = 0 then x
  else
    let q := x / 2 ^ sh
    let r := x - q * 2 ^ sh
    let h : Int := 2 ^ (sh - 1)
    match mode with
    | 0 => q
    | 1 => if h ≤ r then q + 1 else q
    | 2 => if h < r ∨ (r = h ∧ q % 2 = 1) then q + 1 else q
    | _ => if x < 0 ∧ r ≠ 0 then q + 1 else q

/-- Signed saturation to `w` bits, as a `w`-bit pattern (R230). -/
def satS (w : Nat) (i : Int) : Nat := tc w (clampInt (-(2 ^ (w - 1))) (2 ^ (w - 1) - 1) i)

/-- Unsigned saturation to `w` bits (R230). -/
def satU (w : Nat) (i : Int) : Nat := clampNat (2 ^ w - 1) i

/-- Short operation `op` on one lane of `w` bits, with multiply shift `sh` and rounding `mode` (R220). -/
def shortLane (op w sh mode a b : Nat) : Nat :=
  let x := sx w a
  let y := sx w b
  match op with
  | 1 => satS w (x + y)
  | 2 => satU w ((a : Int) + b)
  | 3 => satS w (x - y)
  | 4 => satU w ((a : Int) - b)
  | 5 => if x ≤ y then a else b
  | 6 => if x ≤ y then b else a
  | 7 => min a b
  | 8 => max a b
  | 9 => a &&& b
  | 10 => a ||| b
  | 11 => a ^^^ b
  | 12 => satS w (rndShift (x * y) sh mode)
  | 13 => satU w (rndShift ((a : Int) * b) sh mode)
  | 14 => tc w (rndShift x (b % 16) mode)
  | _ => satS w (x * 2 ^ (b % 16))

/-- Short operation `op` on all lanes of `w` bits. -/
def shortVec (op w sh mode : Nat) (a b : Vec) : Vec := ofLanes w (List.zipWith (shortLane op w sh mode) (lanes w a) (lanes w b))

/-- The latency of short operation `op` (R242). -/
def shortLatency (op : Nat) : Nat := if op = 12 ∨ op = 13 then 3 else 2

/-- The 32-bit values of a lane pair (R213). -/
def pairLanes (lo hi : Vec) : List Nat := List.zipWith (fun a b => a + 65536 * b) (lanes 16 lo) (lanes 16 hi)

/-! ### Registers -/

/-- Engine `e` of cluster `k`. -/
def State.eng (s : State) (k e : Nat) : EngineState := Map.get {} (s.cl k).engines e

/-- Engine `e` of cluster `k` replaced. -/
def State.setEng (s : State) (k e : Nat) (x : EngineState) : State :=
  s.modCl k (fun c => { c with engines := Map.set {} c.engines e x })

/-- Engine `e` of cluster `k` changed by `f`. -/
def State.modEng (s : State) (k e : Nat) (f : EngineState → EngineState) : State := s.setEng k e (f (s.eng k e))

/-- v`r`. -/
def EngineState.vr (x : EngineState) (r : Nat) : Vec := Map.get 0 x.v r

/-- s`r`; s0 reads 0 (R213). -/
def EngineState.sr (x : EngineState) (r : Nat) : Nat := if r = 0 then 0 else (Map.get 0 x.s r).toNat

/-- p`r`; p0 reads all ones (R213). -/
def EngineState.pr (x : EngineState) (r : Nat) : Nat := if r = 0 then 0xFFFFFFFF else (Map.get 0 x.p r).toNat

/-! ### Tasks: lookup and abort (R182, R200, R210) -/

/-- Task `idx` of cluster `k`, while it is in progress. -/
def State.task (s : State) (k idx : Nat) : Option TaskState := (s.cl k).tasks.find? (fun t => t.idx == idx)

/-- Task `idx` of cluster `k` changed by `f`. -/
def State.modTask (s : State) (k idx : Nat) (f : TaskState → TaskState) : State :=
  s.modCl k (fun c => { c with tasks := c.tasks.map (fun t => if t.idx = idx then f t else t) })

/-- Flags set in a task's band-close flags (R202). -/
def State.taskFlags (s : State) (k idx bits : Nat) : State := s.modTask k idx (fun t => { t with flags := t.flags ||| bits })

/-- The engine's task is a band task (R180). -/
def State.inBand (s : State) (k idx : Nat) : Bool := (s.task k idx).any (·.isBand)

/-- `n` cells read with UE status: CLU.UE_CNT, CLU.EVT.UE and the UE flag of a band (R195, R237). -/
def State.cluUe (s : State) (k idx n : Nat) : State :=
  if n = 0 then s
  else ((s.incBy (CLU.UE_CNT k) n).setBit (CLU.EVT k) 4).when (s.inBand k idx) (·.taskFlags k idx 32)

/-- Engine `e` stops in a qpop: of the item's bytes that the qpop asked for, those already delivered stand in local memory, a free number
of them (log entry 1); the rest of the item is read, discarded and released, and nothing more is written (R238). Cells read with UE
status count as ever (R237). -/
def State.stopQpop (s : State) (k e : Nat) (w : QpopWait) : State :=
  match s.takeOwned w.queue (e + 1) with
  | none => s
  | some (d, s) =>
    let n := min d.bytes.length w.limit
    let (v, s) := s.fresh
    let s := s.modCl k (fun c => { c with lmem := Memory.write c.lmem (0x20000 * e + w.addr) (d.bytes.take (v % (n + 1))) })
    s.cluUe k (s.eng k e).task d.ue

/-- The engines of `mask` that run or wait are stopped (R182, R200, R238). -/
def State.stopEngines (s : State) (k mask : Nat) : State :=
  s.each (upto 16) (fun s e =>
    let x := s.eng k e
    if bitOf mask e && (x.phase == .running || x.phase == .waiting) then
      let s := match x.wait with
        | some w => s.stopQpop k e w
        | none => s
      s.modEng k e (fun x => { x with phase := .idle, wait := none })
    else s)

/-- CLU.LAST_ABORT records task `t` with `cause` (R200). -/
def State.logAbort (s : State) (k : Nat) (t : TaskState) (cause : Nat) : State :=
  s.wr (CLU.LAST_ABORT k) (cause * 2 ^ 28 + t.ctx * 2 ^ 24 + t.band * 2 ^ 16 + t.idx % 1024)

/-- Task `idx` is aborted with `cause` (1 WD, 2 QREAD, 3 FAULT) and the flags `bits` (R200, R202). -/
def State.abortTask (s : State) (k idx cause bits : Nat) : State :=
  match s.task k idx with
  | none => s
  | some t =>
    let s := (s.stopEngines k t.mask).modTask k idx (fun t => { t with phase := .idle, flags := t.flags ||| bits ||| 1, asm := [] })
    (s.setBit (CLU.EVT k) 0).logAbort k t cause

/-- An engine fault with `cause` (R210, R246): the bundle has no effect, the engine stops, its task is aborted. -/
def State.engFault (s : State) (k e cause : Nat) : State :=
  let x := s.eng k e
  let s := s.setEng k e { x with phase := .faulted, wait := none, flight := x.flight.filter (fun f => f.issue != x.t) }
  let s := ((s.inc (CLU.FAULT_CNT k)).setBit (CLU.EVT k) 2).wr (CLU.FAULT_LOG k) (2 ^ 31 + cause * 2 ^ 28 + e * 2 ^ 24 + x.pc)
  (s.dev (35 + k)).abortTask k x.task 3 8

/-! ### Issue (R219, R242) -/

/-- What an operation does in its issue cycle: a fault, or a new engine state and results with their latencies. -/
abbrev Issue := Except Nat (EngineState × List (Nat × Dest))

/-- Two results that write one register (R219); s0 is a register like any other here. -/
def Dest.clash : Dest → Dest → Bool
  | .vec r _ _, .vec q _ _ => r == q
  | .scal r _, .scal q _ => r == q
  | .pred r _, .pred q _ => r == q
  | .mode _, .mode _ => true
  | .stride _, .stride _ => true
  | .lc i _, .lc j _ => i == j
  | _, _ => false

/-- No two results of a list write one register. -/
def noClash : List Dest → Bool
  | [] => true
  | d :: rest => !rest.any d.clash && noClash rest

/-- The engine can issue in this cycle. -/
def EngineState.canIssue (x : EngineState) : Bool := x.phase == .running && (x.bubble == 0 || x.bubble == 3)

/-- Engine `e` of cluster `k` issues an operation. -/
def State.issue (s : State) (k e : Nat) (f : EngineState → Issue) : State :=
  let x := s.eng k e
  if !x.canIssue then s
  else
    match f x with
    | .error c => s.engFault k e c
    | .ok (y, ds) =>
      let now := (x.flight.filter (fun g => g.issue == x.t)).map (·.dst)
      if noClash (ds.map (·.2) ++ now) then
        s.setEng k e { y with flight := y.flight ++ ds.map (fun d => { issue := x.t, left := d.1, dst := d.2 }) }
      else s.engFault k e 1

/-- An operation with one result of latency `n`. -/
def one (x : EngineState) (n : Nat) (d : Dest) : Issue := .ok (x, [(n, d)])

/-- A result for the lanes of predicate register `p` (R233). -/
def predVec (x : EngineState) (n r p : Nat) (v : Vec) : Issue := one x n (.vec r v (laneMask (x.pr p)))

/-! ### The address map (R215, R216, R177) -/

/-- A region of the engine address map. -/
inductive Region where
  | loc | shared | param
deriving DecidableEq, Repr

/-- The region of an access at `addr` by engine `e` in its present cycle, or the fault cause (R177, R215, R216). -/
def EngineState.region (x : EngineState) (e addr : Nat) (store : Bool) : Except Nat Region :=
  if addr < 0x20000 then .ok .loc
  else if 0x100000 ≤ addr ∧ addr < 0x200000 then (if addr / 64 % 16 = (x.t + e) % 16 then .ok .shared else .error 3)
  else if 0x200000 ≤ addr ∧ addr < 0x207000 then
    (if store then .error 2 else if (x.t + e) % 16 = 0 then .ok .param else .error 3)
  else .error 2

/-- The load latency of a region (R215). -/
def Region.latency : Region → Nat
  | .loc => 4
  | .shared => 6
  | .param => 8

/-- `n` bytes at `addr` as engine `e` of cluster `k` reads them. -/
def State.engRead (s : State) (k e addr n : Nat) : Region → List Byte
  | .loc => Memory.read (s.cl k).lmem (0x20000 * e + addr) n
  | .shared => Memory.read (s.cl k).smem (addr - 0x100000) n
  | .param =>
    let x := (s.eng k e).ctx
    Memory.read (s.cl k).ctx (0x10000 * x + paramBase (s.activeBuf k x) + (addr - 0x200000)) n

/-- The memory unit is free in this cycle (R244). -/
def EngineState.memFree (x : EngineState) : Bool := x.memBusy == 0 || decide (x.memBusy < x.t)

/-- A 64-byte register from bytes. -/
def vecOfBytes (bs : List Byte) : Vec := ofLanes 8 (bs.map (·.toNat))

/-- The bytes of a register, each with its lane's predicate bit (R233). -/
def vecBytes (v : Vec) (p : Nat) : List (Byte × Bool) := (lanes 8 v).mapIdx (fun i b => (BitVec.ofNat 8 b, bitOf p (i / 2)))

/-- A load of `n` bytes at the address `a`, aligned down to `al`; `d` makes the result of the bytes. -/
def State.loadOp (s : State) (k e : Nat) (x : EngineState) (a al n : Nat) (d : List Byte → Dest) (more : List (Nat × Dest)) : Issue :=
  if !x.memFree then .error 1
  else
    let a := a / al * al
    match x.region e a false with
    | .error c => .error c
    | .ok r => .ok (x, (r.latency, d (s.engRead k e a n r)) :: more)

/-- A store of bytes at the address `a`, aligned down to `al`. -/
def storeOp (e : Nat) (x : EngineState) (a al : Nat) (bs : List (Byte × Bool)) (more : List (Nat × Dest)) : Issue :=
  if !x.memFree then .error 1
  else
    let a := a / al * al
    match x.region e a true with
    | .error c => .error c
    | .ok _ => .ok (x, (2, .store a bs) :: more)

/-- The post-increment of an LS operation with access size `size` (R221). -/
def incOp (x : EngineState) (o : LsOp) (size : Nat) : List (Nat × Dest) :=
  let r := 8 + o.ar.val
  let a := BitVec.ofNat 32 (x.sr r)
  match o.inc.val with
  | 0 => []
  | 1 => [(1, .scal r (a + BitVec.ofNat 32 size))]
  | 2 => [(1, .scal r (a + x.stride))]
  | _ => [(1, .scal r (a - BitVec.ofNat 32 size))]

/-- Base plus sext(OFS) times `scale`, modulo 2^32 (R215, R222). -/
def lxAddr (x : EngineState) (o : LxOp) (scale : Nat) : Nat := tc 32 ((x.sr (8 + o.ar) : Int) + sx 10 o.ofs * scale)

/-- The aligned 16-bit word of engine `e`'s local memory at `a` (R223). -/
def State.localWord (s : State) (k e a : Nat) : Nat := le (Memory.read (s.cl k).lmem (0x20000 * e + a % 0x20000 / 2 * 2) 2)

/-! ### Control flow (R225-R227) -/

/-- The present bundle is the last of an active loop body (R226). -/
def EngineState.atBodyEnd (x : EngineState) : Bool :=
  !x.past && ((x.lc1 != 0 && x.pc == x.body1.2) || (x.lc0 != 0 && x.pc == x.body0.2))

/-- The present bundle is a delay bundle (R225). -/
def EngineState.inDelay (x : EngineState) : Bool := x.delay == 1 || x.delay == 2

/-- A branch, taken or not, to bundle `target` (R225, R226). -/
def branchOp (x : EngineState) (taken : Bool) (target : Nat) : Issue :=
  if x.inDelay || x.atBodyEnd then .error 1
  else .ok ({ x with delay := 3, target := if taken then some target else none }, [])

/-- The program counter at bundle `b`; past bundle 2,047 it stays there, and only no-operations issue (R213, R219; DEDUCED, log entry
149). -/
def EngineState.goto (x : EngineState) (b : Nat) : EngineState := { x with pc := min b 2047, past := decide (2047 < b) }

/-- The bundle that follows in order, with the loop counters tested at a body's last bundle, the inner first (R226). -/
def EngineState.sequence (x : EngineState) : EngineState :=
  if x.past then x
  else if x.lc1 ≠ 0 ∧ x.pc = x.body1.2 ∧ 1 < x.lc1 then { x with lc1 := x.lc1 - 1, pc := x.body1.1 }
  else
    let y := if x.lc1 ≠ 0 ∧ x.pc = x.body1.2 then { x with lc1 := 0 } else x
    if y.lc0 ≠ 0 ∧ y.pc = y.body0.2 ∧ 1 < y.lc0 then { y with lc0 := y.lc0 - 1, pc := y.body0.1 }
    else if y.lc0 ≠ 0 ∧ y.pc = y.body0.2 then { y with lc0 := 0 }.goto (y.pc + 1)
    else y.goto (y.pc + 1)

/-- The program counter at the end of a cycle in which the engine issued (R225-R227). -/
def EngineState.advance (x : EngineState) : EngineState :=
  if x.ending then { x with phase := .idle, ending := false, ended := true }
  else if x.bubble ≠ 0 then
    if x.bubble = 1 then { x with bubble := 0, target := none }.goto (x.target.getD x.pc) else { x with bubble := x.bubble - 1 }
  else
    let y := x.sequence
    if x.delay = 0 then y
    else if x.delay = 1 then
      match x.target with
      | some b => { y with delay := 0, target := none }.goto b
      | none => { y with delay := 0 }
    else { y with delay := x.delay - 1 }

/-! ### Write-back (R242, R243) -/

/-- A result written into engine `e` (R213, R233). -/
def State.writeDest (s : State) (k e : Nat) (d : Dest) : State :=
  match d with
  | .vec r v m => s.modEng k e (fun x => { x with v := Map.set 0 x.v r ((x.vr r &&& ~~~m) ||| (v &&& m)) })
  | .scal r v => if r = 0 then s else s.modEng k e (fun x => { x with s := Map.set 0 x.s r v })
  | .pred r v => s.modEng k e (fun x => { x with p := Map.set 0 x.p r v })
  | .mode v => s.modEng k e (fun x => { x with mode := v })
  | .stride v => s.modEng k e (fun x => { x with stride := v })
  | .lc i v => s.modEng k e (fun x => if i = 0 then { x with lc0 := v } else { x with lc1 := v })
  | .store a bs =>
    s.each ((bs.zip (upto bs.length)).filter (fun p => p.1.2)) (fun s p => s.modCl k (fun c =>
      if a < 0x20000 then { c with lmem := Memory.writeByte c.lmem (0x20000 * e + a + p.2) p.1.1 }
      else { c with smem := Memory.writeByte c.smem (a - 0x100000 + p.2) p.1.1 }))
  | .segment line a n got =>
    let bs := got ++ Memory.read (s.cl k).lmem (0x20000 * e + a) (min 64 n)
    if 64 < n then s.modEng k e (fun x => { x with flight := x.flight ++ [{ issue := x.t, left := 1, dst := .segment line (a + 64) (n - 64) bs }] })
    else s.modTask k (s.eng k e).task (fun t => { t with asm := t.asm.map (fun l =>
      if l.line = line then { l with segs := l.segs.map (fun p => if p.1 = e then (e, some bs) else p) } else l) })

/-- A segment copy reads local memory after the stores of its cycle. -/
def Dest.isSegment : Dest → Bool
  | .segment _ _ _ _ => true
  | _ => false

/-- The end of an engine cycle (R242, R243): results due are written in order of issue, and the next bundle follows. -/
def State.engCycle (s : State) (k e : Nat) : State :=
  let x := s.eng k e
  let fl := x.flight.map (fun f => { f with left := f.left - 1 })
  let due := (fl.filter (fun f => f.left == 0)).map (·.dst)
  let y := { x with flight := fl.filter (fun f => f.left != 0), t := x.t + 1 }
  let s := s.setEng k e (if x.phase = .running then y.advance else y)
  let s := s.each (due.filter (fun d => !d.isSegment)) (fun s d => s.writeDest k e d)
  s.each (due.filter (·.isSegment)) (fun s d => s.writeDest k e d)

/-! ### Short vector operations (R220) -/

/-- Short operation `op` in a V slot: MODE gives shift and rounding (R220, R231). -/
def State.shortOp (s : State) (k e op : Nat) (o : VecOp) : State :=
  s.issue k e (fun x => predVec x (shortLatency op) o.vd o.ps
    (shortVec op 16 (x.mode / 4 % 16) (x.mode % 4) (x.vr o.va) (x.vr o.vb)))

/-- VNOP. -/
def execVnop (k : Fin 8) (e : Fin 16) (s : State) : Host.Outcome State Fault Refusal := .next (s.issue k e (fun x => .ok (x, [])))

/-- VADD. -/
def execVadd (k : Fin 8) (e : Fin 16) (o : VecOp) (s : State) : Host.Outcome State Fault Refusal := .next (s.shortOp k e 1 o)

/-- VADDU. -/
def execVaddu (k : Fin 8) (e : Fin 16) (o : VecOp) (s : State) : Host.Outcome State Fault Refusal := .next (s.shortOp k e 2 o)

/-- VSUB. -/
def execVsub (k : Fin 8) (e : Fin 16) (o : VecOp) (s : State) : Host.Outcome State Fault Refusal := .next (s.shortOp k e 3 o)

/-- VSUBU. -/
def execVsubu (k : Fin 8) (e : Fin 16) (o : VecOp) (s : State) : Host.Outcome State Fault Refusal := .next (s.shortOp k e 4 o)

/-- VMIN. -/
def execVmin (k : Fin 8) (e : Fin 16) (o : VecOp) (s : State) : Host.Outcome State Fault Refusal := .next (s.shortOp k e 5 o)

/-- VMAX. -/
def execVmax (k : Fin 8) (e : Fin 16) (o : VecOp) (s : State) : Host.Outcome State Fault Refusal := .next (s.shortOp k e 6 o)

/-- VMINU. -/
def execVminu (k : Fin 8) (e : Fin 16) (o : VecOp) (s : State) : Host.Outcome State Fault Refusal := .next (s.shortOp k e 7 o)

/-- VMAXU. -/
def execVmaxu (k : Fin 8) (e : Fin 16) (o : VecOp) (s : State) : Host.Outcome State Fault Refusal := .next (s.shortOp k e 8 o)

/-- VAND. -/
def execVand (k : Fin 8) (e : Fin 16) (o : VecOp) (s : State) : Host.Outcome State Fault Refusal := .next (s.shortOp k e 9 o)

/-- VOR, and the register move. -/
def execVor (k : Fin 8) (e : Fin 16) (o : VecOp) (s : State) : Host.Outcome State Fault Refusal := .next (s.shortOp k e 10 o)

/-- VXOR. -/
def execVxor (k : Fin 8) (e : Fin 16) (o : VecOp) (s : State) : Host.Outcome State Fault Refusal := .next (s.shortOp k e 11 o)

/-- VMULQ. -/
def execVmulq (k : Fin 8) (e : Fin 16) (o : VecOp) (s : State) : Host.Outcome State Fault Refusal := .next (s.shortOp k e 12 o)

/-- VMULUQ. -/
def execVmuluq (k : Fin 8) (e : Fin 16) (o : VecOp) (s : State) : Host.Outcome State Fault Refusal := .next (s.shortOp k e 13 o)

/-- VSHR. -/
def execVshr (k : Fin 8) (e : Fin 16) (o : VecOp) (s : State) : Host.Outcome State Fault Refusal := .next (s.shortOp k e 14 o)

/-- VSHL. -/
def execVshl (k : Fin 8) (e : Fin 16) (o : VecOp) (s : State) : Host.Outcome State Fault Refusal := .next (s.shortOp k e 15 o)

/-! ### Memory operations (R221-R223) -/

/-- VLD. -/
def execVld (k : Fin 8) (e : Fin 16) (o : LsOp) (s : State) : Host.Outcome State Fault Refusal :=
  .next (s.issue k e (fun x => s.loadOp k e x (x.sr (8 + o.ar)) 64 64
    (fun bs => .vec o.vr (vecOfBytes bs) (laneMask 0xFFFFFFFF)) (incOp x o 64)))

/-- VST. -/
def execVst (k : Fin 8) (e : Fin 16) (o : LsOp) (s : State) : Host.Outcome State Fault Refusal :=
  .next (s.issue k e (fun x => storeOp e x (x.sr (8 + o.ar)) 64 (vecBytes (x.vr o.vr) (x.pr o.ps)) (incOp x o 64)))

/-- SLD. -/
def execSld (k : Fin 8) (e : Fin 16) (o : LsOp) (s : State) : Host.Outcome State Fault Refusal :=
  .next (s.issue k e (fun x => s.loadOp k e x (x.sr (8 + o.ar)) 4 4
    (fun bs => .scal (o.vr.val % 16) (BitVec.ofNat 32 (le bs))) (incOp x o 4)))

/-- VLDO. -/
def execVldo (k : Fin 8) (e : Fin 16) (o : LxOp) (s : State) : Host.Outcome State Fault Refusal :=
  .next (s.issue k e (fun x => s.loadOp k e x (lxAddr x o 64) 64 64
    (fun bs => .vec o.vr (vecOfBytes bs) (laneMask 0xFFFFFFFF)) []))

/-- VSTO. -/
def execVsto (k : Fin 8) (e : Fin 16) (o : LxOp) (s : State) : Host.Outcome State Fault Refusal :=
  .next (s.issue k e (fun x => storeOp e x (lxAddr x o 64) 64 (vecBytes (x.vr o.vr) (x.pr o.ps)) []))

/-- VLDB. -/
def execVldb (k : Fin 8) (e : Fin 16) (o : LxOp) (s : State) : Host.Outcome State Fault Refusal :=
  .next (s.issue k e (fun x => s.loadOp k e x (lxAddr x o 2) 2 2
    (fun bs => .vec o.vr (ofLanes 16 (List.replicate 32 (le bs))) (laneMask 0xFFFFFFFF)) []))

/-- VGATH (R223, R244). -/
def execVgath (k : Fin 8) (e : Fin 16) (o : LxOp) (s : State) : Host.Outcome State Fault Refusal :=
  .next (s.issue k e (fun x =>
    let base := x.sr (8 + o.ar)
    if !x.memFree then .error 1
    else if 0x20000 ≤ base then .error 2
    else
      let v := ofLanes 16 ((lanes 16 (x.vr o.vr)).map (fun i => s.localWord k e (base + 2 * i)))
      one { x with memBusy := x.t + 3 } 8 (.vec o.vr v (laneMask 0xFFFFFFFF))))

/-- VLUT (R223, R244). -/
def execVlut (k : Fin 8) (e : Fin 16) (o : LxOp) (s : State) : Host.Outcome State Fault Refusal :=
  .next (s.issue k e (fun x =>
    let base := x.sr (8 + o.ar)
    let n := 2 ^ (o.ofs.val % 16)
    if !x.memFree || o.ofs.val % 16 == 0 || decide (12 < o.ofs.val % 16) then .error 1
    else if 0x20000 < base + 2 * n then .error 2
    else
      let v := ofLanes 16 ((lanes 16 (x.vr o.vr)).map (fun i => s.localWord k e (base + 2 * min i (n - 1))))
      one { x with memBusy := x.t + 3 } 6 (.vec o.vr v (laneMask 0xFFFFFFFF))))

/-- SLDO. -/
def execSldo (k : Fin 8) (e : Fin 16) (o : LxOp) (s : State) : Host.Outcome State Fault Refusal :=
  .next (s.issue k e (fun x => s.loadOp k e x (lxAddr x o 4) 4 4 (fun bs => .scal (o.vr.val % 16) (BitVec.ofNat 32 (le bs))) []))

/-- SSTO. -/
def execSsto (k : Fin 8) (e : Fin 16) (o : LxOp) (s : State) : Host.Outcome State Fault Refusal :=
  .next (s.issue k e (fun x => storeOp e x (lxAddr x o 4) 4 ((leBytes 4 (x.sr (o.vr.val % 16))).map (fun b => (b, true))) []))

/-! ### Scalar operations (R224) -/

/-- A scalar result of latency `n`, modulo 2^32. -/
def State.scalarOp (s : State) (k e n rd : Nat) (f : EngineState → Int) : State :=
  s.issue k e (fun x => one x n (.scal rd (BitVec.ofInt 32 (f x))))

/-- SADD. -/
def execSadd (k : Fin 8) (e : Fin 16) (sd ss : Fin 16) (s : State) : Host.Outcome State Fault Refusal :=
  .next (s.scalarOp k e 1 sd (fun x => (x.sr sd : Int) + x.sr ss))

/-- SSUB. -/
def execSsub (k : Fin 8) (e : Fin 16) (sd ss : Fin 16) (s : State) : Host.Outcome State Fault Refusal :=
  .next (s.scalarOp k e 1 sd (fun x => (x.sr sd : Int) - x.sr ss))

/-- SMOV. -/
def execSmov (k : Fin 8) (e : Fin 16) (sd ss : Fin 16) (s : State) : Host.Outcome State Fault Refusal :=
  .next (s.scalarOp k e 1 sd (fun x => x.sr ss))

/-- SADDI. -/
def execSaddi (k : Fin 8) (e : Fin 16) (o : SlOp) (s : State) : Host.Outcome State Fault Refusal :=
  .next (s.scalarOp k e 1 o.sd (fun x => (x.sr o.sa : Int) + sx 15 o.imm))

/-- SANDI. -/
def execSandi (k : Fin 8) (e : Fin 16) (o : SlOp) (s : State) : Host.Outcome State Fault Refusal :=
  .next (s.scalarOp k e 1 o.sd (fun x => ((x.sr o.sa &&& o.imm.val : Nat) : Int)))

/-- SORI. -/
def execSori (k : Fin 8) (e : Fin 16) (o : SlOp) (s : State) : Host.Outcome State Fault Refusal :=
  .next (s.scalarOp k e 1 o.sd (fun x => ((x.sr o.sa ||| o.imm.val : Nat) : Int)))

/-- SSHLI. -/
def execSshli (k : Fin 8) (e : Fin 16) (o : SlOp) (s : State) : Host.Outcome State Fault Refusal :=
  .next (s.scalarOp k e 1 o.sd (fun x => (x.sr o.sa : Int) * 2 ^ (o.imm.val % 32)))

/-- SSHRI. -/
def execSshri (k : Fin 8) (e : Fin 16) (o : SlOp) (s : State) : Host.Outcome State Fault Refusal :=
  .next (s.scalarOp k e 1 o.sd (fun x => (x.sr o.sa : Int) / 2 ^ (o.imm.val % 32)))

/-- SSRAI. -/
def execSsrai (k : Fin 8) (e : Fin 16) (o : SlOp) (s : State) : Host.Outcome State Fault Refusal :=
  .next (s.scalarOp k e 1 o.sd (fun x => sx 32 (x.sr o.sa) / 2 ^ (o.imm.val % 32)))

/-- SLUI. -/
def execSlui (k : Fin 8) (e : Fin 16) (o : SlOp) (s : State) : Host.Outcome State Fault Refusal :=
  .next (s.scalarOp k e 1 o.sd (fun x => (o.imm.val : Int) * 2 ^ 17 + (x.sr o.sa % 2 ^ 17 : Nat)))

/-- SMUL. -/
def execSmul (k : Fin 8) (e : Fin 16) (o : SlOp) (s : State) : Host.Outcome State Fault Refusal :=
  .next (s.scalarOp k e 2 o.sd (fun x => (x.sr o.sa : Int) * x.sr (o.imm.val % 16)))

/-- SADD3. -/
def execSadd3 (k : Fin 8) (e : Fin 16) (o : SlOp) (s : State) : Host.Outcome State Fault Refusal :=
  .next (s.scalarOp k e 1 o.sd (fun x => (x.sr o.sa : Int) + x.sr (o.imm.val % 16)))

/-- SSUB3. -/
def execSsub3 (k : Fin 8) (e : Fin 16) (o : SlOp) (s : State) : Host.Outcome State Fault Refusal :=
  .next (s.scalarOp k e 1 o.sd (fun x => (x.sr o.sa : Int) - x.sr (o.imm.val % 16)))

/-- BR. -/
def execBr (k : Fin 8) (e : Fin 16) (o : SlOp) (s : State) : Host.Outcome State Fault Refusal :=
  .next (s.issue k e (fun x => branchOp x true (o.imm.val % 2048)))

/-- BRZ. -/
def execBrz (k : Fin 8) (e : Fin 16) (o : SlOp) (s : State) : Host.Outcome State Fault Refusal :=
  .next (s.issue k e (fun x => branchOp x (x.sr o.sa == 0) (o.imm.val % 2048)))

/-- BRNZ. -/
def execBrnz (k : Fin 8) (e : Fin 16) (o : SlOp) (s : State) : Host.Outcome State Fault Refusal :=
  .next (s.issue k e (fun x => branchOp x (x.sr o.sa != 0) (o.imm.val % 2048)))

/-- BRNEG. -/
def execBrneg (k : Fin 8) (e : Fin 16) (o : SlOp) (s : State) : Host.Outcome State Fault Refusal :=
  .next (s.issue k e (fun x => branchOp x (decide (sx 32 (x.sr o.sa) < 0)) (o.imm.val % 2048)))

/-- The body that LC`i` would have, the next bundle through `last`, and that of the other counter, where it is not 0, lie as they must:
LC1's wholly within LC0's (R226). LC1 may also loop alone (DEDUCED, log entry 152). -/
def EngineState.nested (x : EngineState) (i last : Nat) : Bool :=
  if i = 0 then x.lc1 == 0 || (decide (x.pc + 1 ≤ x.body1.1) && decide (x.body1.2 ≤ last))
  else x.lc0 == 0 || (decide (x.body0.1 ≤ x.pc + 1) && decide (last ≤ x.body0.2))

/-- LOOP (R226). -/
def execLoop (k : Fin 8) (e : Fin 16) (o : SlOp) (s : State) : Host.Outcome State Fault Refusal :=
  .next (s.issue k e (fun x =>
    let i := o.sd.val % 2
    let last := o.imm.val % 2048
    let count := x.sr o.sa % 65536
    let lc := if i = 0 then x.lc0 else x.lc1
    if x.inDelay || x.atBodyEnd || lc != 0 || decide (last ≤ x.pc) || !x.nested i last then .error 1
    else
      let y := if i = 0 then { x with body0 := (x.pc + 1, last) } else { x with body1 := (x.pc + 1, last) }
      if x.sr o.sa = 0 then .ok ({ y with bubble := 3, target := some (last + 1) }, [])
      else one y 1 (.lc i count)))

/-- PMOV; p0 is not writable (R213). -/
def execPmov (k : Fin 8) (e : Fin 16) (o : SlOp) (s : State) : Host.Outcome State Fault Refusal :=
  .next (s.issue k e (fun x =>
    if o.sd.val % 8 = 0 then .error 1 else one x 1 (.pred (o.sd.val % 8) (BitVec.ofNat 32 (x.sr o.sa)))))

/-- SPMOV. -/
def execSpmov (k : Fin 8) (e : Fin 16) (o : SlOp) (s : State) : Host.Outcome State Fault Refusal :=
  .next (s.scalarOp k e 1 o.sd (fun x => x.pr (o.sa.val % 8)))

/-- SMODE (R231). -/
def execSmode (k : Fin 8) (e : Fin 16) (o : SlOp) (s : State) : Host.Outcome State Fault Refusal :=
  .next (s.issue k e (fun x => one x 1 (.mode (o.imm.val % 64))))

/-- SSTRIDE. -/
def execSstride (k : Fin 8) (e : Fin 16) (o : SlOp) (s : State) : Host.Outcome State Fault Refusal :=
  .next (s.issue k e (fun x => one x 1 (.stride (BitVec.ofInt 32 ((x.sr o.sa : Int) + sx 15 o.imm)))))

/-- END (R225, R227). -/
def execEnd (k : Fin 8) (e : Fin 16) (s : State) : Host.Outcome State Fault Refusal :=
  .next (s.issue k e (fun x => if x.inDelay then .error 1 else .ok ({ x with ending := true }, [])))

/-! ### Extended operations (R228, R232) -/

/-- The lane width of ES. -/
def laneWidth (o : ExtOp) : Nat := if o.es then 8 else 16

/-- An extended vector operation on lanes of ES, predicated by PD. -/
def State.extLanes (s : State) (k e n : Nat) (o : ExtOp) (f : Nat → Nat → Nat) : State :=
  s.issue k e (fun x => predVec x n o.vd o.pd
    (ofLanes (laneWidth o) (List.zipWith f (lanes (laneWidth o) (x.vr o.va)) (lanes (laneWidth o) (x.vr o.vb)))))

/-- XNOP. -/
def execXnop (k : Fin 8) (e : Fin 16) (s : State) : Host.Outcome State Fault Refusal := .next (s.issue k e (fun x => .ok (x, [])))

/-- VALU: the short operation IMM16[3:0]; code 0 is reserved. -/
def execValu (k : Fin 8) (e : Fin 16) (o : ExtOp) (s : State) : Host.Outcome State Fault Refusal :=
  let op := o.imm.val % 16
  .next (if op = 0 then s.issue k e (fun _ => .error 1)
    else s.extLanes k e (shortLatency op) o (shortLane op (laneWidth o) o.sh o.rnd))

/-- A multiply-accumulate into VD:VD+1; `val` reads a lane, `sat` narrows a 32-bit sum. -/
def State.macOp (s : State) (k e : Nat) (o : ExtOp) (val : Nat → Nat → Int) (sat : Int → Nat) : State :=
  s.issue k e (fun x =>
    if o.vd.val % 2 = 1 ∨ o.es then .error 1
    else
      let acc := pairLanes (x.vr o.vd) (x.vr (o.vd + 1 : Nat))
      let prod := List.zipWith (fun a b => val 16 a * val 16 b) (lanes 16 (x.vr o.va)) (lanes 16 (x.vr o.vb))
      let r := List.zipWith (fun a p => sat (val 32 a + p)) acc prod
      let m := laneMask (x.pr o.pd)
      .ok (x, [(3, .vec o.vd (ofLanes 16 (r.map (· % 65536))) m), (3, .vec (o.vd + 1 : Nat) (ofLanes 16 (r.map (· / 65536))) m)]))

/-- VMAC. -/
def execVmac (k : Fin 8) (e : Fin 16) (o : ExtOp) (s : State) : Host.Outcome State Fault Refusal :=
  .next (s.macOp k e o sx (satS 32))

/-- VMACU. -/
def execVmacu (k : Fin 8) (e : Fin 16) (o : ExtOp) (s : State) : Host.Outcome State Fault Refusal :=
  .next (s.macOp k e o (fun _ v => v) (satU 32))

/-- A narrowing of the lane pair VA:VA+1. -/
def State.narrowOp (s : State) (k e : Nat) (o : ExtOp) (f : Int → Nat) : State :=
  s.issue k e (fun x =>
    if o.va.val % 2 = 1 ∨ o.es then .error 1
    else predVec x 2 o.vd o.pd
      (ofLanes 16 ((pairLanes (x.vr o.va) (x.vr (o.va + 1 : Nat))).map (fun v => f (rndShift (sx 32 v) o.sh o.rnd)))))

/-- VNARROW. -/
def execVnarrow (k : Fin 8) (e : Fin 16) (o : ExtOp) (s : State) : Host.Outcome State Fault Refusal :=
  .next (s.narrowOp k e o (satS 16))

/-- VNARROWU. -/
def execVnarrowu (k : Fin 8) (e : Fin 16) (o : ExtOp) (s : State) : Host.Outcome State Fault Refusal :=
  .next (s.narrowOp k e o (clampNat o.imm))

/-- VMULR. -/
def execVmulr (k : Fin 8) (e : Fin 16) (o : ExtOp) (s : State) : Host.Outcome State Fault Refusal :=
  .next (s.extLanes k e 3 o (fun a b => satS (laneWidth o) (rndShift (sx (laneWidth o) a * sx (laneWidth o) b) o.sh o.rnd)))

/-- VMULRU. -/
def execVmulru (k : Fin 8) (e : Fin 16) (o : ExtOp) (s : State) : Host.Outcome State Fault Refusal :=
  .next (s.extLanes k e 3 o (fun a b => clampNat (min o.imm (2 ^ (laneWidth o) - 1)) (rndShift ((a : Int) * b) o.sh o.rnd)))

/-- VSPLAT. -/
def execVsplat (k : Fin 8) (e : Fin 16) (o : ExtOp) (s : State) : Host.Outcome State Fault Refusal :=
  .next (s.issue k e (fun x => predVec x 1 o.vd o.pd (ofLanes (laneWidth o) (List.replicate (512 / (laneWidth o)) o.imm.val))))

/-- The condition of vcmp on lanes of `w` bits (R228). -/
def cmpLane (w cond a b : Nat) : Bool :=
  match cond with
  | 0 => a == b
  | 1 => a != b
  | 2 => decide (sx w a < sx w b)
  | 3 => decide (sx w a ≤ sx w b)
  | 4 => decide (a < b)
  | _ => decide (a ≤ b)

/-- VCMP (R228, R232). -/
def execVcmp (k : Fin 8) (e : Fin 16) (o : ExtOp) (s : State) : Host.Outcome State Fault Refusal :=
  .next (s.issue k e (fun x =>
    let cond := o.sh.val % 8
    if o.vd.val % 8 = 0 ∨ 6 ≤ cond then .error 1
    else
      let r := List.zipWith (cmpLane (laneWidth o) cond) (lanes (laneWidth o) (x.vr o.va)) (lanes (laneWidth o) (x.vr o.vb))
      let bits := (upto 32).map (fun i => bitOf (x.pr o.pd) i &&
        (if o.es then nth false r (2 * i) && nth false r (2 * i + 1) else nth false r i))
      one x 2 (.pred (o.vd.val % 8) (BitVec.ofNat 32 (bits.foldr (fun b acc => b2n b + 2 * acc) 0)))))

/-- VSEL: all lanes are written. -/
def execVsel (k : Fin 8) (e : Fin 16) (o : ExtOp) (s : State) : Host.Outcome State Fault Refusal :=
  .next (s.issue k e (fun x =>
    let m := laneMask (x.pr o.pd)
    one x 2 (.vec o.vd ((x.vr o.va &&& m) ||| (x.vr o.vb &&& ~~~m)) (laneMask 0xFFFFFFFF))))

/-- The reduction of vred over 16-bit lanes (R228): the smallest of a list, or `d` for none. -/
def leastOf (d : Int) (l : List Int) : Int :=
  match l with
  | [] => d
  | a :: rest => rest.foldl min a

/-- VRED (R228): over the 16-bit lanes whose PD bit is 1. -/
def execVred (k : Fin 8) (e : Fin 16) (o : ExtOp) (s : State) : Host.Outcome State Fault Refusal :=
  .next (s.issue k e (fun x =>
    if 16 ≤ o.vd.val then .error 1
    else
      let ls := ((lanes 16 (x.vr o.va)).zip (upto 32)).filter (fun p => bitOf (x.pr o.pd) p.2)
      let sg := ls.map (fun p => sx 16 p.1)
      let r : Nat := match o.sh.val % 4 with
        | 0 => satS 32 sg.sum
        | 1 => tc 32 (leastOf 32767 sg)
        | 2 => tc 32 (-(leastOf 32768 (sg.map (fun v => -v))))
        | _ => satU 32 ((ls.map (fun p => (p.1 : Int))).sum)
      one x 5 (.scal o.vd (BitVec.ofNat 32 r))))

/-- VPERM. -/
def execVperm (k : Fin 8) (e : Fin 16) (o : ExtOp) (s : State) : Host.Outcome State Fault Refusal :=
  .next (s.issue k e (fun x =>
    let a := lanes (laneWidth o) (x.vr o.va)
    predVec x 2 o.vd o.pd (ofLanes (laneWidth o) ((lanes (laneWidth o) (x.vr o.vb)).map (fun i => nth 0 a (i % (512 / (laneWidth o))))))))

/-- VEXT. -/
def execVext (k : Fin 8) (e : Fin 16) (o : ExtOp) (s : State) : Host.Outcome State Fault Refusal :=
  .next (s.issue k e (fun x =>
    let n := o.imm.val % 64
    if 512 / (laneWidth o) ≤ n then .error 1
    else predVec x 2 o.vd o.pd
      (ofLanes (laneWidth o) (slice (lanes (laneWidth o) (x.vr o.va) ++ lanes (laneWidth o) (x.vr o.vb)) n (512 / (laneWidth o))))))

/-- VABSD. -/
def execVabsd (k : Fin 8) (e : Fin 16) (o : ExtOp) (s : State) : Host.Outcome State Fault Refusal :=
  .next (s.extLanes k e 2 o (fun a b => max a b - min a b))

/-! ### Queue access and output (R234-R241) -/

/-- The queue of QSEL for a task of context `x`, a band task or a control task, or fault cause 4 (R234). -/
def State.qselQueue (s : State) (k x : Nat) (band : Bool) (qsel : Nat) : Except Nat Nat :=
  match qsel with
  | 0 => .ok (s.hdr k x 0x004 20 10)
  | 1 => if band then .ok (s.hdr k x 0x004 10 10) else .error 4
  | _ => .error 4

/-- QLEN (R235). -/
def execQlen (k : Fin 8) (e : Fin 16) (o : CtlOp) (s : State) : Host.Outcome State Fault Refusal :=
  .next (s.issue k e (fun x =>
    match s.qselQueue k x.ctx (s.inBand k x.task) o.qsel with
    | .error c => .error c
    | .ok q => one x 2 (.scal o.sd (BitVec.ofNat 32 (s.q q).udepth))))

/-- QPOP (R199, R236). -/
def execQpop (k : Fin 8) (e : Fin 16) (o : CtlOp) (s : State) : Host.Outcome State Fault Refusal :=
  let x := s.eng k e
  .next (if !x.canIssue then s
    else
      match s.qselQueue k x.ctx (s.inBand k x.task) o.qsel with
      | .error c => s.engFault k e c
      | .ok q =>
        if 0x20000 < x.sr o.sa + x.sr o.sb then s.engFault k e 2
        else
        let s := s.when (s.popAllowed q (18 + k)) (·.useList q [.head q])
        if !(s.q q).canClaim then
          let s := (s.popFor q (18 + k) (e + 1)).cancelPop q
          ((s.inc (CLU.QREAD_ABORT_CNT k)).dev (35 + k)).abortTask k x.task 2 4096
        else
          (s.popFor q (18 + k) (e + 1)).setEng k e { x with
            phase := .waiting, wait := some { queue := q, addr := x.sr o.sa, limit := x.sr o.sb, sd := o.sd } })

/-- The status word of R237. -/
def statusWord (trunc ue cut : Bool) (kind : ItemKind) (len : Nat) : Nat :=
  b2n trunc * 2 ^ 31 + b2n ue * 2 ^ 30 + kind.code * 2 ^ 28 + b2n cut * 2 ^ 27 + len % 65536

/-- QPOP_RESUME (R163, R164, R237): the item's read, which meets the errors `v.err`, has completed, or a flush or reset has cut it after
`v.got` bytes. -/
def execQpopResume (k : Fin 8) (e : Fin 16) (v : QueueData) (s : State) : Host.Outcome State Fault Refusal :=
  let x := s.eng k e
  .next (match x.wait with
    | none => s
    | some w =>
      match (s.readOn w.queue (e + 1) v.err).takeOwned w.queue (e + 1) with
      | none => s
      | some (d, s) =>
        let avail := if d.cut then min v.got d.bytes.length else d.bytes.length
        let bs := d.bytes.take (min avail w.limit)
        let (s, ue) := s.cutErrs d avail v.err
        let word := statusWord (decide (w.limit < d.bytes.length)) (ue != 0) d.cut d.kind (if d.cut then bs.length else avail)
        let s := s.modCl k (fun c => { c with lmem := Memory.write c.lmem (0x20000 * e + w.addr) bs })
        let s := s.cluUe k x.task ue
        s.setEng k e { x with
          phase := .running, wait := none, flight := x.flight ++ [{ issue := x.t, left := 1, dst := .scal w.sd (BitVec.ofNat 32 word) }] })

/-- How many lines the outlet of cluster `k` assembles (R175, R240). -/
def State.linesAsm (s : State) (k : Nat) : Nat := ((s.cl k).tasks.flatMap (·.asm)).length

/-- EMIT (R239, R240, R244). -/
def execEmit (k : Fin 8) (e : Fin 16) (o : CtlOp) (s : State) : Host.Outcome State Fault Refusal :=
  let x := s.eng k e
  let line := x.sr o.sa % 65536
  let addr := x.sr o.sb
  let len := x.sr o.sc
  .next (if !x.canIssue then s
    else
      match s.task k x.task with
      | none => s
      | some t =>
        let cur := t.asm.find? (fun l => l.line == line)
        let l := cur.getD { line := line, segs := [], size := 0 }
        if 0x20000 < addr + len then s.engFault k e 2
        else if !t.isBand || (cur.isNone && (decide (4 ≤ s.linesAsm k) || t.done.contains line)) || l.segs.any (fun p => p.1 == e.val) || decide (16376 < l.size + len) then
          s.engFault k e 5
        else
          let l' : LineAsm := { l with segs := l.segs ++ [(e.val, none)], size := l.size + len }
          let s := s.modTask k x.task (fun t => { t with
            asm := if cur.isNone then t.asm ++ [l'] else t.asm.map (fun y => if y.line = line then l' else y) })
          s.issue k e (fun x => .ok ({ x with memBusy := if len = 0 then x.memBusy else max x.memBusy (x.t + (len + 63) / 64) }, [(1, .segment line addr len [])])))

/-- EMIT_LINE_WRITE (R202, R239): every engine of the mask has emitted line `line` of task `idx`. -/
def execEmitLineWrite (k : Fin 8) (idx line : Nat) (s : State) : Host.Outcome State Fault Refusal :=
  .next (match s.task k idx with
    | none => s
    | some t =>
      match t.asm.find? (fun l => l.line == line) with
      | none => s
      | some l =>
        let es := (upto 16).filter (bitOf t.mask)
        let segs := es.map (fun e => (l.segs.find? (fun p => p.1 == e)).bind (·.2))
        if t.phase ≠ .run ∨ segs.any (·.isNone) then s
        else
          let f := t.flags
          let tag := line * 2 ^ 48 + s.ctxFrame k t.ctx % 65536 * 2 ^ 32 + s.hdr k t.ctx 0x010 0 13 * 2 ^ 16
            + 32 * b2n (bitOf f 9) + 16 * b2n (bitOf f 7) + 8 * b2n (bitOf f 6) + 4 * b2n (bitOf f 1) + b2n (bitOf f 8)
          let s := s.modTask k idx (fun t => { t with asm := t.asm.filter (fun l => l.line != line), done := line :: t.done, linesOut := t.linesOut + 1 })
          s.push (s.hdr k t.ctx 0x004 0 10) (18 + k) (leBytes 8 tag ++ segs.flatMap (·.getD [])))

/-- A front-end offset a control-write record may name (R205). -/
def ctrlOffsetOk (cam ofs : Nat) : Bool :=
  let a := 0x10200000 + 0x10000 * cam + ofs
  (feShadowed cam).contains a || a == FE.SHADOW_TGT cam || a == FE.SHADOW_CTL cam

/-- The checks of R206 on a record of context `x`: it is refused. -/
def State.ctrlRefused (s : State) (k x : Nat) (r : CtrlRec) : Bool :=
  let cam := s.hdr k x 0x000 24 5
  s.hdr k x 0x000 29 1 == 0 ||
    (match r.tgt with
     | 0 => !ctrlOffsetOk cam r.ofs
     | 1 => decide (5 ≤ r.ofs % 8)
     | 2 => !([0x40, 0x41, 0x42, 0x60].contains (r.data % 256)) || decide (16 ≤ cam)
     | 3 => r.ofs % 8 != x && r.ofs % 8 != s.hdr k x 0x000 21 3
     | _ => true)

/-- CTRL_REF or CTRL_DROP counted for a record of context `x`; after a lost TGT 0x1 record the next submission is lost the
same way (R206, R207). -/
def State.ctrlLost (s : State) (k x : Nat) (refused : Bool) (tgt : Nat) : State :=
  let s := if refused then (s.inc (CLU.CTRL_REF_CNT k)).setBit (CLU.EVT k) 6 else (s.inc (CLU.CTRL_DROP_CNT k)).setBit (CLU.EVT k) 5
  if tgt = 1 then s.modCl k (fun c => { c with skipSubmit := c.skipSubmit.filter (fun p => p.1 != x) ++ [(x, refused)] }) else s

/-- CTRLW (R205-R207, R241). -/
def execCtrlw (k : Fin 8) (e : Fin 16) (o : CtlOp) (s : State) : Host.Outcome State Fault Refusal :=
  let x := s.eng k e
  let hi := x.sr o.sa
  let r : CtrlRec := { ctx := x.ctx, tgt := hi / 2 ^ 28, ofs := hi % 65536, data := x.sr o.sb }
  .next (if !x.canIssue then s
    else
      let skip := if r.tgt = 2 then (s.cl k).skipSubmit.find? (fun p => p.1 == x.ctx) else none
      let s := s.when skip.isSome (·.modCl k (fun c => { c with skipSubmit := c.skipSubmit.filter (fun p => p.1 != x.ctx) }))
      if s.ctrlRefused k x.ctx r then s.ctrlLost k x.ctx true r.tgt
      else
        match skip with
        | some p => s.ctrlLost k x.ctx p.2 2
        | none =>
          if 32 ≤ (s.cl k).fifo.length then s.ctrlLost k x.ctx false r.tgt
          else s.modCl k (fun c => { c with fifo := c.fifo ++ [r] }))

/-- The bundle that engine `e` of cluster `k` issues, from the active half of its instruction memory (R178, R218); its words
lie little-endian there (DEDUCED, log entry 33). Past the half it is all zero (R219). -/
def State.bundleAt (s : State) (k e : Nat) : Nat :=
  if (s.eng k e).past then 0
  else le (Memory.read (s.cl k).imem (0x8000 * e + 0x4000 * (s.cl k).imemAct + 8 * (s.eng k e).pc) 8)

/-- RESULT_WRITEBACK (R219, R242, R243): the end of an engine cycle. A reserved operation code in the bundle it issued is
fault cause 1. -/
def execResultWriteback (k : Fin 8) (e : Fin 16) (s : State) : Host.Outcome State Fault Refusal :=
  .next ((s.when ((s.eng k e).canIssue && bundleReserved (s.bundleAt k e)) (·.engFault k e 1)).engCycle k e)

end Sys2Proof.Machine
end

