-- ==== Sys2Proof/Machine/Cluster.lean ====
section
/-! DEFINITION. Engine clusters (spec/05_engine_clusters.md): tasks, the intake, the watchdog, output items, commits and
control-write delivery. A task is named by its index in the cluster table, plus 1024 where the table is the old set's (R363). -/

namespace Sys2Proof.Machine

/-! ### Band geometry (R189) and tiles (R217) -/

/-- H_IN, REACH_UP, REACH_DN and BANDS of context `x`. -/
def State.bandGeom (s : State) (k x : Nat) : Nat × Nat × Nat × Nat :=
  (s.hdr k x 0x00C 24 8, s.hdr k x 0x00C 16 8, s.hdr k x 0x00C 8 8, s.hdr k x 0x00C 0 8)

/-- H of context `x`: input lines per frame. -/
def State.ctxH (s : State) (k x : Nat) : Nat := s.hdr k x 0x008 16 13

/-- The last line of the own range of band `b` (R189). -/
def State.ownLast (s : State) (k x b : Nat) : Nat :=
  let (hin, _, _, _) := s.bandGeom k x
  min (s.ctxH k x - 1) (b * hin + hin - 1)

/-- lo of band `b` (R189). -/
def State.winLo (s : State) (k x b : Nat) : Nat :=
  let (hin, up, _, _) := s.bandGeom k x
  b * hin - up

/-- hi of band `b` (R189). -/
def State.winHi (s : State) (k x b : Nat) : Nat :=
  let (hin, _, dn, _) := s.bandGeom k x
  min (s.ctxH k x - 1) (b * hin + hin - 1 + dn)

/-- Band `b` is the last of the frame. -/
def State.lastBand (s : State) (k x b : Nat) : Bool :=
  let (_, _, _, bands) := s.bandGeom k x
  b + 1 == bands

/-- N of R217. -/
def State.winRows (s : State) (k x : Nat) : Nat :=
  let (hin, up, dn, _) := s.bandGeom k x
  hin + up + dn

/-- The tile row pitch P of engine `e` (R217). -/
def State.pitch (s : State) (k x e : Nat) : Nat :=
  let w := s.hdr k x (0x040 + 4 * e) 16 13 + 1 - s.hdr k x (0x040 + 4 * e) 0 13
  64 * ((2 * w + 63) / 64)

/-- The pixels of a line item (R122). -/
def itemPixels (bs : List Byte) : List Nat :=
  let w := le (slice bs 2 2)
  let d := bs.drop 8
  (upto w).map (fun i => le (slice d (3 * (i / 2)) 3) / 4096 ^ (i % 2) % 4096)

/-- A taken line written into the tiles of the task's engines (R190, R217). -/
def State.storeLine (s : State) (k : Nat) (t : TaskState) (line : Nat) (bs : List Byte) : State :=
  let px := itemPixels bs
  s.each ((upto 16).filter (bitOf t.mask)) (fun s e =>
    let x0 := s.hdr k t.ctx (0x040 + 4 * e) 0 13
    let x1 := s.hdr k t.ctx (0x040 + 4 * e) 16 13
    let p := s.pitch k t.ctx e
    let row := padTo 64 ((upto (x1 + 1 - x0)).flatMap (fun j => leBytes 2 (nth 0 px (x0 + j))))
    s.modCl k (fun c => { c with lmem := Memory.write c.lmem (0x20000 * e + line % s.winRows k t.ctx * p) row }))

/-- The line of `taken` nearest to `w`, the one above at equal distance (R195). -/
def nearestLine (taken : List Nat) (w : Nat) : Nat :=
  let dist := fun (l : Nat) => 2 * (max l w - min l w) + (if w < l then 1 else 0)
  match taken with
  | [] => 0
  | a :: rest => rest.foldl (fun best l => if dist l < dist best then l else best) a

/-- The line map of a band task (R195, R217). -/
def State.lineMap (s : State) (k : Nat) (t : TaskState) : List Byte :=
  let (hin, up, _, _) := s.bandGeom k t.ctx
  let n := s.winRows k t.ctx
  let taken := t.taken.map (·.1)
  (upto n).flatMap (fun j => leBytes 2 (nearestLine taken (mirror ((t.band * hin + j : Nat) - (up : Int)) (s.ctxH k t.ctx)) % n))

/-! ### Task start (R181, R185, R193, R204, R212) -/

/-- The cluster table entry of task `idx`, where it is executed now (R363). -/
def State.taskEntry (s : State) (k idx : Nat) : Option Entry :=
  let old := decide (1024 ≤ idx)
  ((nth [] (s.tableSet old).cluster k)[idx % 1024]?).filter (fun e => s.entryNow (35 + k) old e.slot e.carry)

/-- The start edge of task `idx` of cluster `k`. -/
def State.taskStart (s : State) (k idx : Nat) : State :=
  match s.taskEntry k idx with
  | none => s
  | some en =>
    if (s.cl k).svc ≠ 3 ∨ (s.task k idx).isSome then s
    else
      let halt := s.bit (CLU.CTL k) 0
      let x := fld en.w2 16 3
      let t : TaskState := { idx := idx, ctx := x, mask := fld en.w2 0 16, band := fld en.w2 24 8, isBand := en.op == 1, entry := fld en.w3 0 11 }
      let s := s.modCl k (fun c => { c with halted := halt, tasks := c.tasks ++ [t] })
      let s := s.wr (CLU.TASK k) (2 ^ 31 + x * 2 ^ 24 + t.band * 2 ^ 16 + idx % 1024)
      if halt then s.abortTask k idx 1 4
      else
        let s := s.when (t.band == 0) (·.applyCommit k x)
        let s := s.when t.isBand (fun s => s.modTask k idx (fun t => { t with carryLeft := (s.q (s.hdr k x 0x004 10 10)).udepth }))
        s.each ((upto 16).filter (bitOf t.mask)) (fun s e =>
          s.setEng k e { task := idx, ctx := x, flight := (s.eng k e).flight.filter (fun f => match f.dst with
            | .store _ _ => true
            | _ => false) })

/-! ### The intake (R191-R195, R204) -/

/-- The carry queue and the input queue of a context. -/
def State.carryQ (s : State) (k x : Nat) : Nat := s.hdr k x 0x004 10 10

/-- IN_Q. -/
def State.inQ (s : State) (k x : Nat) : Nat := s.hdr k x 0x004 20 10

/-- The intake still wants an item: from which queue, and whether it is the carry queue (R193, R204). -/
def State.intakeQueue (s : State) (k : Nat) (t : TaskState) : Option (Nat × Bool) :=
  if t.phase ≠ .gather then none
  else if t.isBand then
    if t.carryLeft ≠ 0 then some (s.carryQ k t.ctx, true)
    else if t.stopped || decide (s.winHi k t.ctx t.band < s.cst k t.ctx 0x004 0 16) then none
    else some (s.inQ k t.ctx, false)
  else if t.item.isSome then none else some (s.inQ k t.ctx, false)

/-- A stale item (R194). -/
def State.stale (s : State) (k : Nat) : State := (s.inc (CLU.STALE_CNT k)).setBit (CLU.EVT k) 10

/-- An item pushed to the carry queue (R191). -/
def State.carry (s : State) (k x : Nat) (bs : List Byte) : State := s.push (s.carryQ k x) (18 + k) bs

/-- An item held back: gathering stops and the item goes to the carry queue (R191, R194). -/
def State.holdBack (s : State) (k : Nat) (t : TaskState) (bs : List Byte) : State :=
  (s.modTask k t.idx (fun t => { t with stopped := true })).carry k t.ctx bs

/-- NEXT_LINE set. -/
def State.setE (s : State) (k x e : Nat) : State := s.setCst k x 0x004 0 16 e

/-- The frame opens in context `x` with number `f` (R194). -/
def State.openCtx (s : State) (k x f : Nat) : State :=
  (((s.setCtxWord k x 0x1000 f).setE k x 0).setCst k x 0x004 31 1 1).setCst k x 0x004 30 1 0

/-- A line taken: its tag flags, its place in local memory and its carry (R190, R191, R195). -/
def State.takeLine (s : State) (k : Nat) (t : TaskState) (line : Nat) (bs : List Byte) : State :=
  let tag := (nth 0 bs 0).toNat
  let fl := 64 * b2n (bitOf tag 3) + 128 * b2n (bitOf tag 4) + 256 * b2n (bitOf tag 0) + 512 * b2n (bitOf tag 5)
  let s := s.modTask k t.idx (fun t => { t with taken := t.taken ++ [(line, bs)], flags := t.flags ||| fl })
  let s := s.storeLine k t line bs
  s.when (!s.lastBand k t.ctx t.band && decide (s.winLo k t.ctx (t.band + 1) ≤ line)) (·.carry k t.ctx bs)

/-- The line rows of R194 once the frame is open. -/
def State.intakeLine (s : State) (k : Nat) (t : TaskState) (fromCarry : Bool) (line num : Nat) (bs : List Byte) : State :=
  let lo := s.winLo k t.ctx t.band
  let hi := s.winHi k t.ctx t.band
  let e := s.cst k t.ctx 0x004 0 16
  if !s.ctxOpen k t.ctx || num != s.ctxFrame k t.ctx % 65536 then s.stale k
  else if fromCarry && decide (line < lo) then s
  else if fromCarry && decide (line < e) then s.takeLine k t line bs
  else if line < e then s.stale k
  else if line < lo then s.setE k t.ctx (line + 1)
  else if line ≤ hi then (s.takeLine k t line bs).setE k t.ctx (line + 1)
  else if s.lastBand k t.ctx t.band then s.stale k
  else (s.setE k t.ctx (hi + 1)).holdBack k t bs

/-- A band task's intake handles an item (R192, R194). -/
def State.intakeBand (s : State) (k : Nat) (t : TaskState) (fromCarry : Bool) (d : Delivered) : State :=
  let bs := d.bytes
  let x := t.ctx
  let num := be (bs.take 4)
  let code := (nth 0 bs 31).toNat
  if d.kind ≠ .data then (s.inc (CLU.MARKER_CNT k)).taskFlags k t.idx 2
  else if bs.length = 32 ∧ code = 1 then
    if !s.ctxOpen k x then
      if t.band = 0 then (s.openCtx k x num).modTask k t.idx (fun t => { t with openItem := some bs })
      else s.holdBack k t bs
    else if num = s.ctxFrame k x then s.stale k
    else (s.setE k x (s.winHi k x t.band + 1)).holdBack k t bs
  else if bs.length = 32 ∧ code = 2 then
    if s.ctxOpen k x && num == s.ctxFrame k x then
      let s := s.modCl k (fun c => { c with ctx := Memory.write c.ctx (0x10000 * x + 0x1100) bs })
      (s.setCst k x 0x004 30 1 1).setCst k x 0x008 16 16 (be (slice bs 4 2))
    else s.stale k
  else if bs.length = 32 then s.stale k
  else
    let line := le (slice bs 6 2)
    let n16 := le (slice bs 4 2)
    let lost := !s.ctxOpen k x && t.band == 0 && n16 == (s.ctxFrame k x + 1) % 65536
    let s := if lost then (s.openCtx k x ((s.ctxFrame k x + 1) % 2 ^ 32)).taskFlags k t.idx 1024 else s
    s.intakeLine k t fromCarry line n16 bs

/-- The intake of task `idx` takes one item (R193, R194, R204). -/
def State.intakeTake (s : State) (k idx : Nat) : State :=
  match s.task k idx with
  | none => s
  | some t =>
    match s.intakeQueue k t with
    | none => s
    | some (q, fromCarry) =>
      match s.popTake q (18 + k) (!t.wdPassed) with
      | (none, s) => s
      | (some d, s) =>
        if d.cut then s
        else
          let s := s.cluUe k idx d.ue
          if t.isBand then
            let s := s.when fromCarry (·.modTask k idx (fun t => { t with carryLeft := t.carryLeft - 1 }))
            s.intakeBand k t fromCarry d
          else s.modTask k idx (fun t => { t with item := some d })

/-- The slot watchdog of task `idx` (R196). -/
def State.taskWatchdog (s : State) (k idx : Nat) : State :=
  match s.task k idx with
  | none => s
  | some t =>
    let s := match s.intakeQueue k t with
      | some (q, _) =>
        if (s.q q).stall = 0 then s
        else (((s.cancelPop q).inc (CLU.WD_CNT k)).dev (35 + k)).taskFlags k idx 4
      | none => s
    s.modTask k idx (fun t => { t with wdPassed := true })

/-! ### Program start and task end (R182, R195, R197, R200-R204, R214) -/

/-- The registers of R214 at program start; `t0` is the engine cycle. -/
def State.startEngine (s : State) (k : Nat) (t : TaskState) (t0 e : Nat) : State :=
  let (hin, up, _, _) := s.bandGeom k t.ctx
  let p := s.pitch k t.ctx e
  let w := fun (n : Nat) => BitVec.ofNat 32 n
  let set := fun (l : List (Nat × Word)) => l.foldl (fun m q => Map.set 0 m q.1 q.2) ([] : Map Word)
  let base := [(15, w (s.ctxFrame k t.ctx))]
  let regs := if t.isBand then
      base ++ [(14, w (e + 16 * t.ctx + 128 * b2n (s.lastBand k t.ctx t.band) + 256 * t.band + 65536 * t.flags)), (13, w 0x1FE00),
        (11, w p), (10, BitVec.ofInt 32 ((t.band * hin : Nat) - (up : Int)))]
    else base ++ [(14, w (e + 16 * t.ctx)), (12, w (s.hdr k t.ctx 0x014 0 17))]
  s.setEng k e { phase := .running, task := t.idx, ctx := t.ctx, pc := t.entry, t := t0, s := set regs, flight := (s.eng k e).flight, stride := if t.isBand then w p else 0 }

/-- The lowest engine of a mask. -/
def lowestEngine (mask : Nat) : Nat := ((upto 16).find? (bitOf mask)).getD 0

/-- The item of a control task delivered at DEST, with its status word before it (R204). -/
def State.deliverControl (s : State) (k : Nat) (t : TaskState) (d : Delivered) : State :=
  let dest := s.hdr k t.ctx 0x014 0 17
  let e := lowestEngine t.mask
  let bs := d.bytes.take (0x20000 - dest)
  let word := statusWord (decide (bs.length < d.bytes.length)) (d.ue != 0) false d.kind d.bytes.length
  let put := fun (m : Memory) => Memory.write (Memory.writeWord m (0x20000 * e + dest - 4) word) (0x20000 * e + dest) bs
  s.modCl k (fun c => { c with lmem := put c.lmem })

/-- The output frame-open of band 0 (R201). The exposure set of a frame whose frame-open was lost is open. -/
def State.outOpen (s : State) (k : Nat) (t : TaskState) : State :=
  let w := s.hdr k t.ctx 0x010 0 13
  let h := s.hdr k t.ctx 0x010 16 13
  let q := s.hdr k t.ctx 0x004 0 10
  match t.openItem with
  | some bs => s.push q (18 + k) (bs.take 14 ++ beBytes 2 w ++ beBytes 2 h ++ bs.drop 18)
  | none =>
    let (v, s) := s.fresh
    s.push q (18 + k) (frameOpenItem (s.ctxFrame k t.ctx) 0 w h v)

/-- What a task has gathered is judged, at the edge of slot start + WD + 1 (R195, R197, R204). -/
def State.programStart (s : State) (k idx t0 : Nat) : State :=
  match s.task k idx with
  | none => s
  | some t =>
    if t.phase ≠ .gather then s
    else
      let s := match s.intakeQueue k t with
        | some (q, _) =>
          if (s.q q).items.any (fun i => i.claimed && i.owner == 0) then
            (((s.discardOwned q 0).inc (CLU.LATE_ITEM_CNT k)).dev (35 + k)).taskFlags k idx 4
          else s
        | none => s
      if !t.isBand then
        match t.item with
        | none => s.abortTask k idx 1 4
        | some d =>
          let s := (s.deliverControl k t d).modTask k idx (fun t => { t with phase := .run })
          s.each ((upto 16).filter (bitOf t.mask)) (fun s e => s.startEngine k t t0 e)
      else
        let x := t.ctx
        let ownLo := t.band * (s.bandGeom k x).1
        let own := s.ownLast k x t.band
        if s.cst k x 0x004 0 16 ≤ own then s.abortTask k idx 1 4
        else
          let lines := t.taken.map (·.1)
          let lo := s.winLo k x t.band
          let missing := (slice (upto (s.winHi k x t.band + 1)) lo (s.winHi k x t.band + 1)).filter (fun l => !lines.contains l)
          let absent := (missing.filter (fun l => decide (ownLo ≤ l) && decide (l ≤ own))).length
          let s := s.incBy (CLU.ABSENT_LINE_CNT k) absent
          let s := s.setCst k x 0x010 0 16 (min 0xFFFF (s.cst k x 0x010 0 16 + absent))
          let s := s.modTask k idx (fun t => { t with absentOwn := absent })
          if absent = own + 1 - ownLo then s.modTask k idx (fun t => { t with phase := .idle, flags := t.flags ||| 1 })
          else
            let s := s.when (!missing.isEmpty) (·.taskFlags k idx 2)
            let s := s.modTask k idx (fun t => { t with phase := .run })
            let s := s.when (t.band == 0) (·.outOpen k t)
            let map := s.lineMap k t
            let t' := (s.task k idx).getD t
            s.each ((upto 16).filter (bitOf t.mask)) (fun s e =>
              (s.modCl k (fun c => { c with lmem := Memory.write c.lmem (0x20000 * e + 0x1FE00) map })).startEngine k t' t0 e)

/-- The band-close item (R202). -/
def bandCloseItem (f band lines flags absent k x : Nat) : List Byte :=
  beBytes 4 f ++ beBytes 2 band ++ beBytes 2 lines ++ beBytes 2 flags ++ beBytes 2 absent ++ beBytes 1 k ++ beBytes 1 x ++ beBytes 2 0

/-- The output frame-close, and the context's return to no open frame (R203). -/
def State.outClose (s : State) (k x : Nat) : State :=
  let seen := s.cst k x 0x004 30 1 == 1
  let missing := s.cst k x 0x00C 16 16
  let gaps := s.cst k x 0x00C 0 16
  let fc := if seen then Memory.read (s.cl k).ctx (0x10000 * x + 0x1100) 14 else beBytes 4 (s.ctxFrame k x) ++ List.replicate 10 0
  let fl := be (slice fc 4 2) ||| (if missing ≠ 0 then 8 else 0) ||| (if gaps ≠ 0 ∨ !seen then 16 else 0)
  let item := fc.take 4 ++ beBytes 2 fl ++ fc.drop 6 ++ beBytes 2 missing ++ beBytes 2 gaps ++ beBytes 2 (s.cst k x 0x010 0 16)
    ++ List.replicate 11 0 ++ [2]
  let s := s.push (s.hdr k x 0x004 0 10) (18 + k) item
  let s := (((s.setCst k x 0x004 30 2 0).setE k x 0).setCtxWord k x 0x1008 0).setCtxWord k x 0x100C 0
  s.setCst k x 0x010 0 16 0

/-- The band-close of task `t`, and the frame-close after the last band's (R201-R203). -/
def State.bandClose (s : State) (k : Nat) (t : TaskState) : State :=
  let x := t.ctx
  let last := s.lastBand k x t.band
  let fl := t.flags ||| (if last && s.cst k x 0x004 30 1 == 0 then 2048 else 0)
  let s := s.when (bitOf fl 0) (fun s =>
    (s.inc (CLU.MISSING_BAND_CNT k)).setCst k x 0x00C 16 16 (min 0xFFFF (s.cst k x 0x00C 16 16 + 1)))
  let s := s.when (bitOf fl 1) (fun s =>
    ((s.inc (CLU.GAP_BAND_CNT k)).setBit (CLU.EVT k) 1).setCst k x 0x00C 0 16 (min 0xFFFF (s.cst k x 0x00C 0 16 + 1)))
  let s := s.setCst k x 0x008 0 16 (s.cst k x 0x008 0 16 ||| fl)
  let s := s.push (s.hdr k x 0x004 0 10) (18 + k)
    (bandCloseItem (s.ctxFrame k x) t.band (min 0xFFFF t.linesOut) fl (min 0xFFFF t.absentOwn) k x)
  if last then s.outClose k x else s

/-- The end edge of task `idx` (R182, R201). -/
def State.taskEnd (s : State) (k idx : Nat) : State :=
  match s.task k idx with
  | none => s
  | some t =>
    let late := t.phase == .run && (upto 16).any (fun e => bitOf t.mask e && !(s.eng k e).ended)
    let s := s.stopEngines k t.mask
    let s := s.when late (fun s =>
      ((((s.inc (CLU.OVERRUN_CNT k)).setBit (CLU.EVT k) 3).dev (35 + k)).logAbort k t 4).taskFlags k idx 16)
    let t := (s.task k idx).getD t
    let s := s.modCl k (fun c => { c with tasks := c.tasks.filter (fun t => t.idx != idx), halted := s.bit (CLU.CTL k) 0 })
    let s := s.when ((s.cl k).tasks.isEmpty) (fun s => s.clrBit (CLU.TASK k) 31)
    s.when t.isBand (·.bandClose k t)

/-! ### Commits, debug halt and control writes (R184-R187, R205-R208, R212) -/

/-- A write of CLU.CTX_COMMIT (R186, R212). -/
def State.ctxCommit (s : State) (k v : Nat) : State :=
  let s := s.plainWrite (CLU.CTX_COMMIT k) (v % 256)
  if bitOf v 8 then s.commit k (v % 8) (if bitOf v 4 then some (s.rd (CLU.CTX_TGT k)) else none) else s

/-- A write of CLU.CTL (R212). -/
def State.cluCtl (s : State) (k v : Nat) : State :=
  if s.mode == 6 then s.plainWrite (CLU.CTL k) v else s.setBit (CLU.EVT k) 8

/-- The oldest record of the control-write FIFO is delivered (R205, R208). -/
def State.ctrlDeliver (s : State) (k : Nat) : State :=
  match (s.cl k).fifo with
  | [] => s
  | r :: rest =>
    let s := s.modCl k (fun c => { c with fifo := rest })
    let cam := s.hdr k r.ctx 0x000 24 5
    match r.tgt with
    | 0 =>
      let a := 0x10200000 + 0x10000 * cam + r.ofs
      if !s.domOn (camDomain cam) then s.offAccess
      else if s.underTest (8 + cam) then s.inc BIST.UNDER_TEST_ACC_CNT
      else if a = FE.SHADOW_CTL cam then s.feShadowCtl cam (s.rd a - s.rd a / 4 % 2 * 4 + r.data / 4 % 2 * 4)
      else if a = FE.SHADOW_TGT cam then s.plainWrite a r.data
      else s.shadowWrite a r.data
    | 1 => s.modCl k (fun c => { c with staging := Map.set 0 c.staging (8 * r.ctx + r.ofs % 8) (BitVec.ofNat 32 r.data) })
    | 2 =>
      if !s.domOn (camDomain cam) then s.offAccess
      else
      let bytes := (upto 5).flatMap (fun i => leBytes 4 (Map.get 0 (s.cl k).staging (8 * r.ctx + i)).toNat)
      s.bcQueue cam { src := .cluster k r.ctx, type := r.data % 256, payload := bytes.take (fld r.data 8 5) }
    | _ => s.commit k (r.ofs % 8) (some r.data)

/-! ### The commands of the family -/

/-- TASK_START (R181, R185, R193). -/
def execTaskStart (k : Fin 8) (task : Nat) (s : State) : Host.Outcome State Fault Refusal := .next (s.taskStart k task)

/-- PARAM_COPY_DONE (R187): the copy into the new pending buffer of context `x` ends. -/
def execParamCopyDone (k x : Fin 8) (s : State) : Host.Outcome State Fault Refusal := .next (s.copyDone k x)

/-- INTAKE_ITEM_TAKE (R192-R195, R204). -/
def execIntakeItemTake (k : Fin 8) (task : Nat) (s : State) : Host.Outcome State Fault Refusal := .next (s.intakeTake k task)

/-- WATCHDOG_CANCEL (R196): the edge of slot start + WD. -/
def execWatchdogCancel (k : Fin 8) (task : Nat) (s : State) : Host.Outcome State Fault Refusal := .next (s.taskWatchdog k task)

/-- PROGRAM_START (R195, R197, R201, R204, R214): `t0` is the engine cycle of the program start edge. -/
def execProgramStart (k : Fin 8) (task t0 : Nat) (s : State) : Host.Outcome State Fault Refusal := .next (s.programStart k task t0)

/-- TASK_END (R182, R200-R203). -/
def execTaskEnd (k : Fin 8) (task : Nat) (s : State) : Host.Outcome State Fault Refusal := .next (s.taskEnd k task)

/-- HOST_COMMIT (R186): a write of CLU.CTX_COMMIT. -/
def execHostCommit (k : Fin 8) (v : Word) (s : State) : Host.Outcome State Fault Refusal := .next (s.served (CLU.CTX_COMMIT k) (·.ctxCommit k v.toNat))

/-- CONTEXT_WRITE (R184): a host write at byte offset `o` of context `x`. -/
def execContextWrite (k x : Fin 8) (o : Nat) (v : Word) (s : State) : Host.Outcome State Fault Refusal :=
  .next (s.served (CLU.CTL k + 0x80000 + 0x10000 * x + o) (·.ctxHostWrite k x o v.toNat))

/-- DEBUG_HALT (R212): a write of CLU.CTL. -/
def execDebugHalt (k : Fin 8) (v : Word) (s : State) : Host.Outcome State Fault Refusal := .next (s.served (CLU.CTL k) (·.cluCtl k v.toNat))

/-- CTRL_WRITE_DELIVER (R205, R208). -/
def execCtrlWriteDeliver (k : Fin 8) (s : State) : Host.Outcome State Fault Refusal := .next (s.ctrlDeliver k)

end Sys2Proof.Machine
end

