-- ==== Sys2Proof/Machine/DmaBase.lean ====
section
/-! DEFINITION. The address map and the channels of the service DMA, and what the power-down of a domain does to them
(R418, R422, R434, R437). -/

namespace Sys2Proof.Machine

/-- A target of the DMA's address map (R418): a range that leaves its target ends in a bus error there (R419). -/
inductive DmaTarget where
  | ram
  | window
  | cells
  | queue (q : Nat)
  | lmem (k e : Nat)
  | smem (k : Nat)
  | imem (k e : Nat)
  | load (k e : Nat)
  | draw
  | flash
  | outside
deriving DecidableEq, Repr

/-- The target that `a` selects (R418). -/
def dmaTarget (a : Nat) : DmaTarget :=
  if a < 0x40000 then .ram
  else if 0x10000000 ≤ a ∧ a < 0x20000000 then .window
  else if 0x20000000 ≤ a ∧ a < 0x23000000 then .cells
  else if 0x30000000 ≤ a ∧ a < 0x34000000 then .queue ((a - 0x30000000) / 0x10000)
  else if 0x40000000 ≤ a ∧ a < 0x48000000 then
    let k := (a - 0x40000000) / 0x1000000
    let o := (a - 0x40000000) % 0x1000000
    if o < 0x200000 then .lmem k (o / 0x20000)
    else if 0x400000 ≤ o ∧ o < 0x500000 then .smem k
    else if 0x800000 ≤ o ∧ o < 0x880000 then .imem k ((o - 0x800000) / 0x8000)
    else if 0xC00000 ≤ o ∧ o < 0xC40000 then .load k ((o - 0xC00000) / 0x4000)
    else .outside
  else if 0x50000000 ≤ a ∧ a < 0x50040000 then .draw
  else if 0x60000000 ≤ a ∧ a < 0x66820000 then .flash
  else .outside

/-- The domain in which the target of `a` lies, of those that can be powered down (R437). -/
def dmaDomain (a : Nat) : Option Nat :=
  match dmaTarget a with
  | .window => windowDomain a
  | .cells => some 2
  | .queue _ => some 2
  | .lmem k _ => some (cluDomain k)
  | .smem k => some (cluDomain k)
  | .imem k _ => some (cluDomain k)
  | .load k _ => some (cluDomain k)
  | .draw => some 7
  | _ => none

/-- Channel `c`. -/
def State.chan (s : State) (c : Nat) : Channel := Map.get {} s.dma.chans c

/-- Channel `c` changed by `f`. -/
def State.modChan (s : State) (c : Nat) (f : Channel → Channel) : State :=
  { s with dma := { s.dma with chans := Map.set {} s.dma.chans c (f (s.chan c)) } }

/-! The fields of the descriptor in progress (R422). -/

/-- MODE: 0 copy, 1 fill, 2 compare. -/
def Channel.mode (x : Channel) : Nat := fld (nth 0 x.words 0) 30 2

/-- The element size in bytes. -/
def Channel.esize (x : Channel) : Nat := 2 ^ fld (nth 0 x.words 0) 28 2

/-- SRC. -/
def Channel.src (x : Channel) : Nat := nth 0 x.words 1

/-- DST. -/
def Channel.dst (x : Channel) : Nat := nth 0 x.words 2

/-- LEN. -/
def Channel.len (x : Channel) : Nat := fld (nth 0 x.words 3) 0 24

/-- The queue of a source that is a queue window (R428). -/
def Channel.srcQ (x : Channel) : Option Nat :=
  if x.mode = 1 then none
  else match dmaTarget x.src with
    | .queue q => some q
    | _ => none

/-- The queue of a destination that is a queue window (R428). -/
def Channel.dstQ (x : Channel) : Option Nat :=
  match dmaTarget x.dst with
  | .queue q => some q
  | _ => none

/-- A range of the descriptor from `a` touches domain `d`: the window of any block that it reaches, else the target in which it begins
(R419, R437). -/
def Channel.reaches (x : Channel) (fixed : Bool) (a d : Nat) : Bool :=
  if dmaTarget a = .window then (upto (if fixed then 1 else (a % 0x10000 + x.len + 0xFFFF) / 0x10000)).any (fun i => dmaDomain (a / 0x10000 * 0x10000 + 0x10000 * i) == some d)
  else dmaDomain a == some d

/-- The descriptor has a source or destination in domain `d` (R437). -/
def Channel.uses (x : Channel) (d : Nat) : Bool :=
  (x.phase == .wait || x.phase == .burst || x.phase == .drain)
    && ((x.mode != 1 && x.reaches (bitOf (nth 0 x.words 0) 27) x.src d) || x.reaches (bitOf (nth 0 x.words 0) 26) x.dst d)

/-! The data-to-control queue of the bridge (R438). -/

/-- The target lies on the control side of the bridge: control RAM or a register window. -/
def DmaTarget.control : DmaTarget → Bool
  | .ram => true
  | .window => true
  | _ => false

/-- The access is on the control side. -/
def Channel.onControl (x : Channel) (a : DmaAccess) : Bool :=
  match a.step with
  | .read => (dmaTarget x.src).control
  | _ => (dmaTarget x.dst).control

/-- Words of the channel's descriptor still to be read or written back. -/
def Channel.ctlLeft (x : Channel) : Nat :=
  match x.phase with
  | .fetch => 8 - x.fetched
  | .drain => 3 - x.wrote
  | _ => 0

/-- Accesses of bursts that the control side has still to serve. -/
def State.burstLeft (s : State) : Nat := (s.dma.order.map (fun c => ((s.chan c).todo.filter (s.chan c).onControl).length)).sum

/-- Entries in the data-to-control queue: every access still to be served, 16 at most; the others are held on the data side. -/
def State.d2cLevel (s : State) : Nat := min 16 (((upto 32).map (fun c => (s.chan c).ctlLeft)).sum + s.burstLeft)

/-- The item that the descriptor popped is read to its end and released, or its stalled pop is cancelled (R154, R428); the item that it
is pushing completes. -/
def State.chanItem (s : State) (c : Nat) : State :=
  let x := s.chan c
  let s := match x.dstQ with
    | some q => s.when (x.done != 0) (·.pushEnd q)
    | none => s
  match x.srcQ with
  | none => s
  | some q =>
    if x.stalled && (s.q q).stall != 0 then s.cancelPop q
    else if x.stalled || x.item.isSome then
      match s.takeItem q with
      | some (_, s) => s
      | none => s
    else s

/-- The descriptor in progress issues nothing more and ends with `code` (R432, R434, R435, R437). -/
def State.chanStop (s : State) (c code : Nat) : State :=
  (s.chanItem c).modChan c (fun x => { x with phase := .drain, code := code, stalled := false, abort := false, todo := [], buf := [], buf2 := [], flash := false })

/-- The abort of a channel for the power-down of a domain is counted (R437). -/
def State.chanOff (s : State) (c : Nat) : State := ((s.inc DMA.DOMAIN_OFF_CNT).setBit DMA.EVT 3).chanStop c 6

/-- The channels whose current descriptor has a target in domain `d` are stopped: those in WAIT at once, those in a burst
at its end (R437). -/
def State.dmaOff (s : State) (d : Nat) : State :=
  s.each ((upto 32).filter (fun c => (s.chan c).uses d)) (fun s c =>
    match (s.chan c).phase with
    | .wait => s.chanOff c
    | .burst => s.modChan c (fun x => { x with abort := true, code := if x.code = 4 then 4 else 6 })
    | _ => s)

/-- A channel has still to stop before domain `d` powers down (R437). -/
def State.dmaHolds (s : State) (d : Nat) : Bool := (upto 32).any (fun c => (s.chan c).uses d)

end Sys2Proof.Machine
end

