-- ==== Sys2Proof/Machine/Garnet.lean ====
section
/-! DEFINITION. Output formats (R249, R251) and Garnet (R259, R263-R276): the overlay, check regions, frozen-frame
detection, the proof item, and the commands of Garnet. -/

namespace Sys2Proof.Machine

/-! ### Formats (R249, R251) -/

/-- FORMAT of STRM_CFG (R277). -/
def StreamCfg.fmt (c : StreamCfg) : Nat := fld c.cfg 12 4

/-- CAMERA of STRM_CFG. -/
def StreamCfg.camera (c : StreamCfg) : Nat := fld c.cfg 16 5

/-- PREVIEW of STRM_CFG. -/
def StreamCfg.preview (c : StreamCfg) : Bool := bitOf c.cfg 30

/-- Line bytes of a format at a width (R249). -/
def lineBytes (fmt w : Nat) : Nat :=
  match fmt with
  | 1 => 2 * w
  | 2 => 5 * w / 2
  | 3 => 3 * w / 2
  | 4 => 15 * w / 8
  | 5 => 3 * w / 2
  | _ => 0

/-- The group G of a format (R249). -/
def groupOf (fmt : Nat) : Nat := if fmt = 2 ∨ fmt = 4 then 8 else 2

/-- Samples of `b` bits as one string of bytes, most significant bit first (R249). -/
def packMsb (b : Nat) (l : List Nat) : List Byte := beBytes (b * l.length / 8) (l.foldl (fun v x => v * 2 ^ b + x % 2 ^ b) 0)

/-- `l` cut, or padded with zero bytes, to `n` bytes. -/
def fitBytes (n : Nat) (l : List Byte) : List Byte := l.take n ++ List.replicate (n - l.length) 0

/-- A line of video black (R251). -/
def blackLine (fmt w : Nat) : List Byte :=
  match fmt with
  | 1 => (List.replicate w [(0x80 : Byte), 0x10]).flatten
  | 2 => packMsb 10 (List.replicate w [0x200, 0x040]).flatten
  | 3 => List.replicate w 0x10 ++ List.replicate (w / 2) 0x80
  | 4 => packMsb 10 (List.replicate w 0x040 ++ List.replicate (w / 2) 0x200)
  | _ => List.replicate (lineBytes fmt w) 0

/-- The samples of a line in wire order (R249). -/
def lineSamples (fmt : Nat) (bs : List Byte) : List Nat := if fmt = 1 ∨ fmt = 3 then bs.map (·.toNat) else unpackLine 10 bs

/-- A line from its samples (R249). -/
def linePack (fmt : Nat) (l : List Nat) : List Byte := if fmt = 1 ∨ fmt = 3 then l.map (BitVec.ofNat 8) else packMsb 10 l

/-- The bytes a region covers on one line, as spans of first byte and last byte + 1 (R267). -/
def regionSpans (fmt outW x w : Nat) : List (Nat × Nat) :=
  match fmt with
  | 1 => [(2 * x, 2 * (x + w))]
  | 2 => [(5 * x / 2, 5 * (x + w) / 2)]
  | 3 => [(x, x + w), (outW + x / 2, outW + (x + w) / 2)]
  | 4 => [(5 * x / 4, 5 * (x + w) / 4), (5 * outW / 4 + 5 * x / 8, 5 * outW / 4 + 5 * (x + w) / 8)]
  | _ => [(3 * x / 2, 3 * (x + w) / 2)]

/-- A window of a stream is aligned and inside the frame (R266). -/
def windowOk (c : StreamCfg) (x y w h : Nat) : Bool :=
  let g := groupOf c.fmt
  x % g == 0 && w % g == 0 && (!(c.fmt == 3 || c.fmt == 4) || (y % 2 == 0 && h % 2 == 0)) && decide (g ≤ w) && decide (1 ≤ h)
    && decide (x + w ≤ c.outW) && decide (y + h ≤ c.outH)

/-! ### Stream and table accessors -/

/-- Garnet's state of stream `st`. -/
def State.grn (s : State) (st : Nat) : GrnStream := Map.get {} s.pres.grn st

/-- Garnet's state of stream `st` changed by `f`. -/
def State.modGrn (s : State) (st : Nat) (f : GrnStream → GrnStream) : State :=
  { s with pres := { s.pres with grn := Map.set {} s.pres.grn st (f (s.grn st)) } }

/-- The packetiser's state of stream `st`. -/
def State.pkt (s : State) (st : Nat) : PktStream := Map.get {} s.pres.pkt st

/-- The packetiser's state of stream `st` changed by `f`. -/
def State.modPkt (s : State) (st : Nat) (f : PktStream → PktStream) : State :=
  { s with pres := { s.pres with pkt := Map.set {} s.pres.pkt st (f (s.pkt st)) } }

/-- The stream `st` of a table set, where the set enables it (R247). -/
def TableSet.stream (t : TableSet) (st : Nat) : Option StreamCfg :=
  t.loads.streams.find? (fun c => c.stream == st && bitOf c.cfg 31)

/-- An event of PRES: its counter and its bit of PRES.EVT. -/
def State.presEvent (s : State) (cnt bit : Nat) : State := (s.inc cnt).setBit PRES.EVT bit

/-- `n` reads of cells that returned UE status (R164, R259). -/
def State.presUe (s : State) (n : Nat) : State := (s.incBy PRES.UE_CNT n).setBit PRES.EVT 1

/-- A PRES event that is also a deviation of the packetiser sequencer (R360). -/
def State.presDev (s : State) (cnt bit : Nat) : State := (s.presEvent cnt bit).dev 43

/-! ### The overlay (R263-R265) -/

/-- A draw-memory word (R263). -/
def State.drawWord (s : State) (a : Nat) : Nat := Memory.readWord s.pres.draw a

/-- The address of record `i` of the draw list of stream `st`. DESIGN CHOICE (log entry 22): 1,024 bytes a stream from 0. -/
def drawRecord (st i : Nat) : Nat := 1024 * st + 16 * i

/-- COND of record `i` of stream `st` is met (R264). -/
def State.drawCond (s : State) (st i : Nat) : Bool :=
  let w := s.drawWord (drawRecord st i)
  let c := fld w 23 5
  match fld w 28 2 with
  | 0 => true
  | 1 => decide (c < 18) && s.statAbsent c
  | 2 => decide (c < 18) && !s.statAbsent c
  | _ => false

/-- The pixel (x, y) is covered by the segment of width `wid` (R264). -/
def segCovers (x0 y0 x1 y1 wid x y : Int) : Bool :=
  let dx := x1 - x0
  let dy := y1 - y0
  let l2 := dx * dx + dy * dy
  let t := (x - x0) * dx + (y - y0) * dy
  if l2 = 0 ∨ t ≤ 0 then decide (4 * ((x - x0) * (x - x0) + (y - y0) * (y - y0)) ≤ wid * wid)
  else if l2 ≤ t then decide (4 * ((x - x1) * (x - x1) + (y - y1) * (y - y1)) ≤ wid * wid)
  else
    let c := (x - x0) * dy - (y - y0) * dx
    decide (4 * c * c ≤ wid * wid * l2)

/-- The pixel (x, y) is covered by glyph `g` at (x0, y0) with scale `k` (R263, R264). -/
def State.glyphCovers (s : State) (g x0 y0 k x y : Nat) : Bool :=
  let lo := s.drawWord (0x30000 + 8 * g)
  let hi := s.drawWord (0x30000 + 8 * g + 4)
  let u := (x - x0) / k
  let v := (y - y0) / k
  decide (x0 ≤ x) && decide (y0 ≤ y) && decide (u < fld hi 0 9) && decide (v < fld hi 16 9) &&
    bitOf (Memory.readByte s.pres.draw (fld lo 0 18 + v * (fld hi 0 9 / 8) + u / 8)).toNat (7 - u % 8)

/-- The pixel (x, y) is covered by the primitive record at `a` (R264). -/
def State.covers (s : State) (a x y : Nat) : Bool :=
  let w0 := s.drawWord a
  let w1 := s.drawWord (a + 4)
  let w2 := s.drawWord (a + 8)
  let x0 := fld w1 0 13
  let y0 := fld w1 16 13
  let x1 := fld w2 0 13
  let y1 := fld w2 16 13
  match fld w0 30 2 with
  | 1 => segCovers x0 y0 x1 y1 (fld w0 19 4 : Nat) x y
  | 2 => decide (x0 ≤ x) && decide (x ≤ x1) && decide (y0 ≤ y) && decide (y ≤ y1)
  | 3 => s.glyphCovers (fld w0 8 11) x0 y0 (2 ^ fld w0 19 2) x y
  | _ => false

/-- The records of stream `st` that are drawn: up to the end of the list, those whose COND was met (R263, R264). -/
def State.drawList (s : State) (st : Nat) : List Nat :=
  let live := (upto 64).takeWhile (fun i => fld (s.drawWord (drawRecord st i)) 30 2 != 0)
  (live.filter (fun i => nth false (s.grn st).conds i)).map (drawRecord st)

/-- The pixel that decides sample `i` of line `y`, and its component, 0 Y, 1 U, 2 V (R249, R265). -/
def samplePixel (fmt w y i : Nat) : Nat × Nat × Nat :=
  if fmt = 1 ∨ fmt = 2 then
    match i % 4 with
    | 0 => (i / 4 * 2, y, 1)
    | 1 => (i / 4 * 2, y, 0)
    | 2 => (i / 4 * 2, y, 2)
    | _ => (i / 4 * 2 + 1, y, 0)
  else if i < w then (i, y, 0)
  else (2 * (i - w), y / 2 * 2, 1 + y % 2)

/-- One sample blended with a primitive's colour (R265). -/
def blend (alpha c p : Nat) : Nat :=
  let a := alpha + alpha / 128
  (a * c + (256 - a) * p + 128) / 256

/-- The overlay on line `y` of stream `st` (R264, R265). -/
def State.drawLine (s : State) (st y : Nat) (bs : List Byte) : List Byte :=
  let c := (s.grn st).cfg
  let prims := s.drawList st
  if c.fmt = 5 ∨ c.outH ≤ y ∨ prims.isEmpty then bs
  else
    linePack c.fmt ((lineSamples c.fmt bs).zipIdx.map (fun q =>
      let (px, py, comp) := samplePixel c.fmt c.outW y q.2
      prims.foldl (fun p a =>
        if s.covers a px py then
          let col := fld (s.drawWord (a + 12)) (20 - 10 * comp) 10
          blend (fld (s.drawWord a) 0 8) (if c.fmt = 1 ∨ c.fmt = 3 then col / 4 else col) p
        else p) q.1))

/-! ### The shadow set (R276) -/

/-- The shadowed registers of stream `st`: its regions, and the sample slots whose shadow set names it (R276, R277). -/
def State.presShadowed (s : State) (st : Nat) : List Nat :=
  (upto 8).flatMap (fun r => [PRES.CHK_POS st r, PRES.CHK_SIZE st r, PRES.CHK_CFG st r, PRES.CHK_EXP st r])
    ++ ((upto 8).filter (fun j => fld (s.sh (PRES.FRZ_CFG j)) 24 6 == st)).flatMap
      (fun j => [PRES.FRZ_CFG j, PRES.FRZ_WIN j, PRES.FRZ_WSIZE j])

/-- The shadow set of stream `st` applied at its frame-open, unless PRES.CTL.HOLD is 1 (R276). -/
def State.presApply (s : State) (st : Nat) : State :=
  if s.bit PRES.CTL 0 then s
  else
    let l := s.presShadowed st
    let s1 := s.when (l.any (fun a => s.sh a != s.rd a)) (fun s => s.setBit PRES.EVT 10)
    s1.each l (fun s a => s.wr a (s.sh a))

/-- A write of a shadowed PRES register: to the shadow copy (R276, R277). -/
def State.presShadowWrite (s : State) (a v : Nat) : State :=
  let s := s.shadowWrite a v
  s.setSh a (regLimit a (s.sh a))

/-! ### Check regions, samples and the frozen verdict (R266-R275) -/

/-- The enabled regions of stream `st` (R266). -/
def State.regionsOf (s : State) (c : StreamCfg) : List CheckRegion :=
  ((upto 8).filter (fun r => s.bit (PRES.CHK_CFG c.stream r) 31)).map (fun r =>
    let x := s.getF (PRES.CHK_POS c.stream r) 0 13
    let y := s.getF (PRES.CHK_POS c.stream r) 16 13
    let w := s.getF (PRES.CHK_SIZE c.stream r) 0 13
    let h := s.getF (PRES.CHK_SIZE c.stream r) 16 13
    let cls := s.getF (PRES.CHK_CFG c.stream r) 0 2
    { r := r, cls := cls, x := x, y := y, w := w, h := h, expect := s.rd (PRES.CHK_EXP c.stream r),
      valid := windowOk c x y w h && !c.preview && cls != 3 })

/-- The sample slots of stream `st`, lowest first (R272). -/
def State.sampleSlots (s : State) (st : Nat) : List Nat :=
  (upto 8).filter (fun j => s.bit (PRES.FRZ_CFG j) 31 && s.getF (PRES.FRZ_CFG j) 24 6 == st)

/-- `n` bytes whose values are open (log entry 1). -/
def State.freshBytes (s : State) : Nat → List Byte × State
  | 0 => ([], s)
  | n + 1 =>
    let (v, s) := s.fresh
    let (l, s) := State.freshBytes s n
    (BitVec.ofNat 8 v :: l, s)

/-- Slot `j` takes its sample of line `y` (R272). A window that R272 does not allow gives open bytes. -/
def State.takeSample (s : State) (st y : Nat) (bs : List Byte) (j : Nat) : State :=
  let g := s.grn st
  let x0 := s.getF (PRES.FRZ_WIN j) 0 13
  let y0 := s.getF (PRES.FRZ_WIN j) 16 13
  let w := s.getF (PRES.FRZ_WSIZE j) 0 13
  let h := s.getF (PRES.FRZ_WSIZE j) 16 13
  let step := 2 ^ s.getF (PRES.FRZ_CFG j) 8 3
  let k := (y - y0) / step
  if y < y0 ∨ y0 + h ≤ y ∨ (y - y0) % step ≠ 0 ∨ 32 ≤ k then s
  else
    let (a, b) := nth (0, 0) (regionSpans g.cfg.fmt g.cfg.outW x0 w) 0
    let (bytes, s) := if windowOk g.cfg x0 y0 w h && decide (64 ≤ b - a) then (slice bs (a + 64 * (k % ((b - a) / 64))) 64, s)
      else s.freshBytes 64
    let at_ := 4096 * j + 2048 * (g.fn % 2) + 64 * k
    { s with pres := { s.pres with sample := Memory.write s.pres.sample at_ bytes } }

/-- A pulse request line raised (R429, R430). -/
def State.dmaRaise (s : State) (line : Nat) : State := { s with dmaReq := s.dmaReq ||| 2 ^ line }

/-- A check record (R258). -/
def checkRecord (g : CheckRegion) (ok mat : Bool) (sig : Nat) : List Byte :=
  beBytes 1 (128 * b2n ok + 64 * b2n mat + 16 * g.cls + g.r) ++ beBytes 1 0 ++ beBytes 2 g.x ++ beBytes 2 g.y ++ beBytes 2 g.w
    ++ beBytes 2 g.h ++ beBytes 2 0 ++ beBytes 4 (if ok then sig else 0)

/-- The signature of a region (R267, R268). -/
def GrnStream.sig (g : GrnStream) (r : CheckRegion) : Nat :=
  crc32c ((g.parts.filter (fun p => decide (65536 * r.r ≤ p.1) && decide (p.1 < 65536 * (r.r + 1)))).flatMap (·.2))

/-- A region's record, with the count of a FIXED mismatch (R269). -/
def State.checkResult (s : State) (g : GrnStream) (r : CheckRegion) : List Byte × State :=
  let sig := g.sig r
  let same := r.valid && r.cls == 1 && sig == r.expect
  (checkRecord r r.valid same sig, s.when (r.valid && r.cls == 1 && !same) (·.presEvent PRES.CHK_MISMATCH_CNT 6))

/-- The records of all regions. -/
def State.checkResults (s : State) (g : GrnStream) : List CheckRegion → List Byte × State
  | [] => ([], s)
  | r :: rest =>
    let (a, s) := s.checkResult g r
    let (b, s) := State.checkResults s g rest
    (a ++ b, s)

/-- The proof item pushed in the proof slot (R259, R269-R275). -/
def State.grnProof (s : State) (st : Nat) : State :=
  let g := s.grn st
  if !g.isOpen then s
  else
    let (recs, s) := s.checkResults g g.regions
    let live := (g.regions.filter (fun r => r.valid && r.cls == 0)).map (fun r => (r.r, g.sig r))
    let slots := s.sampleSlots st
    let n := match slots with
      | [] => 2
      | j :: _ => max 2 (s.getF (PRES.FRZ_CFG j) 16 8)
    let late := !slots.isEmpty && g.cmp.isNone && !g.absent
    let s := s.when late (·.presDev PRES.FRZ_LATE_CNT 8)
    let tested := !live.isEmpty || !slots.isEmpty
    let same := tested && g.prev == some live && (slots.isEmpty || g.cmp == some 0)
    let run := if !g.absent && same then min 255 (g.run + 1) else 0
    let frozen := !g.absent && decide (n ≤ run + 1)
    let s := s.when frozen (·.inc PRES.FROZEN_CNT)
    let s := s.when (frozen && !g.frozen) (·.setBit PRES.EVT 7)
    let mis := if g.absent || slots.isEmpty then 0xFFFF else match g.cmp with
      | some m => min m 0xFFFE
      | none => 0xFFFF
    let flags := 16 * b2n (g.gap || !g.closed) + 256 * b2n frozen + 8192 * b2n g.dataErr
    let item := beBytes 4 g.fn ++ beBytes 1 g.regions.length ++ beBytes 1 run ++ beBytes 2 mis ++ beBytes 2 flags
      ++ List.replicate 6 0 ++ fitBytes 128 recs
    let s := s.modGrn st (fun g => { g with isOpen := false, run := run, frozen := frozen, prev := if g.absent then none else some live, cmp := none })
    s.push g.cfg.presQ 28 item

/-- The frozen state of stream `st` is reset (R261, R275). -/
def State.frozenReset (s : State) (st : Nat) : State := s.modGrn st (fun g => { g with prev := none, run := 0, frozen := false })

/-! ### Items (R259) -/

/-- A frame-open opens Garnet's frame (R259, R264, R266, R272, R276). -/
def State.grnOpen (s : State) (st : Nat) (bs : List Byte) : State :=
  let s := s.presApply st
  let conds := (upto 64).map (s.drawCond st)
  let s := s.modGrn st (fun g => { g with isOpen := true, fn := be (bs.take 4), gap := false, dataErr := false, closed := false, absent := false, conds := conds, parts := [], cmp := none })
  let regions := s.regionsOf (s.grn st).cfg
  let s := s.modGrn st (fun g => { g with regions := regions })
  let s := s.when (regions.any (fun r => !r.valid)) (·.presEvent PRES.CHK_INVALID_CNT 5)
  let s := s.each (s.sampleSlots st) (fun s j =>
    let lo := 4096 * j + 2048 * ((s.grn st).fn % 2)
    { s with pres := { s.pres with sample := Map.clear s.pres.sample lo (lo + 2048) } })
  s.push (s.grn st).cfg.presQ 28 bs

/-- A line item of the open frame: fitted, drawn, signed, sampled and forwarded (R259). -/
def State.grnLine (s : State) (st : Nat) (bs : List Byte) : State :=
  let g := s.grn st
  let n := lineBytes g.cfg.fmt g.cfg.outW
  let y := le (slice bs 6 2)
  let tag := bs.take 8
  let wrong := (bs.drop 8).length != n
  let line := s.drawLine st y (fitBytes n (bs.drop 8))
  let parts := g.regions.foldl (fun m r =>
    if r.valid && decide (r.y ≤ y) && decide (y < r.y + r.h) then
      Map.set [] m (65536 * r.r + y) ((regionSpans g.cfg.fmt g.cfg.outW r.x r.w).flatMap (fun p => slice line p.1 (p.2 - p.1)))
    else m) g.parts
  let s := s.modGrn st (fun g => { g with parts := parts, dataErr := g.dataErr || wrong, absent := g.absent || bitOf (le tag) 5 })
  let s := s.each (s.sampleSlots st) (fun s j => s.takeSample st y line j)
  s.push g.cfg.presQ 28 (tag ++ line)

/-- A frame-close of the open frame: GAP ORed in, the compare requests raised (R259, R273). -/
def State.grnClose (s : State) (st : Nat) (bs : List Byte) : State :=
  let g := s.grn st
  let fl := be (slice bs 4 2)
  let s := s.modGrn st (fun g => { g with closed := true, absent := g.absent || bitOf fl 2 })
  let s := s.each (s.sampleSlots st) (fun s j => s.dmaRaise (48 + j))
  s.push g.cfg.presQ 28 (bs.take 4 ++ beBytes 2 (fl ||| (16 * b2n g.gap)) ++ bs.drop 6)

/-- What an item is, by its length and its code (R192, R259). -/
inductive OutItem where
  | marker | bandClose | frameOpen | frameClose | proof | line | other
deriving DecidableEq, Repr

/-- The kind of a delivered item (R259). -/
def outItem (d : Delivered) : OutItem :=
  if d.kind ≠ .data then .marker
  else if d.bytes.length = 16 then .bandClose
  else if d.bytes.length = 32 then
    match (nth 0 d.bytes 31).toNat with
    | 1 => .frameOpen
    | 2 => .frameClose
    | _ => .other
  else if d.bytes.length = 144 then .proof
  else if 144 < d.bytes.length then .line else .other

/-- An item handled by the table of R259: the state, and the OP of the range that it completes, 0 for none. -/
def State.grnItem (s : State) (st : Nat) (d : Delivered) : State × Nat :=
  let g := s.grn st
  let mine := g.isOpen && be (d.bytes.take 4) == g.fn
  let stale := s.inc PRES.GRN_STALE_CNT
  let (s, op) := match outItem d with
    | .marker => ((s.inc PRES.GRN_MARKER_CNT).modGrn st (fun g => { g with gap := true }), 0)
    | .frameOpen => (s.grnOpen st d.bytes, 2)
    | .bandClose => if mine then (s.push g.cfg.presQ 28 d.bytes, 2) else (stale, 0)
    | .frameClose => if mine then (s.grnClose st d.bytes, 2) else (stale, 0)
    | .line => if g.isOpen && le (slice d.bytes 4 2) == g.fn % 65536 then (s.grnLine st d.bytes, 1) else (stale, 0)
    | .proof => (stale, 0)
    | .other => (stale, 0)
  (s.when (d.ue != 0) (fun s => (s.presUe d.ue).modGrn st (fun g => { g with dataErr := true })), op)

/-- An item handled in the range of stream `st`; Garnet pops again unless the range has what it was placed for (R259). -/
def State.grnFeed (s : State) (st : Nat) (d : Delivered) : State :=
  let (s, op) := if d.cut then (s, 0) else s.grnItem st d
  match (s.grn st).range with
  | none => s
  | some r =>
    if op = r.op then s.modGrn st (fun g => { g with range := some { r with done := true } })
    else s.startPop (s.grn st).cfg.outQ 28

/-! ### Commands -/

/-- Entry `i` of the packetiser table of the set in force or of the old set, where it is of one of the kinds `ops` and is executed
now (R363). -/
def State.pktEntry (s : State) (old : Bool) (i : Nat) (ops : List Nat) : Option Entry :=
  ((s.tableSet old).pkt[i]?).filter (fun e => ops.contains e.op && s.entryNow 43 old e.slot e.carry)

/-- GARNET_RANGE_START (R259): entry `i` of the packetiser table of the set in force or of the old set. -/
def execGarnetRangeStart (old : Bool) (i : Nat) (s : State) : Host.Outcome State Fault Refusal :=
  let set := s.tableSet old
  match s.pktEntry old i [1, 2] with
  | none => .next s
  | some e =>
    let st := fld e.w2 24 6
    match (set.stream st).filter (fun c => !c.preview) with
    | none => .next s
    | some c =>
      let held := (s.grn st).held
      let s := s.modGrn st (fun g => { g with cfg := c, held := none, range := some { op := e.op, index := fld e.w2 0 16 } })
      match held with
      | some d => .next (s.grnFeed st d)
      | none => .next (s.startPop c.outQ 28)

/-- GARNET_ITEM_TAKE (R155, R259). -/
def execGarnetItemTake (st : Fin 64) (s : State) : Host.Outcome State Fault Refusal :=
  match (s.grn st).range with
  | none => .next s
  | some r =>
    match s.popTake (s.grn st).cfg.outQ 28 (!r.ended && !r.done) with
    | (none, s) => .next s
    | (some d, s) =>
      if r.ended || r.done then
        .next (s.modGrn st (fun g => { g with held := if d.cut then none else some d, range := if r.ended then none else g.range }))
      else .next (s.grnFeed st d)

/-- GARNET_RANGE_END (R154, R259, R360). -/
def execGarnetRangeEnd (st : Fin 64) (s : State) : Host.Outcome State Fault Refusal :=
  match (s.grn st).range with
  | none => .next s
  | some r =>
    let q := (s.grn st).cfg.outQ
    let s := if r.done || (s.q q).stall = 0 then s else ((s.cancelPop q).inc PRES.GRN_CANCEL_CNT).dev 43
    let more := !(s.delivered q).isEmpty || (s.q q).items.any (·.claimed)
    .next (s.modGrn st (fun g => { g with range := if more then some { r with ended := true } else none }))

/-- GARNET_PROOF_PUSH (R259): entry `i` of the packetiser table. -/
def execGarnetProofPush (old : Bool) (i : Nat) (s : State) : Host.Outcome State Fault Refusal :=
  match s.pktEntry old i [3] with
  | none => .next s
  | some e => .next (s.grnProof (fld e.w2 24 6))

/-- FROZEN_COMPARE_RESULT (R273): on the completion event of the channel that FRZ_CFG names, its mismatch count; ignored after the proof slot.
Of several slots that name one stream, the lowest gives the verdict (log entry 23). -/
def execFrozenCompareResult (j : Fin 8) (s : State) : Host.Outcome State Fault Refusal :=
  let st := s.getF (PRES.FRZ_CFG j) 24 6
  if !s.pres.compared.contains j.val then .next s
  else
    let s : State := { s with pres := { s.pres with compared := s.pres.compared.filter (· != j.val) } }
    if (s.sampleSlots st).head? == some j.val && (s.grn st).isOpen && (s.grn st).closed then
      let m := s.rd (DMA.CH_MISMATCH (s.getF (PRES.FRZ_CFG j) 0 5))
      .next (s.modGrn st (fun g => { g with cmp := some m }))
    else .next s

end Sys2Proof.Machine
end

