-- ==== Sys2Proof/Machine/Packetiser.lean ====
section
/-! DEFINITION. The packetiser (R247-R258, R260-R262, R270) and the pass-through ranges (R300-R302): items, units,
frame headers, trailers, statistics units, and the commands of the packetiser. -/

namespace Sys2Proof.Machine

/-! ### Frames and units (R252-R256) -/

/-- CAPTURE of the open frame in whole ns; 0 for none (R253). -/
def PktStream.captureNs (p : PktStream) : Nat := p.captSec * 1000000000 + p.captNs

/-- The source address of the frames the device builds, 48 bits (R299). -/
def State.uplAddress (s : State) : Nat := s.rd ETH.ADDR_HI * 65536 + s.getF ETH.ADDR_LO 2 14 * 4 + s.position

/-- An Ethernet frame without its FCS, which the MAC adds (`wireFrame`): destination, source, 802.1Q tag, EtherType and data (R252). -/
def ethFrame (dst src : Nat) (tag : Option (Nat × Nat)) (etype : Nat) (data : List Byte) : List Byte :=
  beBytes 6 dst ++ beBytes 6 src ++ (match tag with
    | none => []
    | some (pcp, vid) => beBytes 2 0x8100 ++ beBytes 2 (pcp * 8192 + vid)) ++ beBytes 2 etype ++ data

/-- A frame built for a launch that was offered to a full queue leaves its egress queue unsent, as beyond LATE_TOL (R331, R335): the
first such launch of `f` goes, and takes the frame unless its launch time has passed. -/
def State.refusedLaunch (s : State) (f : PendLaunch → Bool) : Bool × State :=
  match s.time.refused.find? f with
  | none => (false, s)
  | some l => (decide (s.time.dt ≤ l.due), { s with time := { s.time with refused := s.time.refused.eraseP f } })

/-- A unit of stream `c` in its AVTP frame (R252-R254), put in its egress queue as unit `unit` (R255, R290). -/
def State.pktEmit (s : State) (c : StreamCfg) (kind : Nat) (hdr fill last : Bool) (index unit : Nat) (data : List Byte) : State :=
  let p := s.pkt c.stream
  let src := s.uplAddress
  let tv := p.captureNs != 0
  let body := beBytes 1 kind ++ beBytes 1 (b2n hdr + 2 * b2n fill + 4 * b2n last) ++ beBytes 2 index ++ beBytes 4 p.fn ++ data
  let avtp := beBytes 1 0x6F ++ beBytes 1 (128 + 8 * b2n p.mr + b2n tv) ++ beBytes 1 p.seq ++ beBytes 1 (b2n (!s.synced))
    ++ beBytes 6 src ++ beBytes 2 c.stream ++ beBytes 4 (if tv then p.captureNs + c.latency else 0)
    ++ beBytes 4 (s.rd PRES.VSF_EUI_HI) ++ beBytes 2 body.length ++ beBytes 2 (s.rd PRES.VSF_EUI_LO)
  let tag := if bitOf c.cfg 8 then some (fld c.cfg 9 3, fld c.dstHi 16 12) else none
  let frame := ethFrame (fld c.dstHi 0 16 * 2 ^ 32 + c.dstLo) src tag 0x22F0 (avtp ++ body)
  let u : EgressUnit := { frame := frame, fn := p.fn, queue := fld c.cfg 0 3, line := kind == 1, absent := bitOf (p.acc ||| p.hdr) 2 }
  let s := s.modPkt c.stream (fun p => { p with seq := (p.seq + 1) % 256 })
  let (out, s) := s.refusedLaunch (fun l => !l.pass && l.stream == c.stream && l.index == unit)
  if out then s else { s with eth := { s.eth with units := Map.set none s.eth.units (65536 * c.stream + unit) (some u) } }

/-- Bytes of the native statistics block in the trailer of stream `c` (R117, R258). -/
def StreamCfg.statsLen (c : StreamCfg) : Nat :=
  if c.preview || c.legacy || c.statQ.isNone then 0 else 4120 + 8 * c.zx * c.zy

/-- The frame header (R256). -/
def State.frameHeader (s : State) (c : StreamCfg) (checks : Nat) : List Byte :=
  let p := s.pkt c.stream
  let h := beBytes 1 1 ++ beBytes 1 s.position ++ beBytes 1 c.camera ++ beBytes 1 c.stream ++ beBytes 4 p.fn ++ beBytes 6 p.captSec
    ++ beBytes 4 p.captNs ++ beBytes 1 p.expSet ++ beBytes 1 c.fmt ++ beBytes 2 p.hdr ++ beBytes 2 c.outW
    ++ beBytes 4 (s.rd (PRES.STRM_FRESH c.stream)) ++ beBytes 1 checks ++ beBytes 1 p.scene ++ beBytes 1 p.variant ++ beBytes 1 0
    ++ beBytes 2 c.outH ++ beBytes 2 c.outH ++ beBytes 2 (164 + c.statsLen) ++ beBytes 2 (lineBytes c.fmt c.outW)
    ++ beBytes 4 c.latency ++ beBytes 4 (s.rd NVM.IMAGE_VER) ++ List.replicate 12 0
  h ++ beBytes 4 (crc32c h)

/-! ### Flags (R257, R520) -/

/-- DEGRADED and GRADE, and SUPPLY_WARN over the capture interval that ends at device time `hi` (R257, R520). -/
def State.pktFlags (s : State) (p : PktStream) (hi : Nat) : Nat :=
  let lo := if p.captureNs = 0 then p.unit0At - p.periodNs * 2 ^ 40 else p.captureNs * 2 ^ 40
  let warn := s.pres.warnLog.any (fun w => decide (w.1 ≤ hi) && decide (lo ≤ w.2.getD s.time.dt))
  128 * b2n warn + 512 * b2n (p.variant != 0) + 1024 * (p.grade % 4)

/-- UNSYNC of the capture record of a frame (R337); a frame without a record held is not marked (log entry 24). -/
def State.unsyncOf (s : State) (cam fn : Nat) : Bool :=
  (Map.get [] s.time.captures cam).any (fun c => c.frameNum == fn && c.unsync)

/-- A frame of stream `st` opened in the packetiser (R253, R260). -/
def State.pktOpen (s : State) (st fn sec ns exp acc : Nat) : State :=
  s.modPkt st (fun p => { p with isOpen := true, fn := fn % 2 ^ 32, captSec := sec, captNs := ns, expSet := exp, acc := acc, hdr := 0, close := none, proof := none, stats := none, fills := 0, mr := p.first, first := false, late := false, trailerDone := false, lastLaunch := none })

/-! ### Line units (R250, R251, R260, R270) -/

/-- Unit 0 of a frame begins: FRESH, CHECK_COUNT and the header's flags (R256, R257, R270). -/
def State.unitZero (s : State) (c : StreamCfg) (checks flags : Nat) : State :=
  let s := s.wr (PRES.STRM_FRESH c.stream) (s.rd (PRES.STRM_FRESH c.stream) + 1)
  let now := s.time.dt
  s.modPkt c.stream (fun p => { p with checks := checks, hdr := flags, unit0At := now })

/-- A line unit of stream `c`, sent as fill where `line` is none (R251, R255, R260). -/
def State.lineUnit (s : State) (c : StreamCfg) (u : Nat) (line : Option (List Byte)) : State :=
  let data := match line with
    | some l => fitBytes (lineBytes c.fmt c.outW) l
    | none => blackLine c.fmt c.outW
  let s := s.when line.isNone (fun s => (s.presDev PRES.FILL_LINE_CNT 0).modPkt c.stream (fun p => { p with fills := p.fills + 1, acc := p.acc ||| 16 }))
  let head := if u = 0 then s.frameHeader c (s.pkt c.stream).checks else []
  s.pktEmit c 1 (u == 0) line.isNone false u u (head ++ data)

/-- The preview lines built from line `u` of their parent (R250). -/
def State.previewUnits (s : State) (st u : Nat) (line : Option (List Byte)) : State :=
  s.each (s.pkt st).kids (fun s k =>
    let d := 2 ^ fld k.cfg 22 2
    if u % d ≠ 0 ∨ k.outH ≤ u / d then s
    else
      let p := s.pkt st
      let s := if u = 0 then
          let s := (s.pktOpen k.stream p.fn p.captSec p.captNs p.expSet 0).modPkt k.stream (fun q => { q with cfg := k, scene := p.scene, grade := p.grade, variant := p.variant, periodNs := p.periodNs })
          s.unitZero k 0 p.hdr
        else s
      s.lineUnit k (u / d) (line.map (fun l => (upto (k.outW / 2)).flatMap (fun i => slice l (4 * d * i) 4))))

/-- Line unit `u` of stream `st` built, with its tag's ABSENT for unit 0, and the previews made from it (R250, R257,
R260). -/
def State.pktLineUnit (s : State) (st u : Nat) (line : Option (Nat × List Byte)) : State :=
  let p := s.pkt st
  let absent := match line with
    | some (tag, _) => bitOf tag 5
    | none => false
  let s := if u = 0 then
      let fill := if line.isNone then 16 else 0
      let flags := (((p.acc ||| fill) &&& (8 + 16 + 8192)) ||| (4 * b2n absent)) ||| (32 * b2n (s.unsyncOf p.cfg.camera p.fn))
      let now := s.time.dt
      s.unitZero p.cfg (s.grn st).regions.length (flags ||| s.pktFlags { p with unit0At := now } now)
    else s
  (s.lineUnit p.cfg u (line.map (·.2))).previewUnits st u (line.map (fun l => fitBytes (lineBytes p.cfg.fmt p.cfg.outW) l.2))

/-! ### Items (R260, R262) -/

/-- What an item does to the range that takes it. -/
inductive Fed where
  | more                                 -- the packetiser pops again
  | held                                 -- held back
  | line (tag : Nat) (data : List Byte)  -- the unit's line
deriving DecidableEq, Repr

/-- An item discarded as stale (R260). -/
def State.pktStale (s : State) : State := s.inc PRES.PKT_STALE_CNT

/-- Flags ORed to the open frame (R257, R260). -/
def State.pktAcc (s : State) (st fl : Nat) : State := s.modPkt st (fun p => { p with acc := p.acc ||| fl })

/-- An item of the presented queue handled by the table of R260; `want` is the line of the unit, none in a TRAILER
range. -/
def State.pktItem (s : State) (st : Nat) (d : Delivered) (want : Option Nat) : State × Fed :=
  let s := s.when (d.ue != 0) (fun s => (s.presUe d.ue).pktAcc st 8192)
  let p := s.pkt st
  let bs := d.bytes
  let fn := be (bs.take 4)
  let mine := p.isOpen && fn == p.fn
  match outItem d with
  | .marker => ((s.inc PRES.PKT_MARKER_CNT).pktAcc st 16, .more)
  | .frameOpen =>
    if !p.isOpen then (s.pktOpen st fn (be (slice bs 4 6)) (be (slice bs 10 4)) (nth 0 bs 18).toNat (8192 * b2n (d.ue != 0)), .more)
    else if mine then (s.pktStale, .more)
    else (s.modPkt st (fun p => { p with held := some { d with ue := 0 } }), .held)
  | .bandClose =>
    if mine then
      let f := be (slice bs 8 2)
      (s.pktAcc st (8 * b2n (bitOf f 0) + 16 * b2n (bitOf f 1) + 8192 * b2n (bitOf f 5 || bitOf f 6)), .more)
    else (s.pktStale, .more)
  | .frameClose => if mine then (s.modPkt st (fun p => { p with close := some bs }), .more) else (s.pktStale, .more)
  | .proof => if mine then (s.modPkt st (fun p => { p with proof := some bs }), .more) else (s.pktStale, .more)
  | .line =>
    let tag := le (bs.take 8)
    let y := fld tag 48 16
    match want with
    | none => (s.pktStale, .more)
    | some u =>
      if !p.isOpen || fld tag 32 16 != p.fn % 65536 then (s.pktStale, .more)
      else if y = u then (s, .line tag (bs.drop 8))
      else if u < y then (s.modPkt st (fun p => { p with held := some { d with ue := 0 } }), .held)
      else (s.pktStale, .more)
  | .other => (s.pktStale, .more)

/-- The range has what it was placed for, or holds an item back: it pops no more. -/
def State.pktDone (s : State) (st : Nat) : State := s.modPkt st (fun p => { p with range := p.range.map (fun r => { r with done := true }) })

/-- An item handled in a UNIT or a TRAILER range (R260, R261). -/
def State.pktFeed (s : State) (st : Nat) (d : Delivered) : State :=
  match (s.pkt st).range with
  | none => s
  | some r =>
    let (s, fed) := if d.cut then (s, Fed.more) else s.pktItem st d (if r.op = 4 then some r.index else none)
    match fed with
    | .more =>
      let p := s.pkt st
      if r.op = 5 && p.close.isSome && p.proof.isSome then s.pktDone st else s.startPop p.cfg.presQ 26
    | .held =>
      let s := s.pktDone st
      if r.op = 4 then s.pktLineUnit st r.index none else s
    | .line tag data => (s.pktDone st).pktLineUnit st r.index (some (tag, data))

/-- The statistics range pops no more. -/
def State.statDone (s : State) (st : Nat) : State := s.modPkt st (fun p => { p with statRange := p.statRange.map (fun r => { r with done := true }) })

/-- A block of the statistics queue handled (R262). -/
def State.statFeed (s : State) (st : Nat) (d : Delivered) : State :=
  let p := s.pkt st
  let q := p.cfg.statQ.getD 0
  if d.cut then s.startPop q 26
  else
    let s := s.when (d.ue != 0) (fun s => (s.presUe d.ue).pktAcc st 8192)
    if d.kind ≠ .data then ((s.inc PRES.PKT_MARKER_CNT).pktAcc st 16).startPop q 26
    else
      let diff := (be (slice d.bytes (if p.cfg.legacy then 0 else 4) 4) + 2 ^ 32 - p.fn) % 2 ^ 32
      if diff = 0 then (s.modPkt st (fun p => { p with stats := some d.bytes })).statDone st
      else if diff < 2 ^ 31 then (s.modPkt st (fun p => { p with statHeld := some { d with ue := 0 } })).statDone st
      else s.pktStale.startPop q 26

/-! ### Trailers (R258, R261) and statistics units (R255, R262) -/

/-- The trailer (R258). -/
def trailerBytes (fn fl fresh checks run mis : Nat) (mid : List Byte) (fills : Nat) (recs stats : List Byte) : List Byte :=
  let t := beBytes 4 fn ++ beBytes 2 fl ++ beBytes 2 0 ++ beBytes 4 fresh ++ beBytes 1 checks ++ beBytes 1 run ++ beBytes 2 mis
    ++ fitBytes 6 mid ++ beBytes 2 (min fills 0xFFFF) ++ beBytes 2 stats.length ++ List.replicate 6 0 ++ fitBytes 128 recs ++ stats
  t ++ beBytes 4 (crc32c t)

/-- The fragments of a trailer, units from OUT_H (R255). -/
def State.emitFragments (s : State) (c : StreamCfg) (bytes : List Byte) (last : Bool) : State :=
  let n := (bytes.length + 8967) / 8968
  let s := s.modPkt c.stream (fun p => { p with frags := n, trailerDone := true })
  s.each (upto n) (fun s i => s.pktEmit c 2 false false (last && i + 1 == n) i (c.outH + i) (slice bytes (8968 * i) 8968))

/-- The statistics bytes a frame carries: the block taken, fitted to `n`, with DATA_ERR where its length differs, or the
zero block `zero` with STATS_MISS (R262). -/
def State.statBlock (s : State) (st n : Nat) (zero : List Byte) : List Byte × State :=
  match (s.pkt st).stats with
  | some b => (fitBytes n b, s.when (b.length != n) (·.pktAcc st 8192))
  | none => (fitBytes n zero, s.presDev PRES.STATS_MISS_CNT 4)

/-- The trailer of stream `st`, and those of its previews, at the end of the TRAILER range (R250, R257, R258, R261). -/
def State.pktTrailer (s : State) (st : Nat) : State :=
  let p := s.pkt st
  if !p.isOpen || p.trailerDone then s
  else
    let c := p.cfg
    let legacy := c.legacy && c.statQ.isSome
    let s := s.when p.close.isNone (fun s => (s.presDev PRES.NO_CLOSE_CNT 2).pktAcc st 16)
    let (mid, closeFl) := match p.close with
      | some b => (slice b 14 6, be (slice b 4 2) % 64)
      | none => ([], 0)
    let s := s.when p.proof.isNone (fun s => (s.presDev PRES.PROOF_MISS_CNT 3).frozenReset st)
    let (recs, run, mis, proofFl) := match p.proof with
      | some b => (slice b 16 128, (nth 0 b 5).toNat, be (slice b 6 2), be (slice b 8 2) &&& (16 + 256 + 8192))
      | none => ((s.grn st).regions.flatMap (fun r => checkRecord r false false 0), 0, 0xFFFF, 0)
    let (stats, s) := if c.statsLen = 0 then ([], s)
      else s.statBlock st c.statsLen (beBytes 1 2 ++ List.replicate 3 0 ++ beBytes 4 p.fn)
    let p := s.pkt st
    let fl := ((((p.hdr ||| p.acc) ||| closeFl) ||| proofFl) ||| s.pktFlags p (p.lastLaunch.getD s.time.dt)) ||| 4096
    let t := trailerBytes p.fn (fl ||| (64 * b2n p.late)) (s.rd (PRES.STRM_FRESH st)) p.checks run mis mid p.fills recs stats
    let s := s.emitFragments c t (!legacy)
    let s := s.modPkt st (fun p => { p with isOpen := legacy })
    s.each p.kids (fun s k =>
      let q := s.pkt k.stream
      if !q.isOpen || q.fn != p.fn then s
      else
        let t := trailerBytes q.fn (fl ||| (64 * b2n (p.late || q.late))) (s.rd (PRES.STRM_FRESH k.stream)) 0 run mis mid q.fills [] []
        (s.emitFragments k t true).modPkt k.stream (fun q => { q with isOpen := false }))

/-- The legacy statistics unit, whose range closes the frame (R119, R255, R260, R262). INDEX is 0 (log entry 25). -/
def State.pktLegacy (s : State) (st : Nat) : State :=
  let p := s.pkt st
  let c := p.cfg
  if !p.isOpen || !c.legacy || c.statQ.isNone then s
  else
    let n := 2056 + 8 * c.zx * c.zy
    let zero := beBytes 4 p.fn ++ beBytes 1 c.zx ++ beBytes 1 c.zy ++ beBytes 2 0 ++ List.replicate 2048 0 ++ List.replicate (8 * c.zx * c.zy) 0xFF
    let (b, s) := s.statBlock st n zero
    (s.pktEmit c 3 false false true 0 (c.outH + p.frags) b).modPkt st (fun p => { p with isOpen := false })

/-! ### Pass-through ranges (R301, R302) -/

/-- A pass-through range has not been served (R302, R360). -/
def State.passMiss (s : State) : State := ((s.inc (ETH.PASS_MISS_CNT 1)).setBit ETH.EVT 10).dev 43

/-- The pass-through range is served or has found that it sends nothing. -/
def State.passDone (s : State) : State :=
  { s with eth := { s.eth with passRange := s.eth.passRange.map (fun r => (r.1, r.2.1, true, r.2.2.2)) } }

/-- An item of the pass-through queue handled (R302). -/
def State.passFeed (s : State) (d : Delivered) : State :=
  match s.eth.passRange with
  | none => s
  | some (index, expect, _, _) =>
    let q := s.eth.passFrom
    let tol : Nat := s.getF ETH.PASS_CFG 0 16
    if d.cut || d.kind != .data then s.startPop q 26
    else
      let diff := sx 32 (le (d.bytes.take 4) + 2 ^ 32 - expect % 2 ^ 32)
      if diff < -(tol : Int) then (((s.inc (ETH.PASS_STALE_CNT 1)).setBit ETH.EVT 11).dev 43).startPop q 26
      else if (tol : Int) < diff then ({ s with eth := { s.eth with passHeld := some d.bytes } }).passMiss.passDone
      else
        let (out, s) := s.refusedLaunch (fun l => l.pass && l.index == index)
        (if out then s else { s with eth := { s.eth with pass := Map.set none s.eth.pass index (some (d.bytes.drop 8)) } }).passDone

/-! ### Commands -/

/-- The packetiser takes the stream's configuration from the table set of an entry. -/
def State.pktSetup (s : State) (set : TableSet) (c : StreamCfg) : State :=
  let kids := set.loads.streams.filter (fun k => bitOf k.cfg 31 && k.preview && fld k.cfg 24 6 == c.stream)
  s.modPkt c.stream (fun p => { p with cfg := c, kids := kids, scene := set.scene, grade := set.grade, variant := set.variant, periodNs := set.periodNs })

/-- A range that pops the presented queue begins with the item held back, or with a pop (R260). -/
def State.pktBegin (s : State) (st : Nat) (r : PresRange) : State :=
  let held := (s.pkt st).held
  let s := s.modPkt st (fun p => { p with range := some r, held := none })
  match held with
  | some d => s.pktFeed st d
  | none => s.startPop (s.pkt st).cfg.presQ 26

/-- A range that pops the statistics queue begins (R262). -/
def State.statBegin (s : State) (st : Nat) (r : PresRange) : State :=
  match (s.pkt st).cfg.statQ with
  | none => s
  | some q =>
    let held := (s.pkt st).statHeld
    let s := s.modPkt st (fun p => { p with statRange := some r, statHeld := none })
    match held with
    | some d => s.statFeed st d
    | none => s.startPop q 26

/-- A UNIT, TRAILER or STATS range of stream `c` begins (R255, R260-R262). -/
def State.pktStart (s : State) (set : TableSet) (c : StreamCfg) (op index : Nat) : State :=
  let st := c.stream
  let legacy := c.legacy && c.statQ.isSome
  if op = 4 then
    if c.outH ≤ index then s
    else
      let s := s.pktSetup set c
      let p := s.pkt st
      let s := s.when (index == 0 && p.isOpen) (fun s =>
        (s.when (!p.trailerDone) (·.presDev PRES.NO_CLOSE_CNT 2)).modPkt st (fun p => { p with isOpen := false }))
      s.pktBegin st { op := 4, index := index }
  else if op = 5 then
    let s := s.pktSetup set c
    let p := s.pkt st
    if !p.isOpen || p.trailerDone then s
    else
      let s := if p.close.isSome && p.proof.isSome then s.modPkt st (fun p => { p with range := some { op := 5, index := 0, done := true } })
        else s.pktBegin st { op := 5, index := 0 }
      if legacy then s else s.statBegin st { op := 5, index := 0 }
  else if legacy && (s.pkt st).isOpen then (s.pktSetup set c).statBegin st { op := 7, index := 0 }
  else s

/-- PKT_RANGE_START (R260-R262, R302): entry `i` of the packetiser table, a UNIT, TRAILER, STATS or PASS range. -/
def execPktRangeStart (old : Bool) (i : Nat) (s : State) : Host.Outcome State Fault Refusal :=
  let set := s.tableSet old
  match s.pktEntry old i [4, 5, 6, 7] with
  | none => .next s
  | some e =>
    if e.op = 6 then
      let held := s.eth.passHeld
      let s : State := { s with eth := { s.eth with passRange := some (fld e.w2 0 16, e.w3, false, false), passFrom := set.loads.passQ.getD 0, passHeld := none } }
      match held with
      | some b => .next (s.passFeed { bytes := b })
      | none => .next (s.startPop s.eth.passFrom 26)
    else
      match (set.stream (fld e.w2 24 6)).filter (fun c => !c.preview) with
      | none => .next s
      | some c => .next (s.pktStart set c e.op (fld e.w2 0 16))

/-- Something of queue `q` is still on its way to its consumer. -/
def State.comes (s : State) (q : Nat) : Bool := !(s.delivered q).isEmpty || (s.q q).items.any (·.claimed)

/-- A range ends: a stalled pop of `q` is cancelled (R154, R260). -/
def State.rangeCancel (s : State) (q : Nat) (r : PresRange) : State := s.when (!r.done && (s.q q).stall != 0) (·.cancelPop q)

/-- PKT_ITEM_TAKE (R155, R260, R262): from the presented queue, or from the statistics queue. -/
def execPktItemTake (st : Fin 64) (stat : Bool) (s : State) : Host.Outcome State Fault Refusal :=
  let p := s.pkt st
  let q := if stat then p.cfg.statQ.getD 0 else p.cfg.presQ
  match (if stat then p.statRange else p.range) with
  | none => .next s
  | some r =>
    match s.popTake q 26 (!r.ended && !r.done) with
    | (none, s) => .next s
    | (some d, s) =>
      let keep := if d.cut then none else some d
      if stat then
        if r.ended || r.done then .next (s.modPkt st (fun p => { p with statHeld := keep, statRange := if r.ended then none else p.statRange }))
        else .next (s.statFeed st d)
      else if r.ended || r.done then .next (s.modPkt st (fun p => { p with held := keep, range := if r.ended then none else p.range }))
      else .next (s.pktFeed st d)

/-- The ended range stays while a claimed item is still to come (R155, R260). -/
def State.rangeOver (s : State) (st : Nat) : State :=
  let p := s.pkt st
  let left := fun (q : Nat) (r : Option PresRange) => if s.comes q then r.map (fun r => { r with ended := true }) else none
  s.modPkt st (fun p' => { p' with range := left p.cfg.presQ p.range, statRange := left (p.cfg.statQ.getD 0) p.statRange })

/-- PKT_RANGE_END (R260): the end of a UNIT range. -/
def execPktRangeEnd (st : Fin 64) (s : State) : Host.Outcome State Fault Refusal :=
  let p := s.pkt st
  match p.range.filter (fun r => r.op == 4 && !r.ended) with
  | none => .next s
  | some r =>
    let s := s.rangeCancel p.cfg.presQ r
    let s := if r.done then s
      else if p.isOpen then s.pktLineUnit st r.index none
      else if r.index = 0 then
        ((s.pktOpen st (p.fn + 1) 0 0 0 16).presDev PRES.NO_OPEN_CNT 2).pktLineUnit st 0 none
      else s
    .next (s.rangeOver st)

/-- TRAILER_RANGE_END (R258, R261, R262). -/
def execTrailerRangeEnd (st : Fin 64) (s : State) : Host.Outcome State Fault Refusal :=
  let p := s.pkt st
  match p.range.filter (fun r => r.op == 5 && !r.ended) with
  | none => .next s
  | some r =>
    let s := s.rangeCancel p.cfg.presQ r
    let s := match p.statRange with
      | some r' => s.rangeCancel (p.cfg.statQ.getD 0) r'
      | none => s
    .next ((s.pktTrailer st).rangeOver st)

/-- STATS_RANGE_END (R255, R262). -/
def execStatsRangeEnd (st : Fin 64) (s : State) : Host.Outcome State Fault Refusal :=
  let p := s.pkt st
  match p.statRange.filter (fun r => r.op == 7 && !r.ended) with
  | none => .next s
  | some r => .next (((s.rangeCancel (p.cfg.statQ.getD 0) r).pktLegacy st).rangeOver st)

/-- PASS_ITEM_TAKE (R302). -/
def execPassItemTake (s : State) : Host.Outcome State Fault Refusal :=
  match s.eth.passRange with
  | none => .next s
  | some (_, _, done, ended) =>
    match s.popTake (s.eth.passFrom) 26 (!ended && !done) with
    | (none, s) => .next s
    | (some d, s) =>
      if ended || done then
        .next { s with eth := { s.eth with passHeld := if d.cut then none else some d.bytes, passRange := if ended then none else s.eth.passRange } }
      else .next (s.passFeed d)

/-- PASS_RANGE_END (R154, R302): an entry not served sends nothing. -/
def execPassRangeEnd (s : State) : Host.Outcome State Fault Refusal :=
  match s.eth.passRange.filter (fun r => !r.2.2.2) with
  | none => .next s
  | some (index, expect, done, _) =>
    let q := s.eth.passFrom
    let s := if done then s else (s.when ((s.q q).stall != 0) (·.cancelPop q)).passMiss
    let left := if s.comes q then some (index, expect, true, true) else none
    .next { s with eth := { s.eth with passRange := left } }

/-- A word written to the draw memory at byte offset `o` (R263): performed in BOOT and MAINTENANCE, else a bus error. The
answer says whether it was performed. -/
def State.drawWrite (s : State) (o v : Nat) : Bool × State :=
  if s.mode == 2 || s.mode == 6 then
    (true, { s with pres := { s.pres with draw := Memory.writeWord s.pres.draw (o / 4 * 4) v } })
  else (false, s.presEvent PRES.DRAW_REF_CNT 9)

/-- DRAW_MEMORY_WRITE (R263). -/
def execDrawMemoryWrite (o : Fin 0x40000) (v : Word) (s : State) : Host.Outcome State Fault Refusal :=
  let r := if s.domOn 7 then s.drawWrite o v.toNat else (false, s)
  .next (r.2.answer (if r.1 then 0 else 5) [])

end Sys2Proof.Machine
end

