-- ==== Sys2Proof/Machine/Eth.lean ====
section
/-! DEFINITION. The Ethernet ports (spec/08_ethernet_ports_and_cascade.md): link states, ingress, egress queues 6 and 7,
launches and MACsec, with the messages of Meridian as they leave a port (R312, R319-R321). -/

namespace Sys2Proof.Machine

/-! ### Ports -/

/-- Port `p`. -/
def State.prt (s : State) (p : Nat) : PortState := nth {} s.eth.ports p

/-- Port `p` changed by `f`. -/
def State.modPort (s : State) (p : Nat) (f : PortState → PortState) : State :=
  { s with eth := { s.eth with ports := setNth s.eth.ports p (f (s.prt p)) } }

/-- The port exists: a KVA-1628-AS has no cascade port (R296). -/
def State.hasPort (s : State) (p : Nat) : Bool := p == 0 || !s.isAS

/-- The lanes the port's mode uses (R279). -/
def State.lanesUsed (s : State) (p : Nat) : Nat :=
  match s.getF (ETH.PCFG p) 1 2 with
  | 1 => 2
  | 2 => 1
  | _ => 4

/-- Bits per ns at the port (R279). -/
def State.portRate (s : State) (p : Nat) : Nat :=
  match s.getF (ETH.PCFG p) 1 2 with
  | 1 => 100
  | 2 => 50
  | _ => 200

/-- The time `n` bytes take on the wire of port `p`, in 2^-40 ns. -/
def State.wireTime (s : State) (p n : Nat) : Nat := n * 8 * 2 ^ 40 / s.portRate p

/-- The peer-delay state of port `p` changed by `f`; TIME.PDELAY reads the delay while the port is asCapable (R340). -/
def State.modPd (s : State) (p : Nat) (f : PdelayState → PdelayState) : State :=
  let x := f (nth {} s.time.pdelay p)
  let s : State := { s with time := { s.time with pdelay := setNth s.time.pdelay p x } }
  s.wr (TIME.PDELAY p) (if x.capable then tc 32 x.delay else 0)

/-- An event of port `p` (ETH.EVT): 0 UP, 1 DOWN, 2 FR_FAIL, 3 TRAIN_FAIL. -/
def State.portEvent (s : State) (p e : Nat) : State := s.setBit ETH.EVT (4 * p + e)

/-- Port `p` enters `l`; an exit from UP sets DOWN, ends its peer-delay exchange and starts LINKUP_MS (R282, R312). -/
def State.portGo (s : State) (p : Nat) (l : PortLink) : State :=
  let old := (s.prt p).link
  let s := s.modPort p (fun x => { x with link := l, since := if old == .off || old == .up then s.now else x.since })
  if old == .up && l != .up then
    (s.portEvent p 1).modPd p (fun d => { seq := d.seq, log := d.log })
  else s

/-- Full training: AN if AN_EN is 1, else TRAIN (R282). A receiver that does not ask for precoding goes on without it (R281). -/
def State.portTrain (s : State) (p : Nat) : State :=
  let s := s.when (!s.bit (ETH.PCFG p) 5) (·.each (upto (s.lanesUsed p)) (fun s l => s.putF (ETH.LANE_RXCFG p l) 4 1 0))
  s.portGo p (if s.bit (ETH.PCFG p) 3 then .an else .train)

/-- The address of a lane register. -/
def laneAddr (r : LaneReg) (p l : Nat) : Nat :=
  match r with
  | .rxcfg => ETH.LANE_RXCFG p l
  | .txeq => ETH.LANE_TXEQ p l
  | .dfe i => ETH.LANE_DFE p l i

/-- The registers of a lane. -/
def laneRegs : List LaneReg := [.rxcfg, .txeq, .dfe 0, .dfe 1, .dfe 2]

/-- The bits of a lane register whose live value the spec leaves open at this moment (R281, R282, R286): the DFE and the CTLE code
adapt while the lane receives, except that the CTLE code stays in UP; training, and auto-negotiation before it, sets the
transmitter taps and the precoding. A lane that the mode does not use is powered down (R279), and loopback mode 2 bypasses
the lanes (R287). -/
def State.laneOpen (s : State) (p l : Nat) (r : LaneReg) : Nat :=
  if s.lanesUsed p ≤ l then 0
  else
    match (s.prt p).link, r with
    | .off, _ => 0
    | .fast, .rxcfg => 0xF
    | .fast, .txeq => 0
    | .an, .rxcfg => 0x2F + 16 * b2n (s.bit (ETH.PCFG p) 5)
    | .an, .txeq => 0x3F3F3F3F
    | .train, .rxcfg => 0x2F + 16 * b2n (s.bit (ETH.PCFG p) 5)
    | .train, .txeq => 0x3F3F3F3F
    | .up, .rxcfg => 0
    | .up, .txeq => 0
    | .loop, .rxcfg => if s.getF (ETH.LOOP_CTL p) 0 2 = 2 then 0 else 0xF
    | .loop, .txeq => 0
    | .loop, .dfe _ => if s.getF (ETH.LOOP_CTL p) 0 2 = 2 then 0 else 0xFFFFFFFF
    | _, .dfe _ => 0xFFFFFFFF

/-- Four DFE taps, each from -127 to +127 (R281), from one free value. -/
def dfeWord (v : Nat) : Nat := (upto 4).foldl (fun x i => x + 256 ^ i * ((v / 255 ^ i % 255 + 129) % 256)) 0

/-- What a lane register holds whose bits `m` take the free value `v`. -/
def laneTake (r : LaneReg) (old m v : Nat) : Nat :=
  match r with
  | .dfe _ => dfeWord v
  | _ => old - (old &&& m) + (v &&& m)

/-- The live values of lane `l` that the spec leaves open are taken as they are now (log entry 1). -/
def State.settleLane (s : State) (p l : Nat) : State :=
  s.each laneRegs (fun s r =>
    let a := laneAddr r p l
    let m := s.laneOpen p l r
    if m = 0 then s else s.fresh.2.wr a (laneTake r (s.rd a) m s.fresh.1))

/-- The live values of the lanes of port `p` are taken as they are now. -/
def State.settleLanes (s : State) (p : Nat) : State := s.each (upto (s.lanesUsed p)) (fun s l => s.settleLane p l)

/-- A loopback that checks PRBS13Q runs on port `p` (R287, R288). -/
def State.lbRuns (s : State) (p : Nat) : Bool :=
  (s.prt p).link == .loop && (s.getF (ETH.LOOP_CTL p) 0 2 == 1 || s.getF (ETH.LOOP_CTL p) 0 2 == 2)

/-- LB_ERR_CNT of port `p` brought up to date with the symbols received in error since it was last, `n` of them (R288). -/
def State.lbCountBy (s : State) (p n : Nat) : State := s.when (s.lbRuns p) (·.incBy (ETH.LB_ERR_CNT p) n)

/-- LB_ERR_CNT of port `p` brought up to date where no command gives the number of symbols in error: it is open (log entries 1 and
170). -/
def State.lbCount (s : State) (p : Nat) : State := if s.lbRuns p then s.fresh.2.incBy (ETH.LB_ERR_CNT p) s.fresh.1 else s

/-- The port leaves OFF (R282). -/
def State.portStart (s : State) (p : Nat) : State := if s.bit (ETH.PCFG p) 4 then s.portGo p .fast else s.portTrain p

/-- The port goes to OFF (R282): the lane registers keep the values live at that moment, but for the precoding state, which is
kept until the port goes to OFF (R281). -/
def State.portOff (s : State) (p : Nat) : State :=
  let s := (s.settleLanes p).lbCount p
  let s := (s.portGo p .off).modPort p (fun x => { x with fault := false })
  s.each (upto 4) (fun s l => (s.wr (ETH.LANE_STAT p l) 0).putF (ETH.LANE_RXCFG p l) 4 2 0)

/-- A write of ETH.PCFG[p] (R279, R282, R296, R304). -/
def State.portCfg (s : State) (p v : Nat) : State :=
  if !s.hasPort p then s
  else
    let old := s.rd (ETH.PCFG p)
    let v := if fld v 1 2 = 3 then setFld v 1 2 0 else v
    let fixed := 0xFF2E
    let refused := bitOf old 0 && (v &&& fixed) != (old &&& fixed)
    let v := if refused then (v &&& 0x11) ||| (old &&& fixed) else v &&& 0xFF3F
    let s := (s.wr (ETH.PCFG p) v).when refused (·.setBit ETH.EVT 8)
    if !bitOf v 0 then (if (s.prt p).link = .off then s else s.portOff p)
    else if (s.prt p).link = .off then s.portStart p
    else s

/-- The lane register at offset `o` of the ETH window: port, lane and which; none for LANE_STAT and unassigned offsets. -/
def laneReg? (o : Nat) : Option (Nat × Nat × LaneReg) :=
  if o < 0x400 ∨ 0x600 ≤ o then none
  else
    let r : Option LaneReg := match o % 64 with
      | 0x04 => some .rxcfg
      | 0x08 => some .txeq
      | 0x0C => some (.dfe 0)
      | 0x10 => some (.dfe 1)
      | 0x14 => some (.dfe 2)
      | _ => none
    r.map (fun r => ((o - 0x400) / 256, (o - 0x400) % 256 / 64, r))

/-- A word of LANE_DFE with each tap in -127 to +127 (R281): a byte of 0x80 is taken as -127. DESIGN CHOICE (log entry 169). -/
def dfeRange (v : Nat) : Nat := (upto 4).foldl (fun x i => x + 256 ^ i * (if fld v (8 * i) 8 = 128 then 129 else fld v (8 * i) 8)) 0

/-- A lane register set to `v`. -/
def State.lanePut (s : State) (r : LaneReg) (p l v : Nat) : State :=
  match r with
  | .dfe _ => s.plainWrite (laneAddr r p l) (dfeRange v)
  | _ => s.plainWrite (laneAddr r p l) v

/-- A write of a lane register: performed in OFF only (R286). -/
def State.laneWrite (s : State) (r : LaneReg) (p l v : Nat) : State :=
  if (s.prt p).link = .off then s.lanePut r p l v else s.setBit ETH.EVT 8

/-- The current scene uses the port for launches or pass-through (R287). -/
def State.sceneUsesPort (s : State) (p : Nat) : Bool :=
  s.sched.cur.launch.any (fun e => fld e.w2 20 1 == p) || (p == 1 && s.sched.cur.loads.passQ.isSome)

/-- A write of ETH.LOOP_CTL[p], LB_ERR_CNT being up to date (R282, R287). -/
def State.loopTo (s : State) (p v : Nat) : State :=
  let m := fld v 0 2
  if m = 0 then
    let s := s.wr (ETH.LOOP_CTL p) 0
    if (s.prt p).link = .loop then (s.portOff p).when (s.bit (ETH.PCFG p) 0) (·.portStart p) else s
  else if s.hasPort p && (s.mode == 6 || !s.sceneUsesPort p) then (s.wr (ETH.LOOP_CTL p) m).portGo p .loop
  else (s.wr (ETH.LOOP_CTL p) 0).setBit ETH.EVT 8

/-- A write of ETH.LOOP_CTL[p] (R282, R287, R288). -/
def State.portLoop (s : State) (p v : Nat) : State := (s.lbCount p).loopTo p v

/-! ### MACsec (R293-R295) -/

/-- MACsec is on: at position 0 only (R293). -/
def State.macsecOn (s : State) : Bool := s.bit ETH.MS_CTL 0 && s.position == 0

/-- The EtherType of a frame, after an 802.1Q tag where it has one, and the offset of what follows it (R289). -/
def frameType (f : List Byte) : Nat × Nat :=
  let t := be (slice f 12 2)
  if t = 0x8100 then (be (slice f 16 2), 18) else (t, 14)

/-- The MACsec state changed by `f`. -/
def State.modMs (s : State) (f : MacsecState → MacsecState) : State := { s with eth := { s.eth with ms := f s.eth.ms } }

/-- The next transmit association takes over at a frame boundary, once PN has reached MS_PN_THR (R295). -/
def State.macsecTurn (s : State) : State :=
  let m := s.eth.ms
  match m.next with
  | some a => if s.rd ETH.MS_PN_THR ≤ m.pn then s.modMs (fun m => { m with txAn := a, next := none, pn := m.nextPn, nextPn := 0 }) else s
  | none => s

/-- SCI (R294): the UPL source address followed by the port identifier 0x0001. -/
def State.sci (s : State) : List Byte := beBytes 6 s.uplAddress ++ beBytes 2 1

/-- The first octet of TCI and AN of a SecTAG with an SCI (IEEE 802.1AE): SC, then E and C where the data is encrypted.
PRESUMED (log entry 171). -/
def tciAn (conf : Bool) (an : Nat) : Nat := 0x20 + 12 * b2n conf + an

/-- The SecTAG of 16 bytes (R294): EtherType 0x88E5, TCI and AN, the short length, the packet number and the SCI.
PRESUMED (log entry 171). -/
def secTag (conf : Bool) (an pn len : Nat) (sci : List Byte) : List Byte :=
  beBytes 2 0x88E5 ++ beBytes 1 (tciAn conf an) ++ beBytes 1 (if len < 48 then len else 0) ++ beBytes 4 pn ++ sci

/-- The protected form of the frame `f` (R293, R294): what follows its addresses becomes the secure data, between the SecTAG and
an ICV of 16 bytes; confidentiality offset 0. -/
def macsecSeal (suite : Bool) (key : List Byte) (conf : Bool) (an pn : Nat) (sci f : List Byte) : List Byte :=
  let data := f.drop 12
  let iv := sci ++ beBytes 4 pn
  let head := f.take 12 ++ secTag conf an pn data.length sci
  if conf then
    let c := fitBytes data.length (Config.gcmCipher suite key iv data)
    head ++ c ++ fitBytes 16 (Config.gcmTag suite key iv head c)
  else head ++ data ++ fitBytes 16 (Config.gcmTag suite key iv (head ++ data) [])

/-- The frame that the protected frame `f` carries, where its ICV is right under the key (R294). A SecTAG without an SCI stands for
the source address and the port identifier 0x0001. PRESUMED (log entry 171). -/
def macsecOpen (suite : Bool) (key : List Byte) (f : List Byte) : Option (List Byte) :=
  let tci := be (slice f 14 1)
  let tag := if bitOf tci 5 then 16 else 8
  let sci := if bitOf tci 5 then slice f 20 8 else slice f 6 6 ++ beBytes 2 1
  let sl := be (slice f 15 1) % 64
  let head := f.take (12 + tag)
  let len := if sl = 0 then f.length - (28 + tag) else sl
  let data := slice f (12 + tag) len
  let icv := slice f (12 + tag + len) 16
  let iv := sci ++ slice f 16 4
  if bitOf tci 3 then
    if fitBytes 16 (Config.gcmTag suite key iv head data) = icv then some (f.take 12 ++ fitBytes len (Config.gcmCipher suite key iv data)) else none
  else if fitBytes 16 (Config.gcmTag suite key iv (head ++ data) []) = icv then some (f.take 12 ++ data) else none

/-- The frame as port `p` sends it (R294, R295); none: it is discarded, at PN exhaustion or for want of a key, which counts as
exhaustion (R460, log entry 72). -/
def State.protect (s : State) (p : Nat) (f : List Byte) : Option (List Byte) × State :=
  if p != 0 || !s.macsecOn || (frameType f).1 == 0x88F7 then (some f, s)
  else
    let s := s.macsecTurn
    let m := s.eth.ms
    let exhausted := (s.inc ETH.MS_PN_EXH_CNT).setBit ETH.EVT 13
    if m.pn = 0xFFFFFFFF then (none, exhausted)
    else
      match Map.get none m.txKeys m.txAn with
      | none => (none, exhausted)
      | some key =>
        let pn := m.pn + 1
        let s := (s.modMs (fun m => { m with pn := pn })).when (pn == s.rd ETH.MS_PN_THR) (·.setBit ETH.EVT 12)
        (some (macsecSeal (s.bit ETH.MS_CTL 1) key (s.bit ETH.MS_CTL 2) m.txAn pn s.sci f), s.macsecTurn)

/-- A received frame after MACsec (R294); none: it is discarded. -/
def State.unprotect (s : State) (p : Nat) (f : List Byte) : Option (List Byte) × State :=
  let t := be (slice f 12 2)
  if p != 0 || !s.macsecOn || (frameType f).1 == 0x88F7 then (some f, s)
  else if t != 0x88E5 then
    if s.bit ETH.MS_CTL 3 then (none, (s.inc ETH.MS_UNPROT_CNT).setBit ETH.EVT 14) else (some f, s)
  else
    let an := be (slice f 14 1) % 4
    let pn := be (slice f 16 4)
    let bad := (s.inc ETH.MS_ICV_ERR_CNT).setBit ETH.EVT 14
    match Map.get none s.eth.ms.rxKeys an with
    | none => (none, bad)
    | some key =>
      match macsecOpen (s.bit ETH.MS_CTL 1) key f with
      | none => (none, bad)
      | some g =>
        let expect := Map.get 0 s.eth.ms.rxNext an
        if s.bit ETH.MS_CTL 4 && decide (pn + s.getF ETH.MS_CTL 16 16 < expect) then
          (none, (s.inc ETH.MS_REPLAY_CNT).setBit ETH.EVT 14)
        else (some g, s.modMs (fun m => { m with rxNext := Map.set 0 m.rxNext an (max expect (pn + 1)) }))

/-! ### Sending -/

/-- A frame padded to the shortest the MAC sends. -/
def padFrame (f : List Byte) : List Byte := f ++ List.replicate (60 - f.length) 0

/-- A frame as the MAC sends it: padded, with its FCS (R252). -/
def wireFrame (f : List Byte) : List Byte := padFrame f ++ leBytes 4 (crc32 (padFrame f))

/-- A frame starts on port `p` at device time `t`; the wire is free again after its FCS and the gap (R291). -/
def State.startFrame (s : State) (p t : Nat) (f : List Byte) : State :=
  s.modPort p (fun x => { x with sent := some { bytes := wireFrame f, at_ := t }, busyUntil := t + s.wireTime p ((padFrame f).length + 24) })

/-- The port carries traffic (R280, R291). -/
def State.carries (s : State) (p : Nat) : Bool := (s.prt p).link == .up && !(s.prt p).fault

/-! ### Messages of Meridian (R312, R319-R321) -/

/-- clockIdentity (R312). -/
def State.clockIdentity (s : State) : List Byte :=
  let a := beBytes 6 s.uplAddress
  a.take 3 ++ [0xFF, 0xFE] ++ a.drop 3

/-- The common header of a message: type, length, domain, correctionField, port, sequence, logMessageInterval. -/
def State.ptpHeader (s : State) (type len dom : Nat) (cor : Int) (p seq ctl logInt : Nat) : List Byte :=
  [BitVec.ofNat 8 (0x10 + type), 0x12] ++ beBytes 2 len ++ beBytes 1 dom ++ [0] ++ beBytes 2 (if type = 3 then 0x0208 else 0x0008)
    ++ beBytes 8 (tc 64 cor) ++ beBytes 4 0 ++ s.clockIdentity ++ beBytes 2 (p + 1) ++ beBytes 2 seq ++ beBytes 1 ctl ++ beBytes 1 logInt

/-- A timestamp of 10 bytes from whole ns. -/
def stampBytes (ns : Nat) : List Byte := beBytes 6 (ns / 1000000000) ++ beBytes 4 (ns % 1000000000)

/-- The select TLV (R321). -/
def selectBytes (org : Nat) (t : SelectTlv) : List Byte :=
  beBytes 2 3 ++ beBytes 2 20 ++ beBytes 3 org ++ [0x4D, 0x52, 0x01] ++ beBytes 1 t.seq ++ beBytes 1 (128 * b2n t.hold + t.sel)
    ++ stampBytes t.switchTime ++ [0, 0]

/-- The TLV position 0 sends now (R321). -/
def State.selectTlv (s : State) : SelectTlv :=
  { seq := s.time.selSeq, hold := s.time.selHold, sel := s.time.selSel, switchTime := s.time.selTime }

/-- The select TLV that a Sync on port `p` ends with: its own at position 0, the received one further down. -/
def State.tlvOut (s : State) (p : Nat) (rx : Option SelectTlv) : Option SelectTlv :=
  if p = 0 then none else if s.position = 0 then some s.selectTlv else rx

/-- A one-step Sync with its Follow_Up information TLV and the select TLV. -/
def State.syncBytes (s : State) (p dom seq logInt : Nat) (i : SyncInfo) : List Byte :=
  let tail := match s.tlvOut p i.tlv with
    | none => []
    | some t => selectBytes (s.getF TIME.ORG_ID 0 24) t
  s.ptpHeader 0 (76 + tail.length) dom i.correction p seq 0 logInt ++ stampBytes i.origin
    ++ beBytes 2 3 ++ beBytes 2 28 ++ [0x00, 0x80, 0xC2, 0, 0, 1] ++ beBytes 4 (tc 32 i.rateOfs) ++ (i.gmInfo ++ List.replicate 18 0).take 18
    ++ tail

/-- The egress timestamp of a message whose preamble starts at device time `t`, in 1/16 ns (R316, R317). -/
def State.egressStamp (s : State) (p t : Nat) : Nat :=
  (t + s.wireTime p 8) / 2 ^ 36 / 20 * 20 + s.getF (TIME.PORT_LAT p) 16 16

/-- The correctionField and rate offset of a relayed Sync that leaves with egress time `out` (R319). -/
def State.relayed (s : State) (ingress out : Nat) (i : SyncInfo) : SyncInfo :=
  let pd := nth {} s.time.pdelay 0
  let rate := i.rateOfs + pd.nrr
  let spent := pd.delay + ((out : Int) - ingress)
  { i with correction := i.correction + spent * 4096 + spent * 4096 * rate / 2 ^ 41, rateOfs := rate }

/-- The bytes of message `m` as port `p` starts it at device time `t`. -/
def State.timeBytes (s : State) (p t : Nat) (m : TimeMsg) : List Byte :=
  let out := s.egressStamp p t
  let body := match m with
    | .relay dom seq ingress logInt i => s.syncBytes p dom seq logInt (s.relayed ingress out i)
    | .gmSync seq =>
      s.syncBytes p (s.getF (TIME.DOM_CFG 0) 0 8) seq (tc 8 s.time.syncLog) { origin := out / 16, correction := out % 16 * 4096, rateOfs := 0, gmInfo := [], tlv := none }
    | .announce b => b
    | .pdelayReq seq => s.ptpHeader 2 54 0 0 p seq 5 (tc 8 (nth {} s.time.pdelay p).log) ++ List.replicate 20 0
    | .pdelayResp seq req t2 => s.ptpHeader 3 54 0 (t2 % 16 * 4096) p seq 5 127 ++ stampBytes (t2 / 16) ++ req
    | .pdelayFollowUp seq req t3 => s.ptpHeader 10 54 0 (t3 % 16 * 4096) p seq 5 127 ++ stampBytes (t3 / 16) ++ req
  ethFrame 0x0180C200000E s.uplAddress none 0x88F7 body

/-- A time message is offered to queue 6 of port `p` (R290). -/
def State.offerTime (s : State) (p : Nat) (m : TimeMsg) : State :=
  if 16 ≤ (s.prt p).q6.length then (s.inc (ETH.UNSCHED_DROP_CNT p)).setBit ETH.EVT 15
  else s.modPort p (fun x => { x with q6 := x.q6 ++ [m] })

/-- A frame is offered to queue 7 of port `p` (R290). -/
def State.offer (s : State) (p : Nat) (f : List Byte) : State :=
  if 16 ≤ (s.prt p).q7.length then (s.inc (ETH.UNSCHED_DROP_CNT p)).setBit ETH.EVT 15
  else s.modPort p (fun x => { x with q7 := x.q7 ++ [f] })

/-- SEL_STAT shows the select TLV that a Sync on CAS has carried, at position 0 (R321, R340). -/
def State.selectSent (s : State) (p : Nat) : State :=
  if p = 1 ∧ s.position = 0 then { s with time := { s.time with selSent := (s.time.selSeq, s.time.selHold, s.time.selSel) } } else s

/-- What follows once message `m` has started at device time `t`: t1 of a Pdelay_Req, the Follow_Up of a Pdelay_Resp
(R312), the select TLV sent (R340). -/
def State.timeSent (s : State) (p t : Nat) (m : TimeMsg) : State :=
  let out := s.egressStamp p t
  match m with
  | .relay _ _ _ _ _ => s.selectSent p
  | .gmSync _ => s.selectSent p
  | .pdelayReq seq => s.modPd p (fun d => { d with req := d.req.map (fun r => if r.1 = seq then (seq, some out) else r) })
  | .pdelayResp seq req _ => s.offerTime p (.pdelayFollowUp seq req out)
  | _ => s

/-! ### Unscheduled frames (R292) -/

/-- The launch times on port `p` at or after now: pending ones, and those of the tables in force in this period and the
next (R292). -/
def State.launchTimes (s : State) (p : Nat) : List Nat :=
  let t := s.sched.periodStart
  let len := s.sched.cur.periodNs * 2 ^ 40 + s.sched.cur.periodFrac * 2 ^ 24
  let ofs := fun (e : Entry) => e.w1 * 2 ^ 40 + fld e.w2 0 16 * 2 ^ 24
  let sets := [s.sched.cur] ++ s.sched.old.toList ++ (s.sched.next.bind (fun n => n.set)).toList
  let table := sets.flatMap (fun set => (set.launch.filter (fun e => fld e.w2 20 1 == p)).flatMap (fun e => [t + ofs e, t + len + ofs e]))
  (table ++ (s.time.launches.filter (fun l => l.port == p)).map (·.due)).filter (fun x => decide (s.time.dt ≤ x))

/-- A frame of `n` bytes without its FCS, started now on port `p`, ends at least 64 ns before the next launch time. -/
def State.fits (s : State) (p n : Nat) : Bool :=
  let last := s.time.dt + s.wireTime p (n + 12) + 64 * 2 ^ 40
  (s.launchTimes p).all (fun t => decide (last ≤ t))

/-- The next frame of queue 6, else of queue 7, starts if it may (R292, R294, R295). -/
def State.startUnsched (s : State) (p : Nat) : State :=
  let x := s.prt p
  if !s.carries p || decide (s.time.dt < x.busyUntil) || !x.deferred.isEmpty then s
  else
    match x.q6, x.q7 with
    | m :: rest, _ =>
      let f := padFrame (s.timeBytes p s.time.dt m)
      if s.fits p f.length then
        ((s.modPort p (fun x => { x with q6 := rest })).startFrame p s.time.dt f).timeSent p s.time.dt m
      else s
    | [], f :: rest =>
      match s.protect p f with
      | (none, s) => s.modPort p (fun x => { x with q7 := rest })
      | (some g, s') =>
        if s.fits p (padFrame g).length then (s'.modPort p (fun x => { x with q7 := rest })).startFrame p s.time.dt g
        else s
    | [], [] => s

/-! ### Launches (R291, R331, R335) -/

/-- A launch is dropped (R335, R360). -/
def State.launchDrop (s : State) (p : Nat) : State := ((s.inc (TIME.LAUNCH_DROP_CNT + 4 * p)).setBit TIME.EVT 9).dev 44

/-- The units that stand in egress queue `q`, 0 to 5 (R290). -/
def State.egressQueue (s : State) (q : Nat) : List (Nat × EgressUnit) :=
  s.eth.units.filterMap (fun p => (p.2.filter (fun u => u.queue == q)).map (fun u => (p.1, u)))

/-- The frame that a launch names, taken from the egress queue that it names (R255, R290, R291, R302): a passed-through frame
stands in queue 0. -/
def State.takeUnit (s : State) (l : PendLaunch) : Option EgressUnit × State :=
  if l.pass then
    if l.queue ≠ 0 then (none, s)
    else
    let f := Map.get none s.eth.pass l.index
    (f.map (fun b => { frame := b, fn := 0, line := false }), { s with eth := { s.eth with pass := Map.set none s.eth.pass l.index none } })
  else
    let k := 65536 * l.stream + l.index
    match (Map.get none s.eth.units k).filter (fun u => u.queue == l.queue) with
    | none => (none, s)
    | some u => (some u, { s with eth := { s.eth with units := Map.set none s.eth.units k none } })

/-- A line unit has started: LATE_LAUNCH of its frame, its last line's launch time, and the boot milestone of the first
line 0 of a priority camera (R335, R417, R520); which cameras these are, the image says. DESIGN CHOICE (log entry 208). -/
def State.lineStarted (s : State) (l : PendLaunch) (u : EgressUnit) (late : Bool) : State :=
  let s := s.modPkt l.stream (fun p => if p.fn = u.fn then
      { p with late := p.late || late, lastLaunch := if l.index + 1 = p.cfg.outH then some l.due else p.lastLaunch }
    else p)
  s.when (l.port == 0 && l.index == 0 && !u.absent && s.nvm.config.priority.contains (s.getF (PRES.STRM_CFG l.stream) 16 5)) (·.bootMark 2)

/-- A launch whose frame's start has come at device time `t` (R291, R294, R335). -/
def State.launchStart (s : State) (l : PendLaunch) (t : Nat) : State :=
  match s.takeUnit l with
  | (none, s) => s
  | (some u, s) =>
    if !s.carries l.port then (s.inc (ETH.LAUNCH_DOWN_CNT l.port)).dev 44
    else
      let late := t - l.due
      if s.getF TIME.LATE_TOL 0 16 * 2 ^ 40 < late then s.launchDrop l.port
      else
        match s.protect l.port u.frame with
        | (none, s) => s
        | (some f, s) =>
          let s := s.startFrame l.port t f
          let s := s.when (late != 0) (fun s => ((s.inc (TIME.LAUNCH_LATE_CNT + 4 * l.port)).setBit TIME.EVT 7).dev 44)
          if u.line then s.lineStarted l u (late != 0) else s

/-! ### Commands -/

/-- PORT_ENABLE (R282): a write of ETH.PCFG with EN = 1. -/
def execPortEnable (p : Fin 2) (v : Word) (s : State) : Host.Outcome State Fault Refusal := .next (s.served (ETH.PCFG p) (·.portCfg p v.toNat))

/-- PORT_DISABLE (R282): a write of ETH.PCFG with EN = 0. -/
def execPortDisable (p : Fin 2) (v : Word) (s : State) : Host.Outcome State Fault Refusal := .next (s.served (ETH.PCFG p) (·.portCfg p v.toNat))

/-- PORT_CFG_WRITE (R304). -/
def execPortCfgWrite (p : Fin 2) (v : Word) (s : State) : Host.Outcome State Fault Refusal := .next (s.served (ETH.PCFG p) (·.portCfg p v.toNat))

/-- LANE_SETTINGS_WRITE (R286). -/
def execLaneSettingsWrite (p : Fin 2) (l : Fin 4) (r : LaneReg) (v : Word) (s : State) : Host.Outcome State Fault Refusal :=
  .next (s.served (laneAddr r p l) (·.laneWrite r p l v.toNat))

/-- FAST_TIMEOUT (R282): 20 ms in FAST. -/
def execFastTimeout (p : Fin 2) (s : State) : Host.Outcome State Fault Refusal :=
  if (s.prt p).link = .fast then .next (((s.inc (ETH.FR_FAIL_CNT p)).portEvent p 2).portTrain p) else .next s

/-- TRAINING_MARKER_DETECT (R285). -/
def execTrainingMarkerDetect (p : Fin 2) (s : State) : Host.Outcome State Fault Refusal :=
  if (s.prt p).link = .fast then .next (s.portTrain p) else .next s

/-- AN_COMPLETE (R282). -/
def execAnComplete (p : Fin 2) (s : State) : Host.Outcome State Fault Refusal :=
  if (s.prt p).link = .an then .next (s.portGo p .train) else .next s

/-- PORT_TRAIN_TIMEOUT (R282): 500 ms in AN and TRAIN. -/
def execPortTrainTimeout (p : Fin 2) (s : State) : Host.Outcome State Fault Refusal :=
  if (s.prt p).link = .an ∨ (s.prt p).link = .train then
    .next (((s.inc (ETH.TRAIN_FAIL_CNT p)).portEvent p 3).portTrain p)
  else .next s

/-- The live values of lane `l` of port `p` as it enters UP (R281, R286, R303). Training has set the transmitter taps and the precoding
state, the receiver's as PRECODE_REQ asks (DEDUCED, log entry 213: the partner does as it is asked); FAST keeps both. -/
def State.laneLive (s : State) (p l : Nat) (trained : Bool) (x : LaneLive) : State :=
  let pre := if trained then setFld x.rxcfg.toNat 4 1 (b2n (s.bit (ETH.PCFG p) 5)) else setFld x.rxcfg.toNat 4 2 (s.getF (ETH.LANE_RXCFG p l) 4 2)
  let s := (s.wr (ETH.LANE_STAT p l) (256 * x.eye.toNat + 1)).lanePut .rxcfg p l pre
  let s := (s.when trained (·.lanePut .txeq p l x.txeq.toNat)).lanePut (.dfe 0) p l x.dfe0.toNat
  (s.lanePut (.dfe 1) p l x.dfe1.toNat).lanePut (.dfe 2) p l x.dfe2.toNat

/-- PORT_UP (R282, R283, R317): with the live values of the used lanes and the measured latencies, in 1/16 ns. -/
def execPortUp (p : Fin 2) (lanes : List LaneLive) (rx tx : Fin 65536) (s : State) : Host.Outcome State Fault Refusal :=
  let x := s.prt p
  if x.link = .fast ∨ x.link = .train then
    let ms := min 0xFFFF ((s.now - x.since) / 1000000)
    let s := (((s.settleLanes p).portGo p .up).portEvent p 0).wr (ETH.PSTAT p) (65536 * ms + 2048 * b2n (x.link == .fast))
    let s := s.wr (TIME.PORT_LAT p) (65536 * tx + rx)
    .next (s.each (upto (s.lanesUsed p)) (fun s l => match lanes[l]? with
      | some v => s.laneLive p l (x.link == .train) v
      | none => s))
  else .next s

/-- PORT_LINK_LOSS (R284). -/
def execPortLinkLoss (p : Fin 2) (s : State) : Host.Outcome State Fault Refusal :=
  if (s.prt p).link = .up then .next ((s.inc (ETH.LINK_DOWN_CNT p)).portGo p .fast) else .next s

/-- LINK_FAULT_RECEIVE (R280). -/
def execLinkFaultReceive (p : Fin 2) (s : State) : Host.Outcome State Fault Refusal := .next (s.modPort p (fun x => { x with fault := true }))

/-- LINK_FAULT_CLEAR (R280). -/
def execLinkFaultClear (p : Fin 2) (s : State) : Host.Outcome State Fault Refusal := .next (s.modPort p (fun x => { x with fault := false }))

/-- PORT_LOOPBACK_SELECT (R287, R288): a write of ETH.LOOP_CTL; a loopback that runs has received `errs` symbols in error since
LB_ERR_CNT was last brought up to date. -/
def execPortLoopbackSelect (p : Fin 2) (v : Word) (errs : Nat) (s : State) : Host.Outcome State Fault Refusal :=
  .next (s.served (ETH.LOOP_CTL p) (fun s => (s.lbCountBy p errs).loopTo p v.toNat))

/-- FEC_CODEWORD_ERROR (R283, R303). -/
def execFecCodewordError (p : Fin 2) (uncorrectable : Bool) (s : State) : Host.Outcome State Fault Refusal :=
  .next (s.inc (if uncorrectable then ETH.FEC_UNCORR_CNT p else ETH.FEC_CORR_CNT p))

/-- A frame accepted by the first matching row of the ingress table (R289, R299, R300): `arrival` is the device time of
its start in ns. -/
def State.classify (s : State) (p : Nat) (f : List Byte) (arrival : Nat) : State :=
  let t := (frameType f).1
  let dst := be (f.take 6)
  let own := s.uplAddress
  let discard := s.inc (ETH.RX_DISCARD_CNT p)
  let toMgmt := fun (s : State) => { s with mgmt := { s.mgmt with frames := s.mgmt.frames ++ [f] }, power := { s.power with hostAt := s.now } }
  if t = 0x88F7 then s
  else if t = s.getF ETH.MGMT_ETYPE 0 16 then
    if p = 1 then s.offer 0 f
    else if dst = own then toMgmt s
    else if dst = 0xFFFFFFFFFFFF then (toMgmt s).when (s.hasPort 1) (·.offer 1 f)
    else if dst / 4 = own / 4 ∧ s.position < dst % 4 then s.offer 1 f
    else discard
  else if p = 1 ∧ t = 0x22F0 then
    match s.sched.cur.loads.passQ with
    | some q => s.push q 27 (leBytes 4 (arrival % 2 ^ 32) ++ leBytes 4 0 ++ f)
    | none => discard
  else discard

/-- Bytes of MAC client data of a frame without its FCS: what follows an EtherType, after an 802.1Q tag where it has one (R280,
R289). -/
def clientLen (f : List Byte) : Nat := f.length - (frameType f).2

/-- A frame received on port `p`, without its FCS; `age` is the time in ns since its start (R289, R294). A protected frame is
measured without its SecTAG and ICV, and a tag within it shows once it is opened. -/
def State.ethReceive (s : State) (p : Nat) (f : List Byte) (fcsOk : Bool) (age : Nat) : State :=
  if (s.prt p).link ≠ .up then s
  else if !fcsOk then s.inc (ETH.RX_FCS_CNT p)
  else
    let sec := p == 0 && s.macsecOn && be (slice f 12 2) == 0x88E5
    let n := f.length - 14 - (if bitOf (be (slice f 14 1)) 5 then 32 else 24)
    if (if sec then n < 46 ∨ 9004 < n else clientLen f < 46 ∨ 9000 < clientLen f) then s.inc (ETH.RX_DISCARD_CNT p)
    else
      match s.unprotect p f with
      | (none, s) => s
      | (some g, s) =>
        if clientLen g < 46 ∨ 9000 < clientLen g then s.inc (ETH.RX_DISCARD_CNT p)
        else s.classify p g (s.time.dt / 2 ^ 40 - age)

/-- ETH_FRAME_RECEIVE (R289, R294): what a time message then does is the command of its kind. -/
def execEthFrameReceive (p : Fin 2) (f : List Byte) (fcsOk : Bool) (age : Nat) (s : State) : Host.Outcome State Fault Refusal :=
  .next (s.ethReceive p f fcsOk age)

/-- PASSTHROUGH_FRAME_RECEIVE (R289, R300): a frame received on CAS. -/
def execPassthroughFrameReceive (f : List Byte) (fcsOk : Bool) (age : Nat) (s : State) : Host.Outcome State Fault Refusal :=
  .next (s.ethReceive 1 f fcsOk age)

/-- The frame of a launch offered to a full queue is discarded, now or when it is built (R331, R335). -/
def State.refuse (s : State) (l : PendLaunch) : State :=
  let same := fun (x : PendLaunch) => x.pass == l.pass && x.index == l.index && (l.pass || x.stream == l.stream)
  let (u, t) := s.takeUnit l
  if u.isSome && !s.time.launches.any same then t
  else { s with time := { s.time with refused := s.time.refused ++ [l] } }

/-- LAUNCH_HANDOVER (R331, R335): entry `i` of the launch table, of the old set for a CARRY entry in the overlap period. A launch
offered to a full queue is dropped, and its frame leaves the egress queue: at once, or, where it is not built or an earlier launch
takes the one that stands there, when it is built. -/
def execLaunchHandover (old : Bool) (i : Nat) (s : State) : Host.Outcome State Fault Refusal :=
  match ((s.tableSet old).launch[i]?).filter (fun e => s.entryNow 44 old e.slot e.carry) with
  | none => .next s
  | some e =>
    let p := fld e.w2 20 1
    let l : PendLaunch :=
      { port := p, due := s.sched.periodStart + e.w1 * 2 ^ 40 + fld e.w2 0 16 * 2 ^ 24, handed := s.time.dt,
        pass := e.op == 2, queue := fld e.w2 16 3, stream := fld e.w3 24 6, index := fld e.w3 0 16 }
    if 448 ≤ s.time.launches.length then .next ((s.refuse l).launchDrop p)
    else .next { s with time := { s.time with launches := s.time.launches ++ [l] } }

/-- LAUNCH_FIRE (R291, R335): the pending launch `i`, in order of handover, has reached its launch time. -/
def execLaunchFire (i : Nat) (s : State) : Host.Outcome State Fault Refusal :=
  match s.time.launches[i]? with
  | none => .next s
  | some l =>
    let s : State := { s with time := { s.time with launches := s.time.launches.eraseIdx i } }
    let t := max l.due l.handed
    if t < (s.prt l.port).busyUntil ∧ s.carries l.port then .next (s.modPort l.port (fun x => { x with deferred := x.deferred ++ [l] }))
    else .next (s.launchStart l t)

/-- LAUNCH_DEFERRED_START (R291, R335): the frame before it has ended on port `p`. -/
def execLaunchDeferredStart (p : Fin 2) (s : State) : Host.Outcome State Fault Refusal :=
  match (s.prt p).deferred with
  | [] => .next s
  | l :: rest =>
    let t := max (max l.due l.handed) (s.prt p).busyUntil
    .next ((s.modPort p (fun x => { x with deferred := rest })).launchStart l t)

/-- UNSCHED_FRAME_START (R292). -/
def execUnschedFrameStart (p : Fin 2) (s : State) : Host.Outcome State Fault Refusal := .next (s.startUnsched p)

end Sys2Proof.Machine
end

