-- ==== Sys2Proof/Machine/LoadCheck.lean ====
section
/-! DEFINITION. The load checks of a table set (R356, with R22, R135, R148, R180, R190, R204, R206, R249, R250, R263,
R290, R291, R301, R331, R335, R337, R98, R123, R353) and the overlap check of a swap (R363). A check answers the directory
entry concerned where it fails. -/

namespace Sys2Proof.Machine

/-- What the checks look at: the bytes of the set, the set, its place in the image, the PLAN_IDs of the other sets of its
scene and of the PREP, the stated latencies of the other sets of its scene, and the lengths of its engine programs by cluster; `noKey`:
one of those programs cannot be decrypted. -/
structure LoadInfo where
  bytes : List Byte
  set : TableSet
  scene : Nat
  grade : Nat
  variant : Nat
  plans : List Nat
  latencies : List (List Nat)
  noKey : Bool := false
  programs : List (Option Nat)
deriving DecidableEq, Repr

/-- The first number below `n` for which `f` holds. -/
def firstOf (n : Nat) (f : Nat → Bool) : Option Nat := (upto n).find? f

/-- The tables of 16-byte entries with their sequencers. -/
def TableSet.tables (t : TableSet) : List (Nat × List Entry) :=
  ((upto 16).map (fun i => (i, nth [] t.link i))) ++ ((upto 8).map (fun k => (35 + k, nth [] t.cluster k)))
    ++ [(43, t.pkt), (44, t.launch), (45, t.trig)]

/-- T in 2^-16 ns. -/
def TableSet.period16 (t : TableSet) : Nat := t.periodNs * 65536 + t.periodFrac

/-- The nominal slot count floor(T / 256 ns) (R348). -/
def TableSet.slots (t : TableSet) : Nat := t.periodNs / 256

/-- The value that a set loads into register `a`, else the register's present value. -/
def State.loadedReg (s : State) (t : TableSet) (a : Nat) : Nat :=
  match t.loads.regs.find? (fun p => p.1 == a) with
  | some p => p.2.toNat
  | none => s.rd a

/-- The exposures that FE[n] merges under a set: NEXP as it loads it, else as the shadow set holds it; 0 is merged as 1 (R123, R128). -/
def State.exposures (s : State) (t : TableSet) (n : Nat) : Nat :=
  let a := FE.MERGE_CFG n
  max 1 (fld (match ((t.loads.fes.filter (fun f => f.fe == n)).flatMap (·.regs)).find? (fun p => p.1 == a) with
    | some p => p.2.toNat
    | none => s.sh a) 0 2)

/-- Code 1: CRCs (R349). -/
def check1 (x : LoadInfo) : Option Nat :=
  let b := x.bytes
  if leAt b 800 4 ≠ crc32c (b.take 800) ∨ b.length < 804 then some 0
  else firstOf 64 (fun i => leAt b (36 + 12 * i) 4 != 0 && crc32c (setSection b i) != leAt b (40 + 12 * i) 4)

/-- Code 2: version (R349, R356). -/
def check2 (s : State) (x : LoadInfo) : Option Nat :=
  let b := x.bytes
  if leAt b 0 2 ≠ 3 ∨ leAt b 4 2 ≠ 0x1628 ∨ s.getF SYS.DEV_ID 0 8 < leAt b 6 1 ∨ leAt b 28 4 ≠ crc32c (b.take 28) ∨ leAt b 2 2 < 0x0400
  then some 0 else none

/-- Code 3: identity (R4, R356). -/
def check3 (s : State) (x : LoadInfo) : Option Nat :=
  let t := x.set
  if t.scene ≠ x.scene ∨ t.grade ≠ x.grade ∨ t.variant ≠ x.variant ∨ t.position ≠ s.position ∨ (s.isAS ∧ t.chain) then some 0 else none

/-- Slots in ascending order and all below U (R346, R350). -/
def slotsOk (u : Nat) : List Nat → Bool
  | [] => true
  | a :: rest => decide (a < u) && (match rest with
    | [] => true
    | b :: _ => decide (a ≤ b)) && slotsOk u rest

/-- Code 4: period, U, slots, order and table memory (R345, R346, R350). -/
def check4 (x : LoadInfo) : Option Nat :=
  let t := x.set
  let p := t.period16
  if p * 100 < 833333334 * 65536 ∨ 1000000000 * 65536 < p ∨ p * 10000 < t.usable * 256 * 10001 * 65536 then some 0
  else
    match t.tables.find? (fun q => !slotsOk t.usable (q.2.map (·.slot)) || decide (Config.tableMemory q.1 < 16 + 16 * q.2.length)) with
    | some q => some q.1
    | none =>
      match firstOf 18 (fun n => !slotsOk t.usable ((nth (0, []) t.fe n).2.map (·.slot))
          || decide (Config.tableMemory (16 + n) < 16 + 32 * (nth (0, []) t.fe n).2.length)) with
      | some n => some (16 + n)
      | none =>
        let m := t.store
        let size := 16 + 24 * m.queues.length + 1024 * m.patterns.length + 8 * m.map.length
        if !slotsOk t.usable (m.map.map (·.1)) || (m.map.head?.any (fun e => e.1 != 0)) || decide (Config.tableMemory 34 < size) then some 34
        else none

/-- Code 5: pool (R148). -/
def check5 (s : State) (x : LoadInfo) : Option Nat :=
  let qs := x.set.store.queues.filter (·.en)
  let need := (qs.map (fun q => (if q.sched then q.quota else q.reserve) + 1)).sum
  if 196608 - s.cfs.retiredCells < need ∨ x.set.store.queues.any (fun q => decide (q.quota < q.reserve ∨ 196608 < q.quota))
  then some 34 else none

/-- The quad of the first quad cycle of each port in one pattern, after `quads`; 4 while a port has had none. -/
def firstPass (quads : List Nat) (i : Nat) : List Byte → List Nat
  | [] => quads
  | b :: rest => firstPass (if 128 ≤ b.toNat ∧ nth 4 quads (b.toNat % 32) = 4 then setNth quads (b.toNat % 32) (i % 4) else quads) (i + 1) rest

/-- The quad of the first quad cycle that each of ports 0 to 28 has in a period of these segments, 4 for a port that has none. -/
def firstQuads (segs : List (Nat × List Byte)) : List Nat :=
  (segs.filter (fun x => x.1 != 0)).foldl (fun q x => firstPass q 0 x.2) (List.replicate 29 4)

/-- Two lists of quads agree at every port that both name. -/
def quadsMeet (a b : List Nat) : Bool := (upto 29).all (fun p => nth 4 a p == 4 || nth 4 b p == 4 || nth 4 a p == nth 4 b p)

/-- One pass over a pattern: the allotted quad cycles of each port visit the quads in rotation (R135). The list holds each
port's next quad, 4 for any; none: a port leaves its rotation, or is above 28. -/
def patternPass (quads : List Nat) (i : Nat) : List Byte → Option (List Nat)
  | [] => some quads
  | b :: rest =>
    if b.toNat < 128 then patternPass quads (i + 1) rest
    else
      let p := b.toNat % 32
      if 28 < p ∨ (nth 4 quads p ≠ 4 ∧ nth 4 quads p ≠ i % 4) then none
      else patternPass (setNth quads p ((i + 1) % 4)) (i + 1) rest

/-- The patterns of successive segments, each a count of slots and a pattern, keep R135, from which R22 follows: the next quad
of each port at the end, or none. -/
def patternsRun (quads : List Nat) : List (Nat × List Byte) → Option (List Nat)
  | [] => some quads
  | (n, pat) :: rest =>
    if n = 0 then patternsRun quads rest
    else if 614 < (pat.filter (fun b => decide (128 ≤ b.toNat))).length then none
    else
      match patternPass quads 0 pat with
      | none => none
      | some q1 =>
        match (if n = 1 then some q1 else patternPass q1 0 pat) with
        | none => none
        | some q2 => patternsRun q2 rest

/-- A period of these segments, repeated, keeps R135: each port's first quad cycle of a period goes on from its last of the
period before. -/
def patternsOk (segs : List (Nat × List Byte)) : Bool :=
  match patternsRun (firstQuads segs) segs with
  | none => false
  | some q => quadsMeet q (firstQuads segs)

/-- The segments of a store map up to slot `u`. -/
def mapSegments (t : StoreTable) (u : Nat) : List (Nat × Nat) → List (Nat × List Byte)
  | [] => []
  | (a, i) :: rest =>
    let b := match rest with
      | [] => u
      | (c, _) :: _ => c
    (b - a, nth [] t.patterns i) :: mapSegments t u rest

/-- Code 6: store (R22, R135). -/
def check6 (x : LoadInfo) : Option Nat :=
  let t := x.set.store
  if t.map.any (fun e => decide (t.patterns.length ≤ e.2)) || !patternsOk (mapSegments t x.set.usable t.map) then some 34 else none

/-- Two tasks overlap in slots and share an engine (R180), `d` slots after the first one's period. -/
def tasksClash (d : Nat) (a b : Entry) : Bool :=
  decide (fld a.w2 0 16 &&& fld b.w2 0 16 ≠ 0) && decide (a.slot < d + b.slot + fld b.w1 0 16) && decide (d + b.slot < a.slot + fld a.w1 0 16)

/-- Some pair of a task table overlaps (R180). -/
def anyClash (d : Nat) : List Entry → Bool
  | [] => false
  | a :: rest => rest.any (tasksClash 0 a) || anyClash d rest

/-- A word of a context's header as the context image gives it (R183, R355). -/
def CtxImage.word (c : CtxImage) (o : Nat) : Nat := (nth 0 c.header (o / 4)).toNat

/-- A window tile with the line map exceeds local memory (R190, R217). -/
def CtxImage.tileBad (c : CtxImage) : Bool :=
  let g := c.word 0x00C
  let n := fld g 24 8 + fld g 16 8 + fld g 8 8
  fld (c.word 0) 30 2 == 1 && (upto 16).any (fun e =>
    let w := c.word (0x40 + 4 * e)
    decide (131072 < n * (64 * ((2 * (fld w 16 13 + 1 - fld w 0 13) + 63) / 64)) + 512))

/-- Code 7: engine (R180, R190). -/
def check7 (x : LoadInfo) : Option Nat :=
  let t := x.set
  (firstOf 8 (fun k =>
    let es := nth [] t.cluster k
    anyClash 0 es || es.any (fun a => es.any (tasksClash t.slots a)) || es.any (fun e => e.op != 1 && e.op != 2)
      || (t.images k).any CtxImage.tileBad
      || (t.variant == k + 1 && !es.isEmpty)
      || es.any (fun e => match (x.programs[k]?).join with
        | none => true
        | some n => decide (n ≤ 8 * fld e.w3 0 11)))).map (· + 35)

/-- Code 8: one context holds the rights for a camera (R206). -/
def check8 (x : LoadInfo) : Option Nat :=
  let cams := ((upto 8).flatMap (fun k => (x.set.images k).map (fun c => c.word 0))).filter (fun w => bitOf w 29)
  if (upto 32).any (fun c => decide (1 < (cams.filter (fun w => fld w 24 5 == c)).length)) then some 48 else none

/-- OUT_W and OUT_H fit the format (R249). -/
def sizeOk (fmt w h : Nat) : Bool :=
  decide (256 ≤ w) && (match fmt with
    | 1 => w % 2 == 0 && decide (w ≤ 4096)
    | 2 => w % 8 == 0 && decide (w ≤ 3560)
    | 3 => w % 2 == 0 && decide (w ≤ 4096) && h % 2 == 0
    | 4 => w % 8 == 0 && decide (w ≤ 4096) && h % 2 == 0
    | 5 => w % 2 == 0 && decide (w ≤ 4096)
    | _ => false)

/-- The draw memory as the set leaves it (R263). -/
def State.drawWith (s : State) (t : TableSet) : Memory :=
  t.loads.draw.foldl (fun m p => Memory.write m p.1 p.2) s.pres.draw

/-- A draw list holds a record of COND 1 or 2 whose CCAM is 18 to 31 (R263). -/
def drawCondBad (m : Memory) (a : Nat) : Nat → Bool
  | 0 => false
  | n + 1 =>
    let w := Memory.readWord m a
    if fld w 30 2 = 0 then false
    else ((fld w 28 2 == 1 || fld w 28 2 == 2) && decide (18 ≤ fld w 23 5)) || drawCondBad m (a + 16) n

/-- A stream breaks R249, R250, R263 or the EQ rule of R290. -/
def State.streamBad (s : State) (t : TableSet) (c : StreamCfg) : Bool :=
  let m := s.drawWith t
  let lists := !c.preview && ((c.fmt == 5 && fld (Memory.readWord m (1024 * c.stream)) 30 2 != 0) || drawCondBad m (1024 * c.stream) 64)
  let dec := fld c.cfg 22 2
  let parent := t.loads.streams.find? (fun p => p.stream == fld c.cfg 24 6 && bitOf p.cfg 31 && !p.preview)
  !sizeOk c.fmt c.outW c.outH || decide (5 < fld c.cfg 0 3) || lists || (c.preview && (dec == 0 || (match parent with
    | none => true
    | some p => p.fmt != 1 || c.fmt != 1 || c.outW != p.outW / 2 ^ dec || c.outH != p.outH / 2 ^ dec)))

/-- Code 9: stream. -/
def check9 (s : State) (x : LoadInfo) : Option Nat :=
  if (x.set.loads.streams.filter (fun c => bitOf c.cfg 31)).any (s.streamBad x.set) then some 46 else none

/-- The bytes of unit `i` of stream `c` in its Ethernet frame, without the FCS (R252-R255). -/
def StreamCfg.unitBytes (c : StreamCfg) (i : Nat) : Nat :=
  let trailer := 164 + c.statsLen
  let data := if i < c.outH then lineBytes c.fmt c.outW + (if i = 0 then 64 else 0)
    else if 8968 * (i - c.outH) < trailer then min 8968 (trailer - 8968 * (i - c.outH))
    else 2056 + 8 * c.zx * c.zy
  14 + 4 * b2n (bitOf c.cfg 8) + 24 + 8 + data

/-- The launch time of an entry, 2^-40 ns from the period start. -/
def Entry.launchAt (e : Entry) : Nat := e.w1 * 2 ^ 40 + fld e.w2 0 16 * 2 ^ 24

/-- The bytes that MACsec adds to a frame sent on port `p` under a set: SecTAG and ICV (R293, R294). -/
def State.secLen (s : State) (t : TableSet) (p : Nat) : Nat :=
  if p = 0 ∧ s.position = 0 ∧ bitOf (s.loadedReg t ETH.MS_CTL) 0 then 32 else 0

/-- How long the frame of a launch entry occupies its port; a passed-through frame at its shortest. -/
def State.launchLen (s : State) (t : TableSet) (e : Entry) : Nat :=
  let n := if e.op = 2 then 60
    else match t.loads.streams.find? (fun c => c.stream == fld e.w3 24 6) with
      | none => 60
      | some c => c.unitBytes (fld e.w3 0 16)
  s.wireTime (fld e.w2 20 1) (max 60 (n + s.secLen t (fld e.w2 20 1)) + 24)

/-- Two launches on one port overlap (R291), the second `d` later. -/
def State.launchClash (s : State) (t : TableSet) (d : Nat) (a b : Entry) : Bool :=
  fld a.w2 20 1 == fld b.w2 20 1 && decide (a.launchAt < d + b.launchAt + s.launchLen t b) && decide (d + b.launchAt < a.launchAt + s.launchLen t a)

/-- Some pair of launches overlaps. -/
def State.anyLaunchClash (s : State) (t : TableSet) : List Entry → Bool
  | [] => false
  | a :: rest => rest.any (s.launchClash t 0 a) || s.anyLaunchClash t rest

/-- A pass-through entry breaks R301: it has no packetiser range; its range begins earlier than EXPECT plus PASS_TOL, the wire
time and 100 ns, or ends less than 512 ns before the launch; or another entry's EXPECT lies within 2 x PASS_TOL of its own. EXPECT
counts from the start of the range's period here, and the frame is the shortest, as a set does not hold its length. DEDUCED (log entry 86). -/
def State.passBad (s : State) (t : TableSet) (e : Entry) : Bool :=
  let cfg := s.loadedReg t ETH.PASS_CFG
  let tol := 2 * fld cfg 0 16
  let wire := s.wireTime 1 (60 + 24) / 2 ^ 40
  let after := fun (x : Entry) => if x.carry then t.periodNs else 0
  let ranges := t.pkt.filter (fun r => r.op == 6)
  match ranges.find? (fun r => fld r.w2 0 16 == fld e.w3 0 16) with
  | none => true
  | some r => decide (256 * r.slot < r.w3 + fld cfg 0 16 + wire + 100)
      || decide (after e + e.w1 < after r + 256 * (r.slot + fld r.w1 0 22) + 512)
      || ranges.any (fun q => fld q.w2 0 16 != fld r.w2 0 16 && decide ((sx 32 (q.w3 + 2 ^ 32 - r.w3)).natAbs ≤ tol))

/-- A time of `n` ns and a fraction of 2^-16 ns, in 2^-16 ns. -/
def Entry.time16 (e : Entry) : Nat := e.w1 * 65536 + fld e.w2 0 16

/-- The begin of the UNIT range of line `y` of stream `st` in the frame that the TRAILER range `r` closes: the latest at or
before that of `r`, in 2^-16 ns from the start of the period before that of `r`. -/
def TableSet.lastUnit (t : TableSet) (st y : Nat) (r : Entry) : Option Nat :=
  let us := (t.pkt.filter (fun e => e.op == 4 && fld e.w2 24 6 == st && fld e.w2 0 16 == y)).map
    (fun e => 65536 * 256 * e.slot + (if e.slot ≤ r.slot then t.period16 else 0))
  us.foldl (fun m u => some (max u (m.getD 0))) none

/-- The launch time of the last line unit of stream `c`, built from `u` on: the first at or after it, on the scale of `lastUnit`. -/
def TableSet.lastLaunch (t : TableSet) (c : StreamCfg) (u : Nat) : Option Nat :=
  let ls := (t.launch.filter (fun e => e.op == 1 && fld e.w3 24 6 == c.stream && fld e.w3 0 16 + 1 == c.outH)).flatMap
    (fun e => (upto 3).map (fun k => e.time16 + k * t.period16))
  (ls.filter (fun l => decide (u ≤ l))).foldl (fun m l => some (min l (m.getD l))) none

/-- The TRAILER range `r` ends before the launch time of the last line unit of `c`, built in the UNIT range of line `y` of `st`,
plus LATE_TOL (R335). -/
def State.trailerEarly (s : State) (t : TableSet) (r : Entry) (c : StreamCfg) (st y : Nat) : Bool :=
  match (t.lastUnit st y r).bind (t.lastLaunch c) with
  | none => false
  | some l => decide (t.period16 + 65536 * (256 * (r.slot + fld r.w1 0 22)) < l + 65536 * fld (s.loadedReg t TIME.LATE_TOL) 0 16)

/-- A TRAILER range ends too early for its frame, or for the frame of a preview, whose trailer is built in its parent's range
(R250, R335). -/
def State.trailerBad (s : State) (t : TableSet) (r : Entry) : Bool :=
  match t.stream (fld r.w2 24 6) with
  | none => false
  | some c => s.trailerEarly t r c c.stream (c.outH - 1)
      || (t.loads.streams.filter (fun k => bitOf k.cfg 31 && k.preview && fld k.cfg 24 6 == c.stream)).any
        (fun k => s.trailerEarly t r k c.stream (2 ^ fld k.cfg 22 2 * (k.outH - 1)))

/-- Code 10: launch (R291, R293, R301, R335). -/
def check10 (s : State) (x : LoadInfo) : Option Nat :=
  let t := x.set
  if s.anyLaunchClash t t.launch || t.launch.any (fun a => t.launch.any (s.launchClash t (t.period16 * 2 ^ 24) a)) then some 44
  else if s.position ≠ 0 ∧ (s.nvm.config.regs ++ t.loads.regs).any (fun p => p.1 == ETH.MS_CTL && bitOf p.2.toNat 0) then some 47
  else if (t.launch.filter (fun e => e.op == 2)).any (s.passBad t) then some 44
  else if (t.pkt.filter (fun e => e.op == 5)).any (s.trailerBad t) then some 43
  else none

/-- The handover of an action due `due` x 2^-16 ns from the period start comes too late (R331). -/
def marginBad (e : Entry) (due : Int) : Bool := decide (due * 10000 < (256 * (e.slot : Int) + 1000) * 65536 * 10000 + due)

/-- CAM_DLY of camera `c` as a set leaves it, 0 where it gives none (R333). -/
def TableSet.camDly (t : TableSet) (c : Nat) : Nat :=
  match t.loads.regs.find? (fun p => p.1 == TIME.CAM_DLY c) with
  | some p => fld p.2.toNat 0 20
  | none => 0

/-- The handover time H of a trigger entry, 2^-16 ns from the period start (R332). -/
def State.trigDue (s : State) (t : TableSet) (e : Entry) : Int :=
  (e.time16 : Int) - 4096 * t.camDly (fld e.w2 16 5) - 65536000 * fld (s.loadedReg t TIME.TRIG_CFG) 0 8

/-- The open times of FE[n] in a period and the two after it, 2^-16 ns from its start, with their entries: every frame that can open
within T of an instant of the period or the next. -/
def TableSet.feOpens (t : TableSet) (n : Nat) : List (Nat × FeEntry) :=
  (upto 3).flatMap (fun k => (nth (0, []) t.fe n).2.map (fun e => (k * t.period16 + 65536 * e.opens, e)))

/-- The open time a trigger at `i` x 2^-16 ns belongs to (R337). -/
def TableSet.trigOpen (t : TableSet) (n i : Nat) : Option (Nat × FeEntry) :=
  ((t.feOpens n).filter (fun o => decide (i < o.1))).foldl (fun best o => match best with
    | none => some o
    | some b => if o.1 < b.1 then some o else some b) none

/-- Trigger placement of camera `n` fails (R337). -/
def TableSet.trigBad (t : TableSet) (n : Nat) : Bool :=
  let is := (t.trig.filter (fun e => fld e.w2 16 5 == n)).map (·.time16)
  let opens := is.map (t.trigOpen n)
  is.any (fun i => match t.trigOpen n i with
    | none => true
    | some (o, e) => decide (i + t.period16 < o) || decide (nth 0 e.d0 0 ≤ e.opens))
  || decide (((opens.filterMap (fun o => o.map (·.1 % (max 1 t.period16)))).eraseDups).length < is.length)

/-- The fixed cycle latencies of the front-end stages before the write (R106): 4, 6, 1, 8, 6 and 8 cycles. -/
def stageLatency : Nat := 4 + 6 + 1 + 8 + 6 + 8

/-- A front-end entry breaks R98 or R123, with `h` lines and `n` exposures. -/
def FeEntry.timesBad (e : FeEntry) (h n : Nat) : Bool :=
  let last := ((upto n).map (fun x => e.deadline x (h - 1))).foldl max 0
  decide (256 * e.close < 256 * last + 2 * e.dl) || (upto h).any (fun l => (upto n).any (fun x =>
    decide (e.writes l < e.deadline x (min (l + 2) (h - 1)) + stageLatency)))

/-- Successive frames: each opens after the one before has closed (R353). -/
def framesBad : List FeEntry → Bool
  | [] => false
  | a :: rest => (match rest with
    | [] => false
    | b :: _ => decide (b.opens ≤ a.close)) || framesBad rest

/-- The frames of FE[n] in execution order: the CARRY entries of a period before its others, then the next period's. -/
def TableSet.feOrder (t : TableSet) (n : Nat) : List FeEntry :=
  let es := (nth (0, []) t.fe n).2
  let one := es.filter (·.carry) ++ es.filter (fun e => !e.carry)
  let next := fun (e : FeEntry) => { e with slot := e.slot + t.periodNs / 256, openOfs := e.openOfs + t.periodNs % 256, close := e.close + t.periodNs }
  one ++ (one.take 1).map next

/-- Code 11: timing (R98, R123, R180, R331, R337, R353). -/
def check11 (s : State) (x : LoadInfo) : Option Nat :=
  let t := x.set
  if t.launch.any (fun e => marginBad e e.time16) then some 44
  else if t.trig.any (fun e => marginBad e (s.trigDue t e)) || (upto 18).any t.trigBad then some 45
  else
    match firstOf 18 (fun n =>
      let h := fld (nth (0, []) t.fe n).1 16 16
      (nth (0, []) t.fe n).2.any (fun e => e.timesBad h (s.exposures t n)) || framesBad (t.feOrder n)) with
    | some n => some (16 + n)
    | none => (firstOf 8 (fun k => (nth [] t.cluster k).any (fun e =>
        let wd := fld e.w1 16 16
        decide (wd = 0 ∨ fld e.w1 0 16 ≤ wd + 1)))).map (· + 35)

/-- Code 12: memory (R204, R290, R356, R388); the egress queues lie in a transmit buffer of 512 KiB. -/
def check12 (x : LoadInfo) : Option Nat :=
  let b := x.bytes
  let t := x.set
  match firstOf 64 (fun i => leAt b (36 + 12 * i) 4 != 0 && decide (b.length < leAt b (32 + 12 * i) 4 + leAt b (36 + 12 * i) 4)) with
  | some i => some i
  | none =>
    if x.noKey then some 0
    else if t.loads.draw.any (fun p => decide (0x40000 < p.1 + p.2.length)) then some 46
    else if 0x80000 < t.loads.egress.sum then some 47
    else (firstOf 8 (fun k => (t.images k).any (fun c =>
      let dest := fld (c.word 0x14) 0 17
      decide (8 ≤ c.ctx) || decide (1024 < c.header.length) || c.params.any (fun p => decide (28672 ≤ p.1))
        || (fld (c.word 0) 30 2 == 2 && (decide (dest < 4) || dest % 4 != 0))))).map (· + 48)

/-- The stated stream latencies of a set (R342), in its stream configuration, whose layout the spec does not give (log entry 20). -/
def statedLatencies (b : List Byte) : List Nat := Config.statedLatencies (setSection b 46)

/-- Code 14: plan and stated latencies (R342, R368). -/
def check14 (x : LoadInfo) : Option Nat :=
  if x.plans.any (· != x.set.planId) then some 0
  else if x.latencies.any (· != statedLatencies x.bytes) then some 46
  else none

/-- The first load check that fails: code and directory entry (R356); code 13 is `swapDrains`. -/
def State.loadCheck (s : State) (x : LoadInfo) : Option (Nat × Nat) :=
  [(1, check1 x), (2, check2 s x), (3, check3 s x), (4, check4 x), (5, check5 s x), (6, check6 x), (7, check7 x), (8, check8 x),
    (9, check9 s x), (10, check10 s x), (11, check11 s x), (12, check12 x), (14, check14 x)].findSome? (fun c => c.2.map (fun d => (c.1, d)))

/-! ### The overlap check (R363) -/

/-- The slot after the last old CARRY entry of sequencer `q`; 0 without one (R363). -/
def TableSet.switchSlot (t : TableSet) (q : Nat) : Nat :=
  let last := fun (es : List Entry) (len : Entry → Nat) => ((es.filter (·.carry)).map (fun e => e.slot + len e)).foldl max 0
  if q < 16 then last (nth [] t.link q) (fun e => fld e.w1 0 22)
  else if q < 34 then (((nth (0, []) t.fe (q - 16)).2.filter (·.carry)).map (fun e => e.close / 256 + 1)).foldl max 0
  else if q = 34 then 0
  else if q < 43 then last (nth [] t.cluster (q - 35)) (fun e => fld e.w1 0 16)
  else if q = 43 then last t.pkt (fun e => fld e.w1 0 22)
  else if q = 44 then last t.launch (fun _ => 1)
  else last t.trig (fun _ => 1)

/-- The queues that the CARRY entries of a set use (R365). -/
def TableSet.carryQueues (t : TableSet) : List Nat :=
  let fes := (upto 18).flatMap (fun n => if (nth (0, []) t.fe n).2.any (·.carry) then
    (t.loads.fes.filter (fun f => f.fe == n)).flatMap (fun f => f.lineQ :: (f.embQ.toList ++ f.statQs)) else [])
  let clus := (upto 8).flatMap (fun k => ((nth [] t.cluster k).filter (·.carry)).flatMap (fun e =>
    ((t.images k).filter (fun c => c.ctx == fld e.w2 16 3)).flatMap (fun c =>
      fld (c.word 4) 20 10 :: (if fld (c.word 0) 30 2 = 1 then [fld (c.word 4) 10 10, fld (c.word 4) 0 10] else []))))
  let pkts := (t.pkt.filter (·.carry)).flatMap (fun e =>
    if e.op = 6 then t.loads.passQ.toList
    else match t.stream (fld e.w2 24 6) with
      | none => []
      | some c => if e.op ≤ 2 then [c.outQ, c.presQ] else if e.op = 3 then [c.presQ] else if e.op = 4 then [c.presQ] else c.presQ :: c.statQ.toList)
  fes ++ clus ++ pkts

/-- The sequencer that owns a scheduled store port (R363). -/
def portOwner (p : Nat) : Nat :=
  if p < 18 then 16 + p else if p < 26 then 35 + (p - 18) else if p = 27 then 44 else 43

/-- The slots of the entries of sequencer `q` without CARRY. -/
def TableSet.newSlots (t : TableSet) (q : Nat) : List Nat :=
  let es := fun (l : List Entry) => (l.filter (fun e => !e.carry)).map (·.slot)
  if q < 16 then es (nth [] t.link q)
  else if q < 34 then ((nth (0, []) t.fe (q - 16)).2.filter (fun e => !e.carry)).map (·.slot)
  else if q = 34 then []
  else if q < 43 then es (nth [] t.cluster (q - 35))
  else if q = 43 then es t.pkt
  else if q = 44 then es t.launch
  else es t.trig

/-- The pattern in force in slot `i` of a set. -/
def TableSet.patternAt (t : TableSet) (i : Nat) : List Byte :=
  match (t.store.map.filter (fun e => decide (e.1 ≤ i))).getLast? with
  | none => []
  | some e => nth [] t.store.patterns e.2

/-- The merged pattern of slot `i`; a quad cycle of two ports becomes a byte that no pattern may hold. -/
def mergedPattern (old new : TableSet) (i : Nat) : List Byte :=
  let a := old.patternAt i
  let b := new.patternAt i
  (upto 1024).map (fun j =>
    let x := nth 0 a j
    let y := nth 0 b j
    let useX := decide (128 ≤ x.toNat) && decide (i < old.switchSlot (portOwner (x.toNat % 32)))
    let useY := decide (128 ≤ y.toNat) && decide (old.switchSlot (portOwner (y.toNat % 32)) ≤ i)
    if useX && useY then 0xFF else if useX then x else if useY then y else 0)

/-- Ascending insertion without repeats. -/
def insertSlot (a : Nat) : List Nat → List Nat
  | [] => [a]
  | b :: rest => if a < b then a :: b :: rest else if a = b then b :: rest else b :: insertSlot a rest

/-- Segments between successive slots, each with the merged pattern of its first slot. -/
def mergedSegments (old new : TableSet) (u : Nat) : List Nat → List (Nat × List Byte)
  | [] => []
  | a :: rest =>
    let b := match rest with
      | [] => u
      | c :: _ => c
    (b - a, mergedPattern old new a) :: mergedSegments old new u rest

/-- The merged period between the last of `old` and the first of `new` keeps R135. -/
def mergedOk (old new : TableSet) (marks : List Nat) : Bool :=
  match patternsRun (firstQuads (mapSegments old.store old.usable old.store.map)) (mergedSegments old new (max old.usable new.usable) marks) with
  | none => false
  | some q => quadsMeet q (firstQuads (mapSegments new.store new.usable new.store.map))

/-- The swap from `old` to `new` is a drain swap: the overlap check fails, or T changes (R363, R364). -/
def swapDrains (old new : TableSet) : Bool :=
  let marks := (old.store.map.map (·.1) ++ new.store.map.map (·.1) ++ (upto 46).map old.switchSlot).foldl (fun l a => insertSlot a l) [0]
  old.period16 != new.period16
    || (upto 46).any (fun q => (new.newSlots q).any (fun a => decide (a < old.switchSlot q + (if 35 ≤ q && q < 43 then 32 else 0))))
    || !mergedOk old new marks

end Sys2Proof.Machine
end

