-- ==== Sys2Proof/Machine/Domains.lean ====
section
/-! DEFINITION. Requests for power domains (R28-R30, R505-R509). -/

namespace Sys2Proof.Machine

/-- The domain of sequencer `q` (R30, R36). -/
def seqDomain (q : Nat) : Nat :=
  if q < 8 then 3 else if q < 16 then 4
  else if q < 24 then 3 else if q < 32 then 4 else if q = 32 then 3 else if q = 33 then 4
  else if q = 34 then 2 else if q < 39 then 5 else if q < 43 then 6 else 7

/-- Sequencer `q` has a non-empty table in the set. The store's table is its map: one with queue descriptors and no map entry counts as
empty. DESIGN CHOICE (log entry 164). -/
def TableSet.runs (t : TableSet) (q : Nat) : Bool :=
  if q < 16 then !(nth [] t.link q).isEmpty
  else if q < 34 then !(nth (0, []) t.fe (q - 16)).2.isEmpty
  else if q = 34 then !t.store.map.isEmpty
  else if q < 43 then !(nth [] t.cluster (q - 35)).isEmpty
  else if q = 43 then !t.pkt.isEmpty
  else if q = 44 then !t.launch.isEmpty
  else !t.trig.isEmpty

/-- The set gives domain `d` scheduled traffic (R29, R30). -/
def TableSet.uses (t : TableSet) (d : Nat) : Bool :=
  (upto 46).any (fun q => seqDomain q == d && t.runs q) || (t.loads.passQ.isSome && (d == 2 || d == 7))

/-- Why a request for domain `d` is refused (R506). -/
def State.domRefusal (s : State) (d : Nat) (on : Bool) : Option Nat :=
  let lower := d == 2 && (upto 8).any (fun x => decide (3 ≤ x) && s.dom x != .off)
  if (on && decide (3 ≤ d) && !s.domOn 2) || (!on && lower) then some 1
  else if !on && (s.sched.cur.uses d || (s.sched.old.any (·.uses d)) || (s.sched.next.any (fun n => n.set.any (·.uses d)))) then some 2
  else if !on && s.power.testDoms.contains d then some 3
  else if d < 2 then some 4
  else if s.mode = 2 ∨ s.mode = 7 then some 5
  else none

/-- A request for domain `d`, evaluated now (R506-R508); one that meets a change in progress waits. -/
def State.domRequest (s : State) (d : Nat) (on : Bool) : State :=
  if s.dom d = .rising ∨ s.dom d = .falling then { s with power := { s.power with waiting := s.power.waiting ++ [(d, on)] } }
  else
    match s.domRefusal d on with
    | some r => ((s.inc PWR.DOM_REF_CNT).wr PWR.DOM_REF (2 ^ 31 + 256 * r + d)).setBit PWR.EVT 2
    | none =>
      let s := s.putBit PWR.DOM_REQ d on
      if on && s.dom d == .off then s.setDom d .rising
      else if !on && s.dom d == .up then (s.setDom d .falling).dmaOff d
      else s

/-- A change of domain `d` has ended: the requests that waited for it are evaluated (R507). -/
def State.domWaiters (s : State) (d : Nat) : State :=
  let mine := s.power.waiting.filter (fun p => p.1 == d)
  let s : State := { s with power := { s.power with waiting := s.power.waiting.filter (fun p => p.1 != d) } }
  s.each mine (fun s p => s.domRequest p.1 p.2)

end Sys2Proof.Machine
end

