-- ==== Sys2Proof/Machine/Flash.lean ====
section
/-! DEFINITION. The flash (R370-R376) and its queue of operations (R391, R490). -/

namespace Sys2Proof.Machine

/-- A part of the NVM state changed by `f`. -/
def State.modNvm (s : State) (f : NvmState → NvmState) : State := { s with nvm := f s.nvm }

/-- A part of Almanac's state changed by `f`. -/
def State.modAlm (s : State) (f : AlmState → AlmState) : State := { s with alm := f s.alm }

/-- A byte of the flash (R375): erased bytes read 0xFF (log entry 26). -/
def State.flashByte (s : State) (a : Nat) : Byte := Map.get 0xFF s.nvm.flash a

/-- `n` bytes of the flash. -/
def State.flashRead (s : State) (a : Nat) : Nat → List Byte
  | 0 => []
  | n + 1 => s.flashByte a :: State.flashRead s (a + 1) n

/-- A program: it only clears bits (R377). -/
def State.flashProgram (s : State) (a : Nat) (bs : List Byte) : State :=
  let put := fun (m : Map Byte) (p : Byte × Nat) => Map.set 0xFF m (a + p.2) (Map.get 0xFF m (a + p.2) &&& p.1)
  s.modNvm (fun n => { n with flash := (bs.zip (upto bs.length)).foldl put n.flash })

/-- An erase of `len` bytes. -/
def State.flashErase (s : State) (a len : Nat) : State := s.modNvm (fun n => { n with flash := Map.clear n.flash a (a + len) })

/-- A verification that fails: code of R392, stage and section. -/
abbrev ImageError := Nat × Nat × Nat

/-- An image or flash error: NVM.ERR holds the first of the wake (R392). -/
def State.imageError (s : State) (b : Nat) (e : ImageError) : State :=
  s.when (!s.bit NVM.ERR 31) (·.wr NVM.ERR (2 ^ 31 + e.1 * 2 ^ 23 + e.2.1 * 2 ^ 21 + b * 2 ^ 20 + e.2.2 % 2048))

/-- AES-256 in counter mode (R388): the counter block is the initial value and a 64-bit big-endian count of blocks from `i`. -/
def ctrBlocks (key iv : List Byte) (i : Nat) : Nat → List Byte → List Byte
  | 0, _ => []
  | n + 1, b => ((b.take 16).zip (Config.aes256 key (iv ++ beBytes 8 i))).map (fun p => p.1 ^^^ p.2) ++ ctrBlocks key iv (i + 1) n (b.drop 16)

/-- A section under the image-decrypt key (R388); encryption and decryption are one. -/
def ctrCipher (key iv b : List Byte) : List Byte := ctrBlocks key iv 0 ((b.length + 15) / 16) b

/-- A supply warning is asserted (R516). -/
def State.warning (s : State) : Bool := s.power.warnAt.isSome

/-- The operation that the flash serves now: the first by priority, programs and erases being held during a supply
warning (R391, R490). -/
def State.flashRun (s : State) : Option FlashJob := s.nvm.ops.find? (fun j => !(s.warning && j.op.isWrite))

/-- A job placed behind those of its priority. -/
def placeJob (j : FlashJob) : List FlashJob → List FlashJob
  | [] => [j]
  | x :: rest => if j.op.prio < x.op.prio then j :: x :: rest else x :: placeJob j rest

/-- The delay of journal writes by a supply warning, counted once for each write and warning (R490). -/
def State.deferJournal (s : State) : State :=
  let held := fun (j : FlashJob) => j.op.prio == 1 && !j.deferred
  if s.warning then
    (s.incBy ALM.JRNL_DEFER_CNT (s.nvm.ops.filter held).length).modNvm (fun n => { n with ops := n.ops.map (fun x => if held x then { x with deferred := true } else x) })
  else s

/-- A change of the queue or of the warning by `f`: a program or erase that was running and now waits has been suspended,
and the first operation starts or resumes (R391). -/
def State.flashChange (s : State) (f : State → State) : State :=
  let r := s.flashRun
  let s := f s
  let now := s.flashRun.map (·.id)
  let s := match r with
    | some j => s.when (j.op.isWrite && s.nvm.ops.any (fun x => x.id == j.id) && now != some j.id) (·.inc NVM.SUSPEND_CNT)
    | none => s
  s.deferJournal.modNvm (fun n => { n with ops := n.ops.map (fun x => if some x.id = now then { x with started := true } else x) })

/-- An operation enters the queue. -/
def State.flashPush (s : State) (op : FlashOp) : State :=
  s.flashChange (fun s => s.modNvm (fun n => { n with ops := placeJob { id := n.nextOp, op := op } n.ops, nextOp := n.nextOp + 1 }))

/-- Operations leave the queue. -/
def State.flashDrop (s : State) (p : FlashOp → Bool) : State :=
  s.flashChange (fun s => s.modNvm (fun n => { n with ops := n.ops.filter (fun j => !p j.op) }))

/-- A program or erase is suspended (NVM.STAT.SUSPENDED). -/
def State.flashSuspended (s : State) : Bool :=
  s.nvm.ops.any (fun j => j.started && j.op.isWrite && s.flashRun.map (·.id) != some j.id)

/-- The operation is a program or erase of an image-write session (R390). -/
def FlashOp.isImage : FlashOp → Bool
  | .program _ _ => true
  | .erase _ _ => true
  | _ => false

/-- The operation is one of those with which BEGIN makes the bank WRITING (R390); the end of the session leaves them. -/
def FlashOp.opensBank : FlashOp → Bool
  | .program a bs => decide (0x06800000 ≤ a) && bs == [0xFE]
  | .erase a _ => decide (0x06800000 ≤ a)
  | _ => false

/-- The operation is a staging or firmware read. -/
def FlashOp.isFetch : FlashOp → Bool
  | .fetch => true
  | _ => false

/-- A bit of a flash byte cleared (R377). -/
def State.flashClear (s : State) (a : Nat) (mask : Byte) : State := s.flashProgram a [~~~mask]

end Sys2Proof.Machine
end

