-- ==== Sys2Proof/Machine/Journal.lean ====
section
/-! DEFINITION. The life journal (R486-R492): the records, the sectors that hold them, writing and reading. -/

namespace Sys2Proof.Machine

/-! ### Calendar and life counters (R482, R491) -/

/-- AON cycles, of 32.768 kHz, since the state after reset. -/
def State.aonCycle (s : State) : Nat := s.now * 32768 / 1000000000

/-- The RTC in ticks of 32.768 kHz. -/
def State.rtcTicks (s : State) : Nat :=
  if s.aonCycle < s.alm.rtcAt then s.alm.rtcWas.1 + (s.aonCycle - s.alm.rtcWas.2) else s.alm.rtc + (s.aonCycle - s.alm.rtcAt)

/-- The RTC's whole seconds, 40 bits. -/
def State.rtcSec (s : State) : Nat := s.rtcTicks / 32768 % 2 ^ 40

/-- Power-on seconds not yet recorded (PWR.LIFE_SEC). -/
def State.lifeSec (s : State) : Nat :=
  min 0xFFFFFFFF (s.rd PWR.LIFE_SEC + match s.alm.lifeAt with
    | some a => (s.now - a) / 1000000000
    | none => 0)

/-- LIFE_SEC brought up to date; the fraction of a second goes on counting. -/
def State.lifeUpdate (s : State) : State :=
  let n := s.lifeSec
  (s.wr PWR.LIFE_SEC n).modAlm (fun a => { a with lifeAt := a.lifeAt.map (fun t => t + (s.now - t) / 1000000000 * 1000000000) })

/-- Power-on seconds, journal plus shadow. -/
def State.powerSec (s : State) : Nat := s.alm.posSec + s.lifeSec

/-- The seconds of the shadow that no grade has yet go to the grade in force (R487). The shadow has no grades: what it holds from
before this wake counts for the grade of the wake. DEDUCED (log entry 201). -/
def State.gradeSplit (s : State) : State :=
  let s := s.lifeUpdate
  let g := s.getF ALM.STAT 8 2
  s.modAlm (fun a => { a with gradeShadow := setNth a.gradeShadow g (nth 0 a.gradeShadow g + (s.rd PWR.LIFE_SEC - a.gradeShadow.sum)) })

/-- The shadow is added to the totals and cleared in the same cycle (R491). -/
def State.recordLife (s : State) : State :=
  let s := s.gradeSplit
  let s := s.modAlm (fun a => { a with posSec := a.posSec + s.rd PWR.LIFE_SEC, keyCyc := a.keyCyc + s.rd PWR.LIFE_KEY,
                                       gradeSec := (upto 3).map (fun g => nth 0 a.gradeSec g + nth 0 a.gradeShadow g), gradeShadow := [0, 0, 0] })
  (s.wr PWR.LIFE_SEC 0).wr PWR.LIFE_KEY 0

/-! ### Blocks (R487) -/

/-- A record before it has its place: TYPE, time, number of blocks, blocks. -/
structure Rec where
  type : Nat
  time : Nat
  n : Nat
  body : List Byte

/-- The total bytes of a record. -/
def Rec.len (r : Rec) : Nat := 20 + r.body.length

/-- The bytes of a record with SEQ `seq`. -/
def Rec.bytes (r : Rec) (seq : Nat) : List Byte :=
  let b := [0x4A, 0x52, BitVec.ofNat 8 r.type, 1] ++ leBytes 4 seq ++ leBytes 2 r.len ++ leBytes 2 r.n ++ leBytes 4 r.time ++ r.body
  b ++ leBytes 4 (crc32c b)

/-- A block: its ID, a reserved byte, its LEN, its data. -/
def block (id : Nat) (data : List Byte) : List Byte := leBytes 2 id ++ leBytes 2 data.length ++ data

/-- A signed value of `n` bytes, little-endian. -/
def leInt (n : Nat) (i : Int) : List Byte := leBytes n (tc (8 * n) i)

/-- The counters of the LINK block, in order (R487). -/
def linkCounters (n : Nat) : List Nat :=
  [LNK.CV_CNT n, LNK.DISP_CNT n, LNK.HCRC_CNT n, LNK.TCRC_CNT n, LNK.TRAIN_FAIL_CNT n, LNK.CLAMP_CNT n, LNK.LOS_CNT n, LNK.EIDLE_MISS_CNT n]

/-- Almanac reads the live counters of the links into its totals (R492). -/
def State.readLinks (s : State) : State :=
  s.each ((upto 16).flatMap (fun n => ((linkCounters n).zip (upto 8)).map (fun p => (8 * n + p.2, p.1)))) (fun s p =>
    let v := s.rd p.2
    let last := Map.get 0 s.alm.linkRead p.1
    let d := if v < last then v else v - last
    s.modAlm (fun a => { a with linkTotal := Map.set 0 a.linkTotal p.1 (Map.get 0 a.linkTotal p.1 + d), linkRead := Map.set 0 a.linkRead p.1 v }))

/-- The UNITS block. -/
def State.unitsBlock (s : State) : List Byte :=
  (upto 26).flatMap (fun u =>
    let r := Map.get {} s.alm.units u
    leBytes 1 (b2n r.oos + 2 * b2n r.suspect + 4 * b2n r.memFault) ++ leBytes 1 r.logic ++ leBytes 1 r.mem ++ [0] ++ leBytes 2 r.fails ++ leBytes 2 r.passes)

/-- The data of block `id` from the present state. -/
def State.blockData (s : State) (id : Nat) : List Byte :=
  let a := s.alm
  match id with
  | 0x01 => leBytes 8 a.posSec ++ leBytes 4 a.keyCyc ++ (upto 3).flatMap (fun g => leBytes 4 (nth 0 a.gradeSec g))
  | 0x02 => (upto 16).flatMap (fun i => leBytes 4 (nth 0 a.tempBins i)) ++ leInt 2 (a.tMax.getD 0) ++ leInt 2 (a.tMin.getD 0)
  | 0x03 =>
    let st := s.rd ALM.STAT
    leBytes 2 (s.rd ALM.AVS_STAT) ++ leBytes 1 a.grade ++ leBytes 1 (fld st 4 1 + 2 * fld st 3 1 + 4 * fld st 2 1)
      ++ leInt 2 ((a.low.map (·.1)).getD 0) ++ leBytes 1 ((a.low.map (·.2)).getD 0) ++ [0] ++ leBytes 4 a.upTotal ++ leBytes 4 a.downTotal
  | 0x04 =>
    (upto 48).flatMap (fun i => leInt 2 ((Map.get none a.monLow i).getD 0)) ++ (upto 8).flatMap (fun j => leBytes 4 (s.rd (ALM.RO_FREQ j)))
      ++ (upto 8).flatMap (fun j => leInt 2 ((Map.get none a.canLow j).getD 0))
  | 0x05 => (upto 128).flatMap (fun i => leBytes 4 (Map.get 0 a.linkTotal i))
  | 0x06 => s.unitsBlock
  | 0x07 => (upto 2).flatMap (fun p => (Map.get none a.ports p).getD (List.replicate 80 0))
  | 0x08 => leBytes 4 a.passes ++ leBytes 4 a.erases ++ leBytes 4 (nth 0 a.commits 0) ++ leBytes 4 (nth 0 a.commits 1)
  | 0x09 => ((a.grades.flatMap (fun (g : GradeChange) => leBytes 8 g.posSec ++ leBytes 1 g.old ++ leBytes 1 g.new ++ leBytes 2 g.mv ++ leBytes 4 g.rtc))
      ++ List.replicate 128 0).take 128
  | _ =>
    leBytes 8 s.rtcSec ++ leBytes 2 (s.rd PWR.UTC_OFS) ++ leBytes 1 (fld (s.rd PWR.RTC_STAT) 0 2 + 4 * fld (s.rd PWR.RTC_STAT) 4 2) ++ List.replicate 5 0

/-- The records of R488: for each kind its blocks. -/
def JrnlKind.blocks : JrnlKind → List Nat
  | .hourly => [1, 2, 3, 4, 8, 10]
  | .keyoff => [1, 2, 3, 4, 5, 6, 7, 8, 9, 10]
  | .event _ _ => [3, 6, 9]
  | _ => []

/-- The last block of a record that carries data of its own. -/
def State.ownBlock (s : State) (k : JrnlKind) : List (List Byte) :=
  match k with
  | .event code arg => [block 0x0B (leBytes 1 code ++ leBytes 1 arg ++ List.replicate 6 0)]
  | .trend link flags es =>
    [block 0x0C (leBytes 1 link ++ leBytes 1 flags ++ leBytes 2 es.length ++ leBytes 4 (Map.get 0 s.alm.linkTotal (8 * link + 5))
      ++ es.flatMap (fun e => leBytes 2 e.1 ++ [e.2.1, e.2.2]))]
  | .baseline link samples => [block 0x0D (leBytes 4 link ++ (samples ++ List.replicate 768 0).take 768)]
  | .key w => [block 0x0E w]
  | _ => []

/-- The record of kind `k` from the present state. -/
def State.recordOf (s : State) (k : JrnlKind) : Rec :=
  let bs := k.blocks.map (fun id => block id (s.blockData id)) ++ s.ownBlock k
  { type := k.type, time := s.rtcSec % 2 ^ 32, n := bs.length, body := bs.flatten }

/-! ### Reading (R489) -/

/-- The address of journal sector `i`. -/
def sectorAddr (i : Nat) : Nat := 0x06000000 + 4096 * (i % 2048)

/-- A sector header is in order (R486). -/
def sectorOk (h : List Byte) : Bool := h.take 2 == [0x41, 0x4C] && le (slice h 12 4) == crc32c (h.take 12)

/-- The records from offset `o` of a sector's bytes, each with its SEQ; the number of bad ones; the offset of the end. -/
def readRecords (b : List Byte) : Nat → Nat → List (Nat × Rec) × Nat × Nat
  | 0, o => ([], 0, o)
  | f + 1, o =>
    let h := slice b o 16
    let len := le (slice h 8 2)
    if (b.drop o).all (· == 0xFF) then ([], 0, if h.length < 16 then 4096 else o)
    else if h.length < 16 ∨ h.take 2 ≠ [0x4A, 0x52] then ([], 1, 4096)
    else if len < 20 ∨ 4080 < len ∨ 4096 < o + len then ([], 1, 4096)
    else
      let x := slice b o len
      let (rs, bad, e) := readRecords b f (o + len)
      if le (x.drop (len - 4)) = crc32c (x.take (len - 4)) then
        ((le (slice h 4 4), { type := (nth 0 h 2).toNat, time := le (slice h 12 4), n := le (slice h 10 2), body := slice x 16 (len - 20) }) :: rs, bad, e)
      else (rs, bad + 1, e)

/-- The records of journal sector `i`; none where its header is not in order. -/
def State.sectorRecords (s : State) (i : Nat) : List (Nat × Rec) × Nat × Nat :=
  let b := s.flashRead (sectorAddr i) 4096
  if sectorOk (b.take 16) then readRecords b 256 16 else ([], 0, 0)

/-- The blocks of a record: ID and data. -/
def readBlocks : Nat → List Byte → List (Nat × List Byte)
  | 0, _ => []
  | f + 1, b => if b.length < 4 then [] else (le (b.take 1), slice b 4 (le (slice b 2 2))) :: readBlocks f (b.drop (4 + le (slice b 2 2)))

/-- The data of the block of ID `id`. -/
def Rec.blk (r : Rec) (id : Nat) : Option (List Byte) := ((readBlocks r.n r.body).find? (fun p => p.1 == id)).map (·.2)

/-- What a record is the newest of: its type, and its link for TREND and BASELINE (R489). -/
def Rec.key (r : Rec) : Nat × Nat :=
  (r.type, match r.type with
    | 4 => le (((r.blk 0x0C).getD []).take 1)
    | 5 => le (((r.blk 0x0D).getD []).take 1)
    | _ => 0)

/-- The newest record of each kind among `rs`, newest first. -/
def newestOf (rs : List (Nat × Rec)) : List (Nat × Rec) :=
  rs.foldl (fun acc r =>
    if acc.any (fun x => x.2.key == r.2.key && decide (r.1 < x.1)) then acc
    else (acc.filter (fun x => x.2.key != r.2.key && decide (r.1 < x.1))) ++ [r] ++ (acc.filter (fun x => x.2.key != r.2.key && !decide (r.1 < x.1)))) []

/-- The 16 sectors that end at the head. -/
def windowSectors (head : Nat) : List Nat := (upto 16).map (fun i => (head + 2048 - 15 + i) % 2048)

/-! ### Writing (R486, R488-R491) -/

/-- The head sector. -/
def State.jrnlHead (s : State) : Nat := s.getF PWR.JRNL_PTR 0 11

/-- A journal sector is erased. -/
def State.jrnlErase (s : State) (i : Nat) : State :=
  let n := Map.get 0 s.nvm.erased (i % 2048) + 1
  ((s.flashErase (sectorAddr i) 4096).modNvm (fun v => { v with erased := Map.set 0 v.erased (i % 2048) n })).modAlm
    (fun a => { a with erases := max a.erases n })

/-- The head enters sector `i`: its header is written and the following sector erased (R486). -/
def State.jrnlEnter (s : State) (i : Nat) : State :=
  let h := [0x41, 0x4C, 0, 0] ++ leBytes 4 s.alm.seq ++ leBytes 4 (Map.get 0 s.nvm.erased i)
  let s := (s.flashProgram (sectorAddr i) (h ++ leBytes 4 (crc32c h))).modAlm (fun a => { a with at_ := 16, passes := if i = 0 then a.passes + 1 else a.passes })
  let s := (s.wr PWR.JRNL_PTR (2 ^ 31 + s.getF PWR.JRNL_PTR 30 1 * 2 ^ 30 + i)).wr ALM.JRNL_HEAD i
  s.jrnlErase (i + 1)

/-- The records in the oldest sector of the window that are the newest of their kind (R489). -/
def State.jrnlLeaving (s : State) : List Rec :=
  let w := windowSectors s.jrnlHead
  let all := w.flatMap (fun i => (s.sectorRecords i).1)
  let old := (s.sectorRecords (nth 0 w 0)).1
  (old.filter (fun r => !all.any (fun x => x.2.key == r.2.key && decide (r.1 < x.1)))).map (·.2)

/-- Record `r` fits into the head sector. -/
def State.jrnlFits (s : State) (r : Rec) : Bool := decide (s.alm.at_ + r.len ≤ 4096)

/-- Record `r` is written into the head sector. -/
def State.jrnlPut (s : State) (r : Rec) : State :=
  let s' := s.flashProgram (sectorAddr s.jrnlHead + s.alm.at_) (r.bytes s.alm.seq)
  let s' := (s'.wr ALM.JRNL_SEQ s.alm.seq).inc ALM.JRNL_WR_CNT
  s'.modAlm (fun a => { a with at_ := a.at_ + r.len, seq := a.seq + 1 })

/-- The head advances (R489): before it does, what would fall out of the window is copied to the head; what has no room left there
is copied to the new head. The latter is a DESIGN CHOICE (log entry 199). -/
def State.jrnlAdvance (s : State) : State :=
  let p := s.jrnlLeaving.foldl (fun (p : State × List Rec) r => if p.1.jrnlFits r then (p.1.jrnlPut r, p.2) else (p.1, p.2 ++ [r])) (s, [])
  p.2.foldl State.jrnlPut (p.1.jrnlEnter ((s.jrnlHead + 1) % 2048))

/-- A record is written at the head, which advances where it does not fit (R486, R489). -/
def State.jrnlWrite : Nat → Rec → State → State
  | 0, _, s => s
  | f + 1, r, s =>
    let s := if s.alm.at_ = 0 then (s.jrnlErase 0).jrnlEnter 0 else s
    if s.jrnlFits r then s.jrnlPut r else State.jrnlWrite f r s.jrnlAdvance

/-- What a record of kind `k` takes into the totals before it is composed (R491, R492). -/
def State.forRecord (s : State) (k : JrnlKind) : State :=
  let s := if k.blocks.contains 1 then s.recordLife else s
  match k with
  | .keyoff => s.readLinks
  | .trend _ _ _ => s.readLinks
  | _ => s

/-- The record of kind `k` is composed and written (R488, R491). -/
def State.writeRecord (s : State) (k : JrnlKind) : State :=
  let s := s.forRecord k
  let s := State.jrnlWrite 64 (s.recordOf k) s
  if k.blocks.contains 3 then s.modAlm (fun a => { a with low := none, monLow := if k.blocks.contains 4 then [] else a.monLow, canLow := if k.blocks.contains 4 then [] else a.canLow })
  else s

/-- A power loss or a reset cuts off what the flash is doing (R490): a record or a program leaves a first part of its bytes, an erase a
first part of its range. How far it had come is a free value (log entry 1). -/
def State.flashCut (s : State) : State :=
  match (s.flashRun.map FlashJob.op : Option FlashOp) with
  | some (.journal k) =>
    let r := (s.forRecord k).recordOf k
    let (f, s') := s.fresh
    if s.alm.at_ ≠ 0 ∧ s.jrnlFits r then s'.flashProgram (sectorAddr s.jrnlHead + s.alm.at_) ((r.bytes s.alm.seq).take (f % r.len)) else s
  | some (.program a bs) => let (f, s) := s.fresh; s.flashProgram a (bs.take (f % (bs.length + 1)))
  | some (.erase a len) => let (f, s) := s.fresh; s.flashErase a (f % (len + 1))
  | _ => s

/-- Almanac asks for a record; a HOURLY record that still waits stands for the new one (R488). -/
def State.askRecord (s : State) (k : JrnlKind) : State :=
  if k = .hourly ∧ s.nvm.ops.any (fun j => j.op == .journal .hourly) then s else s.flashPush (.journal k)

/-- A change of a unit's entry, with its EVENT record where the marks change (R411, R451, R466, R488). -/
def State.markUnit (s : State) (u : Nat) (f : UnitRec → UnitRec) : State :=
  let old := Map.get {} s.alm.units u
  let new := f old
  let s := s.modAlm (fun a => { a with units := Map.set {} a.units u new })
  s.when (old.oos != new.oos || old.suspect != new.suspect || old.memFault != new.memFault) (·.askRecord (.event 5 u))

/-- The clusters that the journal marks out of service (R404). -/
def State.journalOut (s : State) : List Nat := (upto 8).filter (fun k => (Map.get {} s.alm.units k).oos)

/-- The variant at boot: k + 1 for the lowest-numbered cluster k out of service, else 0 (R404). -/
def State.journalVariant (s : State) : Nat :=
  match s.journalOut with
  | k :: _ => k + 1
  | [] => 0

/-! ### The journal at a wake (R478, R489) -/

/-- The head sector that the headers show, where JRNL_PTR is not VALID: the highest FIRST_SEQ with a correct CRC. -/
def State.findHead (s : State) : Option Nat :=
  ((upto 2048).foldl (fun (best : Option (Nat × Nat)) i =>
    let h := s.flashRead (sectorAddr i) 16
    if sectorOk h then
      match best with
      | some (q, _) => if q < le (slice h 4 4) then some (le (slice h 4 4), i) else best
      | none => some (le (slice h 4 4), i)
    else best) none).map (·.2)

/-- The power-on seconds when the record of SEQ `seq` was written, as far as the records tell: those of the newest LIFE block up to it.
A TREND or BASELINE record holds none. DESIGN CHOICE (log entry 200). -/
def lifeUpTo (all : List (Nat × Rec)) (seq : Nat) : Nat :=
  all.foldl (fun m r => if seq < r.1 then m else max m (le (slice ((r.2.blk 1).getD []) 0 8))) 0

/-- Almanac's totals from the newest records `rs` of the records `all` of the window. -/
def AlmState.load (a : AlmState) (all rs : List (Nat × Rec)) : AlmState :=
  let blk := fun (id : Nat) => ((rs.map (fun r => r.2.blk id)).find? (·.isSome)).join.getD []
  let life := blk 1
  let temp := blk 2
  let avs := blk 3
  let mon := blk 8
  let unit := fun (i : Nat) => slice (blk 6) (8 * i) 8
  let port := fun (p : Nat) => slice (blk 7) (80 * p) 80
  { a with
    posSec := le (slice life 0 8), keyCyc := le (slice life 8 4), gradeSec := (upto 3).map (fun g => le (slice life (12 + 4 * g) 4)),
    tempBins := (upto 16).map (fun i => le (slice temp (4 * i) 4)),
    tMax := if temp.isEmpty then none else some (sx 16 (le (slice temp 64 2))),
    tMin := if temp.isEmpty then none else some (sx 16 (le (slice temp 66 2))),
    grade := le (slice avs 2 1) % 3, jrnlMv := if avs.isEmpty then 750 else le (slice avs 0 2), upTotal := le (slice avs 8 4), downTotal := le (slice avs 12 4),
    linkTotal := (upto 128).foldl (fun m i => Map.set 0 m i (le (slice (blk 5) (4 * i) 4))) [],
    units := (upto 26).foldl (fun m i =>
      let b := fun (j : Nat) => (nth 0 (unit i) j).toNat
      Map.set {} m i { oos := bitOf (b 0) 0, suspect := bitOf (b 0) 1, memFault := bitOf (b 0) 2, logic := b 1 % 8, mem := b 2 % 8,
                       fails := le (slice (unit i) 4 2), passes := le (slice (unit i) 6 2) }) [],
    ports := (upto 2).foldl (fun m p => Map.set none m p (if nth 0 (port p) 0 = 0 then none else some (port p))) [],
    passes := le (slice mon 0 4), erases := le (slice mon 4 4), commits := [le (slice mon 8 4), le (slice mon 12 4)],
    grades := ((upto 8).map (fun i =>
      let g := slice (blk 9) (16 * i) 16
      { posSec := le (slice g 0 8), old := le (slice g 8 1), new := le (slice g 9 1), mv := le (slice g 10 2), rtc := le (slice g 12 4) })).filter (fun g => g.mv != 0),
    base := rs.foldl (fun m r => if r.2.type = 5 then Map.set none m (r.2.key.2 % 16) (some (((r.2.blk 0x0D).getD []).drop 4)) else m) [],
    sounded := rs.foldr (fun r m => if r.2.type = 4 ∨ r.2.type = 5 then Map.set none m (r.2.key.2 % 16) (some (r.2.time, true, lifeUpTo all r.1)) else m) [],
    keyoffRes := match rs.find? (fun r => r.2.type == 2) with
      | some r => (upto 26).map (fun i => (nth 0 (slice ((r.2.blk 6).getD []) (8 * i) 8) 1).toNat % 8)
      | none => [],
    wrapped := (rs.find? (fun r => r.2.type == 6)).bind (fun r => r.2.blk 0x0E) }

/-- The firmware reads the journal (R404, R478, R489, R490). -/
def State.readJournal (s : State) : State :=
  let head := if s.bit PWR.JRNL_PTR 31 then some s.jrnlHead else s.findHead
  let lost := s.bit PWR.JRNL_PTR 30
  let s := s.putBit ALM.STAT 5 lost
  match head with
  | none => (s.wr PWR.JRNL_PTR 0).modAlm (fun a => { (a.load [] []) with at_ := 0, seq := 0 })
  | some h =>
    let secs := (windowSectors h).map (fun i => s.sectorRecords i)
    let all := secs.flatMap (·.1)
    let bad := (secs.map (fun x => x.2.1)).sum
    let last := (s.sectorRecords h).2.2
    let seq := (all.map (·.1)).foldl max 0
    let s := ((s.wr PWR.JRNL_PTR (2 ^ 31 + h)).wr ALM.JRNL_HEAD h).wr ALM.JRNL_SEQ seq
    let s := (s.incBy ALM.JRNL_BAD_CNT bad).when (bad != 0) (·.setBit ALM.EVT 9)
    s.modAlm (fun a => { (a.load all (newestOf all)) with at_ := if last = 0 then 4096 else last, seq := if all.isEmpty then 0 else seq + 1 })

end Sys2Proof.Machine
end

