-- ==== Sys2Proof/Machine/Sched.lean ====
section
/-! DEFINITION. Schedule control (spec/10_ephemeris_contract.md): swap requests, staging, swap points, switch slots, periods
and slots. -/

namespace Sys2Proof.Machine

/-! ### Swap requests (R361, R362, R366) -/

/-- A part of the state of schedule control changed by `f`. -/
def State.modSched (s : State) (f : SchedState → SchedState) : State := { s with sched := f s.sched }

/-- T of a set, 2^-40 ns. -/
def TableSet.period (t : TableSet) : Nat := t.period16 * 2 ^ 24

/-- The first multiple of the period `p` at or after `t`; `t` where there is no period (R311). -/
def gridAfter (p t : Nat) : Nat := if p = 0 then t else (t + p - 1) / p * p

/-- A duration in ms, 2^-40 ns. -/
def msTime (ms : Nat) : Nat := ms * 1000000 * 2 ^ 40

/-- The earliest S of a request that arrives now (R361). -/
def State.leadTime (s : State) : Nat := s.time.dt + msTime (s.getF SCHED.SWAP_CFG 0 16)

/-- S of a swap: the first period start of the set in force at or after `after`; 0 while no set is in force (R361). -/
def State.swapPoint (s : State) (after : Nat) : Nat :=
  if s.sched.cur.period = 0 then 0 else gridAfter s.sched.cur.period after

/-- The clock of a swap's guard: S minus GO_GUARD_MS has passed (R366). -/
def State.afterGuard (s : State) (n : Swap) : Bool :=
  n.at_ != 0 && decide (n.at_ ≤ s.time.dt + msTime (s.getF SCHED.SWAP_CFG 16 8))

/-- The place of a table set in the image (R383). -/
def State.setId (s : State) (scene grade variant : Nat) : Nat := scene + 256 * grade + 65536 * variant + 16777216 * s.position

/-- The base of the running bank. -/
def State.bankBase (s : State) : Nat := 0x03000000 * s.nvm.bank.getD 0

/-- The section of a type and identity in the running image (R383). -/
def State.section? (s : State) (type id : Nat) : Option Section := s.nvm.sections.find? (fun x => x.type == type && x.id == id)

/-- A section in clear (R388): decrypted where it is encrypted; none without the image-decrypt key. -/
def State.clearBytes (s : State) (x : Section) : Option (List Byte) :=
  let b := s.flashRead (s.bankBase + x.offset) x.length
  if !x.enc then some b else s.nvm.decryptKey.map (fun k => ctrCipher k x.iv b)

/-- The header of a table set of the image. -/
def State.setHeader (s : State) (scene grade variant : Nat) : Option TableSet :=
  ((s.section? 2 (s.setId scene grade variant)).bind s.clearBytes).map (parseSet · {})

/-- A message of a chain swap (R367, R368); a SEQ of 0 stands as 256. -/
def State.chainReport (s : State) (n : Swap) (cmd code : Nat) : ChainMsg :=
  { cmd := cmd, seq := n.seq % 256, scene := n.scene, code := code, swapNs := n.at_ / 2 ^ 40, planId := n.planId.getD 0, position := s.position }

/-- SEQ of the next PREP (R367). -/
def nextSeq (seq : Nat) : Nat := if seq % 256 = 255 then 256 else seq % 256 + 1

/-- The swap `w` becomes the pending one (R361), at no faster grade than the present one (R481). At position 0 a chain swap, whose `seq` is not 0, goes out in a PREP with a SEQ of
its own, unless a PREP with this SEQ and S is out already (R367). -/
def State.newSwap (s : State) (w : Swap) : State :=
  let head := s.setHeader w.scene (max w.grade s.alm.grade) w.variant
  let at_ := if s.sched.cur.period = 0 ∧ w.seq ≠ 0 then gridAfter ((head.map (·.period)).getD 0) w.after else s.swapPoint w.after
  let n : Swap := { w with at_ := at_, staging := w.kind != .acquisition, drain := false, set := none, deferred := w.deferred && w.at_ == at_, grade := max w.grade s.alm.grade }
  let out := w.seq != 0 && s.position == 0 && !s.sched.chainOut.any (fun m => m.seq == w.seq % 256 && m.swapNs == at_ / 2 ^ 40 && m.scene == w.scene)
  let n : Swap := if out then { n with seq := nextSeq s.sched.chainSeq, planId := head.map (·.planId) } else n
  let s := s.modSched (fun c => { c with next := some n })
  let s := if out then s.modSched (fun c => { c with chainSeq := n.seq, chainOut := some (s.chainReport n 1 0), prepLeft := 3, cancelLeft := 0 }) else s
  s.when (w.kind != .acquisition && !s.nvm.ops.any (fun j => j.op.isFetch)) (·.flashPush .fetch)

/-- The reason of a swap that a further request joins: the latest, but a scene selection or the boot stays the reason where a
change of grade or variant joins it (R366, R394). -/
def SwapKind.join (old new : SwapKind) : SwapKind :=
  match new with
  | .grade => old
  | .variant => old
  | k => k

/-- The swap `b` joined by a request (R366): the parts of the set that it names, and the PREP it follows. -/
def Swap.joined (b : Swap) (kind : SwapKind) (scene grade variant : Option Nat) (seq : Nat) (planId : Option Nat) : Swap :=
  { b with kind := b.kind.join kind, scene := scene.getD b.scene, grade := grade.getD b.grade, variant := variant.getD b.variant,
           seq := if seq = 0 then b.seq else seq, planId := if seq = 0 then b.planId else planId, graded := b.graded || kind == .grade }

/-- A swap that keeps the scene, grade and variant given, for a request of `kind` to join. -/
def Swap.from_ (kind : SwapKind) (scene grade variant after : Nat) : Swap :=
  { kind := kind, scene := scene, grade := grade, variant := variant, after := after, at_ := 0 }

/-- The earliest S of the pending swap `n` once a request with the earliest S `after` has joined it (R361, R366): at positions 1 to 3
a PREP sets it, and no local request moves the S of a chain swap; else S, put off or not, moves only where the lead no longer fits. -/
def State.joinedAfter (s : State) (n : Swap) (after seq : Nat) : Nat :=
  if s.position ≠ 0 ∧ seq ≠ 0 then after
  else if s.position ≠ 0 ∧ n.seq ≠ 0 then n.after
  else max n.at_ after

/-- A request for a swap (R361, R366): the parts of the set it names, the earliest S, and the PREP it follows. -/
def State.requestSwap (s : State) (kind : SwapKind) (scene grade variant : Option Nat) (after seq : Nat) (planId : Option Nat) : State :=
  let c := s.sched.cur
  match s.sched.next with
  | none => s.newSwap ((Swap.from_ kind c.scene c.grade c.variant after).joined kind scene grade variant seq planId)
  | some n =>
    if kind = .acquisition then
      if n.kind = .acquisition then s
      else if s.afterGuard n then s.modSched (fun x => { x with stepWaits := true })
      else (s.modSched (fun x => { x with waiting := some n })).newSwap (Swap.from_ .acquisition c.scene c.grade c.variant after)
    else if n.kind = .acquisition ∨ (n.kind = .early ∧ kind = .boot) ∨ s.afterGuard n then
      let base := if n.kind = .acquisition ∨ n.kind = .early then Swap.from_ kind c.scene c.grade c.variant after else Swap.from_ kind n.scene n.grade n.variant after
      let w := s.sched.waiting.getD base
      s.modSched (fun x => { x with waiting := some { w.joined kind scene grade variant seq planId with after := s.joinedAfter w after seq } })
    else s.newSwap { n.joined kind scene grade variant seq planId with after := s.joinedAfter n after seq }

/-- What waited becomes the pending swap: an acquisition step first, alone (R366). A chain swap at positions 1 to 3 keeps the S of its
PREP. -/
def State.nextRequest (s : State) : State :=
  let c := s.sched.cur
  if s.sched.stepWaits then
    (s.modSched (fun x => { x with stepWaits := false })).newSwap (Swap.from_ .acquisition c.scene c.grade c.variant s.leadTime)
  else
    match s.sched.waiting with
    | none => s
    | some w =>
      (s.modSched (fun x => { x with waiting := none })).newSwap { w with after := if s.position ≠ 0 ∧ w.seq ≠ 0 then w.after else s.leadTime }

/-- The pending swap is dropped; a grade that was to be taken with it can be asked for again (R480). -/
def State.dropSwap (s : State) : State :=
  let graded := s.sched.next.any (·.graded)
  let s := (s.modSched (fun x => { x with next := none })).when graded (·.modAlm (fun a => { a with asked := none }))
  (s.flashDrop FlashOp.isFetch).nextRequest

/-- A chain swap is not taken (R368). -/
def State.chainMissed (s : State) (n : Swap) (code : Nat) : State :=
  (s.setBit SCHED.EVT 4).modSched (fun x => { x with report := some (s.chainReport n 4 code) })

/-- The variants that stand for a cluster out of service now or after a swap that is requested (R343). -/
def State.outVariants (s : State) : List Nat :=
  (s.sched.oos.map (· + 1) ++ (s.sched.next.toList ++ s.sched.waiting.toList).map (fun (n : Swap) => n.variant)).filter (· != 0)

/-- A cluster is asked out of service (R343); false: a second one, which is refused. -/
def State.requestOos (s : State) (k : Nat) : Bool × State :=
  if s.outVariants.any (· != k + 1) then (false, (s.inc SCHED.MULTI_OOS_CNT).setBit SCHED.EVT 6)
  else (true, s.requestSwap .variant none none (some (k + 1)) s.leadTime 0 none)

/-- A change of variant is asked for (R211, R343, R366): an admission, only after each cluster out of service has passed its latest
test, or a cluster taken out. -/
def State.requestVariant (s : State) (v : Nat) : State :=
  if v = 0 then s.when (s.sched.oos.all s.bist.passed.contains) (·.requestSwap .variant none none (some 0) s.leadTime 0 none)
  else (s.requestOos (v - 1)).2

/-! ### Staging (R356, R361, R385) -/

/-- A section fetched again does not match its kept digest (R385). Early sections have none (R383). -/
def State.mismatch (s : State) (x : Section) : Bool :=
  !x.early && Config.sha256 (s.flashRead (s.bankBase + x.offset) x.length) != x.digest

/-- The section of the engine program of cluster `k` for a scene (R383). -/
def State.program? (s : State) (scene k : Nat) : Option Section := s.section? 3 (scene + 256 * s.position + 65536 * k)

/-- The engine programs that a set needs (R178, R361). -/
def State.programsOf (s : State) (t : TableSet) (scene : Nat) : List Section :=
  ((upto 8).filter (fun k => t.runs (35 + k))).filterMap (s.program? scene)

/-- What the load checks of a set look at. -/
def State.loadInfo (s : State) (b : List Byte) (loads : SetLoads) (scene grade variant : Nat) (plan : Option Nat) : LoadInfo :=
  let t := parseSet b loads
  let mine := s.setId scene grade variant
  let others := (s.nvm.sections.filter (fun x => x.type == 2 && x.id % 256 == scene && x.id / 16777216 == s.position && x.id != mine)).filterMap s.clearBytes
  { bytes := b, set := t, scene := scene, grade := grade, variant := variant, plans := others.map (leAt · 24 4) ++ plan.toList,
    latencies := others.map statedLatencies, noKey := (s.programsOf t scene).any (fun x => (s.clearBytes x).isNone),
    programs := (upto 8).map (fun k => (s.program? scene k).map (·.length)) }

/-- A set fails its load checks (R356): SET_BAD, the first failure, the count. -/
def State.loadFails (s : State) (scene grade variant code dir : Nat) : State :=
  let s := s.putBit (SCHED.SET_BAD scene) (9 * grade + variant) true
  let s := s.when (!s.bit SCHED.LOAD_ERR 31) (·.wr SCHED.LOAD_ERR
    (2 ^ 31 + code * 2 ^ 24 + dir * 2 ^ 16 + scene * 2 ^ 12 + grade * 2 ^ 10 + variant * 2 ^ 6))
  (s.inc SCHED.LOAD_ERR_CNT).setBit SCHED.EVT 1

/-- A section read for staging does not match its digest, nor when the read is repeated (R385, R392). -/
def State.fetchFails (s : State) (x : Section) : State :=
  ((s.imageError (s.nvm.bank.getD 0) (11, 2, x.index)).inc NVM.FETCH_ERR_CNT).setBit NVM.EVT 2

/-- A table set fetched and checked (R356, R361, R385, R388): the set, or the code of its failure. -/
def State.loadSet (s : State) (scene grade variant : Nat) (plan : Option Nat) (loads : SetLoads) : Except Nat TableSet × State :=
  if s.bit (SCHED.SET_BAD scene) (9 * grade + variant) then (.error 1, s)
  else
    match s.section? 2 (s.setId scene grade variant) with
    | none => (.error 3, s.loadFails scene grade variant 3 0)
    | some x =>
      if s.mismatch x then (.error 1, (s.fetchFails x).loadFails scene grade variant 1 0)
      else
        match s.clearBytes x with
        | none => (.error 12, s.loadFails scene grade variant 12 0)
        | some b =>
          let x := s.loadInfo b loads scene grade variant plan
          match (s.programsOf x.set scene).find? s.mismatch with
          | some p => (.error 1, (s.fetchFails p).loadFails scene grade variant 1 0)
          | none =>
            match s.loadCheck x with
            | some (c, d) => (.error c, s.loadFails scene grade variant c d)
            | none => (.ok x.set, s)

/-- The main pass or the service set leaves no service scene for this wake (R406): EARLY_ONLY and REASON 8 (R417). -/
def State.earlyOnly (s : State) : State := s.noService.putF PWR.MODE 8 4 8

/-- The image holds every set of a scene at this position: 3 grades by 9 variants (R341). -/
def State.sceneHeld (s : State) (n : Nat) : Bool :=
  (upto 3).all (fun g => (upto 9).all (fun v => (s.section? 2 (s.setId n g v)).isSome))

/-- The pending swap is cancelled because its set failed with `code` (R366, R368, R406). -/
def State.rejectSwap (s : State) (n : Swap) (code : Nat) : State :=
  let s := s.setBit SCHED.EVT 2
  let s := s.when (n.seq != 0) (·.chainMissed n code)
  let s := if n.graded then ((s.setBit ALM.EVT 4).modAlm (fun a => { a with asked := none, refused := some n.grade })).askRecord (.event 3 n.grade) else s
  let service := n.kind == .boot && n.scene == s.sched.wantScene && decide (s.mode = 2 ∨ s.mode = 3) && s.position == 0
  if service then
    let d := s.nvm.config.defaultScene
    if n.scene = d ∨ !s.sceneHeld d then (s.dropSwap).earlyOnly
    else (s.modSched (fun x => { x with wantScene := d, next := none })).newSwap { n with scene := d, after := s.leadTime, planId := none }
  else s.dropSwap

/-- The domains a set needs are asked for (R29, R361). -/
def State.powerFor (s : State) (t : TableSet) : State :=
  s.each ((upto 8).filter (fun d => t.uses d && (s.dom d == .off || s.dom d == .falling))) (fun s d => s.domRequest d true)

/-- The clusters a set uses have their programs loaded in the inactive half (R178, R361). -/
def State.loadPrograms (s : State) (t : TableSet) : State :=
  s.each ((upto 8).filter (fun k => t.runs (35 + k))) (fun s k =>
    (s.modCl k (fun c =>
      let half := 16384 * (1 - c.imemAct)
      { c with imemRdy := true, imem := (nth [] t.loads.imem k).foldl (fun m p =>
          let a := 32768 * p.1 + half
          Memory.write (Map.clear m a (a + 16384)) a (p.2.take 16384)) c.imem })).setBit (CLU.EVT k) 9)

/-- Staging of the pending swap completes with the sections of SetLoads as `loads` (R361, R363, R364). -/
def State.stagingDone (s : State) (loads : SetLoads) : State :=
  match s.sched.next with
  | none => s
  | some n =>
    if !n.staging then s
    else
      match s.loadSet n.scene n.grade n.variant n.planId loads with
      | (.error c, s) => s.rejectSwap n c
      | (.ok t, s) =>
        let first := s.sched.cur.period == 0
        let drain := !first && swapDrains s.sched.cur t
        let at_ := if first && n.seq == 0 then gridAfter t.period (max n.after s.time.dt) else if n.at_ = 0 then gridAfter t.period n.after else n.at_
        let s := s.flashDrop FlashOp.isFetch
        let s := s.modSched (fun x => { x with next := some { n with staging := false, set := some t, drain := drain, at_ := at_ } })
        (s.loadPrograms t).powerFor t

/-- The swap is ready (R362). -/
def State.swapReady (s : State) (n : Swap) : Bool :=
  n.kind == .acquisition || (!n.staging && match n.set with
    | none => false
    | some t => (upto 8).all (fun k => !t.runs (35 + k) || (s.cl k).imemRdy) && (upto 8).all (fun d => !t.uses d || s.domOn d))

/-! ### Switch slots (R355, R363, R365) -/

/-- A front end takes its geometry, queues and registers from the new set (R97, R121, R365). -/
def State.switchFe (s : State) (n : Nat) (t : TableSet) : State :=
  let old := s.feAbsent n
  let used := t.runs (16 + n)
  let load := t.loads.fes.find? (fun f => f.fe == n)
  let s := s.modFe n (fun f => { f with inScene := used, lineQ := (load.map (·.lineQ)).getD f.lineQ, embQ := load.bind (·.embQ), statQs := (load.map (·.statQs)).getD [] })
  let s := s.when used (·.imageWrite (FE.GEOM n) (nth (0, []) t.fe n).1)
  let mine := ((load.map (·.regs)).getD []).filter (fun p => decide (FE.CTL n ≤ p.1) && decide (p.1 < FE.CTL n + 0x10000))
  let s := s.each mine (fun s p =>
    let s := s.imageWrite p.1 p.2.toNat
    s.when ((feShadowed n).contains p.1) (·.setSh p.1 (s.rd p.1)))
  s.fePresence n old

/-- The assigned bits of the context-header word at offset `o` (R183): the others read 0. -/
def hdrMask (o : Nat) : Nat :=
  match o with
  | 0x000 => 0xFFE0FF00
  | 0x004 => 0x3FFFFFFF
  | 0x008 => 0x1FFF1FFF
  | 0x00C => 0xFFFFFFFF
  | 0x010 => 0x1FFF1FFF
  | 0x014 => 0xFF01FFFF
  | _ => if 0x040 ≤ o ∧ o < 0x080 then 0x1FFF1FFF else 0

/-- A context initialised from the context image, or emptied where the image does not give it (R211, R355). -/
def State.initContext (s : State) (k x : Nat) (img : Option CtxImage) : State :=
  let base := 0x10000 * x
  let old := s.ctxWord k x 0
  let word := match img with
    | some c => c.word 0
    | none => 0
  let keep := img.isSome && bitOf word 20 && fld old 24 5 == fld word 24 5 && fld old 8 8 == fld word 8 8
  s.modCl k (fun c =>
    let m := Map.clear c.ctx base (base + (if keep then 0x2000 else 0x10000))
    let m := match img with
      | none => m
      | some i =>
        let m := Memory.write m base (((upto i.header.length).zip i.header).flatMap (fun p => leBytes 4 (p.2.toNat &&& hdrMask (4 * p.1))))
        if keep then m
        else i.params.foldl (fun m p => Memory.writeWord (Memory.writeWord m (base + 0x2000 + p.1) p.2.toNat) (base + 0x9000 + p.1) p.2.toNat) m
    { c with ctx := m, copying := c.copying.filter (fun p => p.1 != x), noTarget := c.noTarget.filter (· != x), skipSubmit := c.skipSubmit.filter (fun p => p.1 != x) })

/-- A cluster takes the swap point: instruction-memory halves, contexts, grade clock and service state (R178, R209, R211,
R365). -/
def State.switchClu (s : State) (k : Nat) (t : TableSet) : State :=
  let s := s.each (upto 8) (fun s x => s.initContext k x ((t.images k).find? (fun c => c.ctx == x)))
  s.modCl k (fun c =>
    let svc := if c.svc = 4 then 4 else if t.variant = k + 1 ∨ s.sched.oos.contains k then 1
      else if !s.domOn (seqDomain (35 + k)) then 0 else if t.runs (35 + k) then 3 else 2
    { c with imemAct := if c.imemRdy then 1 - c.imemAct else c.imemAct, imemRdy := false, grade := t.grade, svc := svc })

/-- The registers of a block window that a set loads (R347, R365): those from `lo` up to `hi`. -/
def State.loadRegs (s : State) (t : TableSet) (lo hi : Nat) : State :=
  s.each (t.loads.regs.filter (fun p => decide (lo ≤ p.1) && decide (p.1 < hi))) (fun s p => s.imageWrite p.1 p.2.toNat)

/-- What decides the frozen-frame test of stream `st`: its check regions, and its enabled sample slots with their settings. -/
def State.presChecks (s : State) (st : Nat) : List Nat × List (Nat × Nat × Nat × Nat) :=
  ((upto 8).flatMap (fun r => [s.rd (PRES.CHK_POS st r), s.rd (PRES.CHK_SIZE st r), s.rd (PRES.CHK_CFG st r), s.rd (PRES.CHK_EXP st r)]),
   (s.sampleSlots st).map (fun j => (j, s.rd (PRES.FRZ_CFG j), s.rd (PRES.FRZ_WIN j), s.rd (PRES.FRZ_WSIZE j))))

/-- Garnet and the packetiser take the new set (R253, R275-R277): the PRES registers it loads, the check regions and windows of
every stream at its values, or at reset where it gives none, in both copies. A stream whose format, size, check regions or
sample slot change loses PREV. -/
def State.switchPres (s : State) (t : TableSet) : State :=
  let s' := s.each ((upto 64).flatMap s.presShadowed) (fun s a => s.wr a (regReset a).toNat)
  let s' := s'.loadRegs t 0x10090000 0x100A0000
  let s' := s'.each ((upto 64).flatMap s'.presShadowed) (fun s a => s.setSh a (s.rd a))
  s'.each (upto 64) (fun s' st =>
    let c := (t.stream st).getD {}
    let p := s'.pkt st
    let moved := p.cfg.fmt != c.fmt || p.cfg.outW != c.outW || p.cfg.outH != c.outH
    let checks := s.presChecks st != s'.presChecks st
    let s' := s'.when moved (·.modPkt st (fun p => { p with first := true }))
    s'.when (moved || checks) (·.modGrn st (fun g => { g with prev := none })))

/-- A queue's configuration of the new set takes effect (R147, R365): of a queue that an old CARRY entry uses, at the later switch
slot of its producer and consumer; of any other queue of a front end, at the front end's switch slot; else at the swap point. -/
def State.queueSwitched (s : State) (c : QueueCfg) : Bool :=
  let ok := fun (p : Nat) => decide (29 ≤ p) || s.sched.switched.contains (portOwner p)
  if (s.tableSet true).carryQueues.contains c.queue then ok c.prod && ok c.cons else decide (18 ≤ c.prod) || ok c.prod

/-- The queues that may take the configuration of the set in force do so (R147, R365). -/
def State.switchQueues (s : State) : State :=
  let cs := s.sched.cur.store.queues
  let s := s.each (s.cfs.queues.map (·.1)) (fun s q =>
    if cs.any (fun c => c.queue == q) then s
    else if s.queueSwitched { queue := q, en := true, sched := true, prod := (s.q q).prod, cons := (s.q q).cons, reserve := 0, quota := 0, hi := 0, lo := 0 } then s.disableQueue q
    else s)
  s.each (cs.filter s.queueSwitched) (fun s c =>
    let x := s.q c.queue
    if x.en && !s.queueSwitched { c with prod := x.prod, cons := x.cons } then s else s.configQueue c)

/-- Sequencer `q` starts on the new set (R363, R365). -/
def State.doSwitch (s : State) (q : Nat) : State :=
  if s.sched.switched.contains q then s
  else
    let t := s.sched.cur
    let s := s.modSched (fun x => { x with switched := x.switched ++ [q] })
    let s := if q < 16 then s
      else if q < 34 then s.switchFe (q - 16) t
      else if q = 34 then s
      else if q < 43 then s.switchClu (q - 35) t
      else if q = 43 then s.switchPres t
      else if q = 44 then s.loadRegs t 0x10080000 0x10090000
      else (s.each (upto 18) (fun s c => s.wr (TIME.CAM_DLY c) 0)).loadRegs t 0x10070000 0x10080000
    if s.cfs.ready then s.switchQueues else s

/-! ### Swap points (R362-R366, R394) -/

/-- A unit of the scene in force is out of service, or its variant is not 0 (R410). -/
def State.degraded (s : State) : Bool :=
  s.sched.cur.variant != 0 || s.feOos.any (fun n => s.sched.cur.runs (16 + n))

/-- The state sector of a bank (R375). -/
def stateSector (b : Nat) : Nat := 0x06800000 + 0x10000 * b

/-- A bit of a bank's state byte is cleared, and NVM.BANK_STAT shows it (R377, R378). -/
def State.bankState (s : State) (b bit : Nat) : State :=
  let s := s.flashClear (stateSector b) (BitVec.ofNat 8 (2 ^ bit))
  s.putF (NVM.BANK_STAT b) 24 8 (s.flashByte (stateSector b)).toNat

/-- The running bank enters CONFIRMED: the rollback value and the revocations follow (R379, R387, R407). -/
def State.confirmBank (s : State) : State :=
  match s.nvm.bank with
  | none => s
  | some b =>
    if !bitOf (s.flashByte (stateSector b)).toNat 3 then s
    else
      let h := s.flashRead (s.bankBase + 9) 3
      let flags := (nth 0 h 0).toNat
      let key := (nth 0 h 1).toNat
      let svn := (nth 0 h 2).toNat
      let s := (s.bankState b 3).putF NVM.OTP_STAT 0 7 (max (s.getF NVM.OTP_STAT 0 7) svn)
      s.when (bitOf flags 0) (fun s => s.putF NVM.OTP_STAT 24 4 (s.getF NVM.OTP_STAT 24 4 ||| (2 ^ (key % 4) - 1)))

/-- The mode that follows a set taking effect (R394, R410). -/
def State.modeAtSwap (s : State) (kind : SwapKind) : State :=
  let service := if s.degraded then 5 else 4
  if kind = .early then (if s.mode = 2 then s.setMode 3 2 else s)
  else if s.mode = 2 ∨ s.mode = 3 then (if kind = .boot ∨ kind = .scene then (s.setMode service 3).confirmBank else s)
  else if s.mode = 4 ∨ s.mode = 5 then s.setMode service 4
  else s

/-- The grade of a set that takes effect (R481, R487, R496). -/
def State.gradeAtSwap (s : State) (g : Nat) : State :=
  let old := s.alm.grade
  let s := (s.when (g != old) (·.gradeSplit)).putF ALM.STAT 8 2 g
  if g = old then s
  else
    let c : GradeChange := { posSec := s.powerSec, old := old, new := g, mv := s.rd ALM.AVS_STAT, rtc := s.rtcSec % 2 ^ 32 }
    let s := s.modAlm (fun a => { a with grade := g, asked := none, refused := none, grades := (a.grades ++ [c]).drop (a.grades.length - 7) })
    (s.putBit ALM.STAT 4 false).askRecord (.event 2 g)

/-- Tasks in progress belong to the old set from now on (R363). -/
def State.ageTasks (s : State) : State :=
  s.each (upto 8) (fun s k => s.modCl k (fun c => { c with
    tasks := c.tasks.map (fun t => if t.idx < 1024 then { t with idx := t.idx + 1024 } else t),
    engines := c.engines.map (fun p => (p.1, if p.2.task < 1024 ∧ p.2.phase ≠ .idle then { p.2 with task := p.2.task + 1024 } else p.2)) }))

/-- A swap to a set at its swap point (R356-R365, R403, R417). -/
def State.takeSet (s : State) (n : Swap) (t : TableSet) : State :=
  let first := s.sched.cur.period == 0
  let gen := fld (s.rd SCHED.CUR) 16 16 + 1
  let s := s.ageTasks
  let s := s.modSched (fun x => { x with
    old := if first then none else some x.cur, cur := t, next := none, draining := n.drain, overlap := true, stepping := false, fresh := first, switched := [], autoOffDue := true,
    oos := if t.variant = 0 then [] else [t.variant - 1] })
  let s := ((s.inc SCHED.SWAP_CNT).setBit SCHED.EVT 0).putF SCHED.CUR 16 16 gen
  let s := s.when n.drain (fun s => (s.inc SCHED.DRAIN_CNT).setBit SCHED.EVT 3)
  let s := s.each (upto 18) (fun s c => match t.loads.tols.find? (fun x => x.1 == c) with
    | some (_, lt, rs) => s.wr (SCHED.TOL c) (65536 * rs + lt)
    | none => s.wr (SCHED.TOL c) 0)
  let s := s.when first (fun s => (s.bootMark 1).loadWatermarks t.store.queues)
  let s : State := if s.pres.drawRdy then s
    else { s with pres := { s.pres with draw := t.loads.draw.foldl (fun m p => Memory.write m p.1 p.2) s.pres.draw, drawRdy := true } }
  let s := s.when (n.kind == .scene && s.position == 0) (·.wr PWR.LAST_SCENE (2 ^ 31 + t.scene))
  let s := s.when (n.seq != 0) (fun s => s.modSched (fun x => { x with report := some (s.chainReport n 3 0) }))
  let s := (s.modeAtSwap n.kind).gradeAtSwap t.grade
  let s := if t.variant = 0 then { s with bist := { s.bist with passed := [], fullPass := [] } } else s
  let s := s.when (first && s.time.stepPend.isSome) (·.requestSwap .acquisition none none none s.leadTime 0 none)
  if n.drain then s
  else s.each ((upto 46).filter (fun q => first || (s.sched.old.getD {}).switchSlot q == 0)) (fun s q => s.doSwitch q)

/-- The swap point of an acquisition step: the set stays, and only CARRY entries run until the next period (R364). -/
def State.takeAcquisition (s : State) : State :=
  let gen := fld (s.rd SCHED.CUR) 16 16 + 1
  let s := s.modSched (fun x => { x with old := some x.cur, next := none, draining := true, overlap := true, stepping := true, switched := upto 46, autoOffDue := true })
  ((s.inc SCHED.SWAP_CNT).setBit SCHED.EVT 0).putF SCHED.CUR 16 16 gen

/-- At a period start, what becomes of the pending swap (R362, R368). -/
def State.trySwap (s : State) : State :=
  match s.sched.next with
  | none => s
  | some n =>
    if n.at_ = 0 ∨ s.time.dt < n.at_ ∨ s.power.coresHalted then s
    else if s.bit SCHED.CTL 0 then
      (if n.seq = 0 then s.modSched (fun x => { x with next := some { n with at_ := n.at_ + x.cur.period } })
       else (s.chainMissed n 0xF1).dropSwap)
    else if !s.swapReady n then
      (if n.seq = 0 then s.modSched (fun x => { x with next := some { n with at_ := n.at_ + x.cur.period } })
       else (s.chainMissed n 0xF0).dropSwap)
    else
      match n.kind, n.set with
      | .acquisition, _ => s.takeAcquisition.nextRequest
      | _, some t => (s.takeSet n t).nextRequest
      | _, none => s

/-! ### Periods and slots (R345-R348) -/

/-- The slots of the entries of sequencer `q` that were to run in the period that ends (R347, R363): in the drained period the old
CARRY entries alone, in the first period of a set not its own CARRY entries. -/
def State.liveSlots (s : State) (q : Nat) : List Nat :=
  let tab := fun (t : TableSet) (carry fresh : Bool) =>
    let keep := fun (c : Bool) => (c && carry) || (!c && fresh)
    if q < 16 then ((nth [] t.link q).filter (fun e => keep e.carry)).map (·.slot)
    else if q < 34 then ((nth (0, []) t.fe (q - 16)).2.filter (fun e => keep e.carry)).map (·.slot)
    else if q = 34 then (if fresh then t.store.map.map (·.1) else [])
    else if q < 43 then ((nth [] t.cluster (q - 35)).filter (fun e => keep e.carry)).map (·.slot)
    else ((if q = 43 then t.pkt else if q = 44 then t.launch else t.trig).filter (fun e => keep e.carry)).map (·.slot)
  match s.sched.old with
  | none => tab s.sched.cur (!s.sched.fresh) true
  | some old => tab old true false ++ (if s.sched.draining then [] else tab s.sched.cur false true)

/-- The entries whose slot the counter has not reached are skipped and counted (R347, R360). -/
def State.skipEntries (s : State) : State :=
  s.each (upto 46) (fun s q => s.each ((s.liveSlots q).filter (fun a => decide (s.sched.slot < a))) (fun s _ => (s.inc SCHED.SLOT_SKIP_CNT).dev q))

/-- At the end of the first period after a swap point, the domains of AUTO_OFF that the set does not use go off (R509). -/
def State.autoOff (s : State) : State :=
  let s' := s.modSched (fun x => { x with autoOffDue := false })
  if s.sched.autoOffDue then
    s'.each ((upto 8).filter (fun d => decide (2 ≤ d) && s.bit PWR.DOM_CFG d && !s.sched.cur.uses d && (s.domOn d || s.dom d == .rising))) (fun s d => s.domRequest d false)
  else s'

/-- A period starts (R311, R345, R347, R363, R364). -/
def State.periodStart (s : State) : State :=
  let len := s.sched.cur.period
  let drained := s.sched.old.isSome && s.sched.draining
  let open_ := s.openWindows
  let cycle := s.now
  let s := s.when (s.sched.periods != 0) (·.skipEntries)
  let s := if s.sched.old.isSome then
      (s.each (upto 46) (fun s q => s.doSwitch q)).modSched (fun x => { x with old := none, draining := false })
    else s
  let s := s.when (s.sched.periods != 0) (·.autoOff)
  let s := s.modSched (fun x => { x with
    slot := 0, periods := x.periods + 1, fresh := drained, overlap := false, startCycle := cycle, windows := open_, periodStart := if len = 0 then s.time.dt else s.time.dt / len * len })
  let s := s.trySwap
  if len = 0 then s.modSched (fun x => { x with periodStart := if x.cur.period = 0 then s.time.dt else s.time.dt / x.cur.period * x.cur.period }) else s

/-! ### The service set at boot (R402 step 9, R403, R406, R408) -/

/-- The links of scene `n` that are in service, priority links first (R402 step 6). -/
def State.sceneLinks (s : State) (n : Nat) : List Nat :=
  (((s.nvm.config.sceneLinks.find? (fun p => p.1 == n)).map (·.2)).getD []).filter (fun l => decide (l < 16) && !s.feOos.contains l)

/-- Every sensor script of the service scene has completed or failed (R402 step 9). -/
def State.scriptsDone (s : State) : Bool :=
  (s.sceneLinks s.sched.wantScene).all (fun n => (s.lnk n).scriptSent && ((s.lnk n).scriptLeft == 0 || (s.lnk n).scriptFail))

/-- Step 9 of R402, taken once in a wake when its conditions hold. A service scene that lacks one of its sets is not usable (R341):
the default scene is taken, or none (R406). -/
def State.serviceRequest (s : State) : State :=
  let ready := s.fwActs && s.power.step7 && !s.power.asked && decide (s.mode = 2 ∨ s.mode = 3) && s.bit NVM.STAT 3
    && !s.bit PWR.MODE 16 && s.sched.next.isNone && s.position == 0
  if !ready || !(s.scriptsDone || s.power.scriptOver) then s
  else if 1 < s.nvm.chainLen ∧ !s.power.prepOk then s
  else
    let scene := if s.sceneHeld s.sched.wantScene then s.sched.wantScene else s.nvm.config.defaultScene
    let s : State := { s with power := { s.power with asked := true } }
    if !s.sceneHeld scene then s.earlyOnly
    else
    let s := s.modSched (fun x => { x with wantScene := scene })
    s.requestSwap .boot (some s.sched.wantScene) (some s.alm.grade) (some s.sched.bootVariant) s.leadTime (if 1 < s.nvm.chainLen then 1 else 0) none

/-! ### The end of all traffic (R415 step 3) -/

/-- Step 3 of SHUTDOWN_RECORD: every sequencer receives the empty table set, links and ports go to EN = 0; the key-off
test begins. -/
def State.shutStop (s : State) : State :=
  let s := s.modSched (fun x => { x with old := none, cur := {}, next := none, waiting := none, stepWaits := false, fresh := false, windows := [], switched := [], draining := false, overlap := false, stepping := false, slot := 0, autoOffDue := false })
  let s := s.flashDrop FlashOp.isFetch
  let s := s.each (upto 46) (fun s q => s.doSwitch q)
  let s := s.each (upto 16) (fun s n => s.linkCtl n (setFld (s.rd (LNK.CTL n)) 0 1 0))
  let s := s.each (upto 2) (fun s p => s.portCfg p (setFld (s.rd (ETH.PCFG p)) 0 1 0))
  let s := (s.putF BIST.STAT 0 3 3).putBit BIST.STAT 3 true
  { s with power := { s.power with shutStep := 4 }, bist := { s.bist with keyoffAt := s.now } }

/-! ### Commands -/

/-- SLOT_BOUNDARY (R35, R345): 256 core cycles of the slot have passed. -/
def execSlotBoundary (s : State) : Host.Outcome State Fault Refusal := .next (s.modSched (fun x => { x with slot := x.slot + 1 }))

/-- SWITCH_SLOT (R363): sequencer `q` reaches its switch slot in the first period after S. -/
def execSwitchSlot (q : Fin 46) (s : State) : Host.Outcome State Fault Refusal :=
  if s.sched.old.isSome && !s.sched.draining then .next (s.doSwitch q) else .next s

/-- SWAP_REQUEST (R361, R366): a request of SCHED's users other than a mailbox command or a PREP: a grade step of Almanac,
or a change of variant that takes a cluster out of service or admits it. -/
def execSwapRequest (grade : Option (Fin 3)) (variant : Option (Fin 9)) (s : State) : Host.Outcome State Fault Refusal :=
  let s := match variant with
    | some v => s.requestVariant v
    | none => s
  match grade with
  | some g => .next (s.requestSwap .grade none (some g) none s.leadTime 0 none)
  | none => .next s

/-- STAGING_COMPLETE (R356, R361, R363). -/
def execStagingComplete (loads : SetLoads) (s : State) : Host.Outcome State Fault Refusal :=
  .next (s.stagingDone loads).serviceRequest

/-- SWAP_GO_GUARD (R362, R368): S minus GO_GUARD_MS has come. -/
def execSwapGoGuard (s : State) : Host.Outcome State Fault Refusal :=
  match s.sched.next with
  | none => .next s
  | some n =>
    if s.swapReady n then .next s
    else if n.seq = 0 then
      .next ((s.when (!n.deferred) (·.inc SCHED.SWAP_DEFER_CNT)).modSched (fun x => { x with next := some { n with deferred := true, at_ := n.at_ + x.cur.period } }))
    else .next ((s.chainMissed n 0xF0).dropSwap)

end Sys2Proof.Machine
end

