-- ==== Sys2Proof/Machine/Image.lean ====
section
/-! DEFINITION. Configuration images in the flash: their layout, the checks on them and the selection of a bank
(spec/11_configuration_image.md). -/

namespace Sys2Proof.Machine

/-- The first byte of a bank (R375). -/
def bankAddr (b : Nat) : Nat := 0x03000000 * b

/-- Header bytes 0 to 4,095 of the image in a bank. -/
def State.imageHeader (s : State) (b : Nat) : List Byte := s.flashRead (bankAddr b) 4096

/-- The header checks of R382: the code of R392 of the first that fails. -/
def State.headerCode (s : State) (h : List Byte) : Option Nat :=
  let v := fun (o n : Nat) => le (slice h o n)
  if h.take 4 ≠ [0x4B, 0x44, 0x49, 0x4D] ∨ v 4 2 ≠ 2 ∨ v 4092 4 ≠ crc32c (h.take 4092) then some 2
  else if v 6 2 ≠ 0x1628 ∨ s.getF SYS.DEV_ID 0 8 < v 8 1 then some 3
  else if 50331648 < v 16 4 ∨ 6291456 < v 20 4 ∨ v 28 4 = 0 ∨ 2048 < v 28 4 then some 4
  else if v 32 1 = 0 ∨ 4 < v 32 1 ∨ v 32 1 ≤ s.position ∨ !bitOf (v 33 1) s.position ∨ (s.isAS ∧ v 32 1 ≠ 1) then some 5
  else if 64 < v 11 1 ∨ v 11 1 < s.getF NVM.OTP_STAT 0 7 then some 6
  else if 4 ≤ v 10 1 ∨ bitOf (s.getF NVM.OTP_STAT 24 4) (v 10 1) then some 7
  else none

/-- A section entry of 64 bytes (R383). -/
def parseSection (early : Bool) (index : Nat) (b : List Byte) : Section :=
  { early := early, index := index, type := le (slice b 0 1), enc := bitOf (le (slice b 1 1)) 0, id := le (slice b 4 4), offset := le (slice b 8 4),
    length := le (slice b 12 4), iv := slice b 16 8, digest := slice b 24 32 }

/-- The early directory of the image in a bank. -/
def State.earlySections (s : State) (b : Nat) : List Section :=
  let n := le (s.flashRead (bankAddr b + 0x1000) 4)
  (upto (min n 98304)).map (fun i => parseSection true i (s.flashRead (bankAddr b + 0x1040 + 64 * i) 64))

/-- The main sections, from the hash table. -/
def State.mainSections (s : State) (b : Nat) (h : List Byte) : List Section :=
  let at_ := bankAddr b + le (slice h 24 4)
  (upto (le (slice h 28 4))).map (fun i => parseSection false i (s.flashRead (at_ + 64 * i) 64))

/-- Sections lie on 256-byte boundaries in `lo` to `hi`, and no two of them overlap (R380). -/
def sectionsFit (lo hi : Nat) : List Section → Bool
  | [] => true
  | x :: rest => x.offset % 256 == 0 && decide (lo ≤ x.offset) && decide (x.offset + x.length ≤ hi)
      && rest.all (fun y => decide (x.offset + x.length ≤ y.offset) || decide (y.offset + y.length ≤ x.offset)) && sectionsFit lo hi rest

/-- A section type of R383. -/
def sectionTypeOk (t : Nat) : Bool := decide (1 ≤ t) && decide (t ≤ 7)

/-- What the early section must hold (R383): the firmware, the device configuration, and, where it holds an early-view scene, that
scene's table sets, the engine programs of the clusters they use, its draw memory, and the front-end tables and sensor scripts of
its cameras; a camera of a parallel port has no back channel and no script. -/
def State.earlyHolds (s : State) (b : Nat) (early : List Section) : Bool :=
  let has := fun (type id : Nat) => early.any (fun x => x.type == type && x.id == id)
  let hasCam := fun (type n : Nat) => early.any (fun x => x.type == type && x.id % 256 == n)
  let sets := (early.filter (fun x => x.type == 2 && x.id / 16777216 == s.position)).map
    (fun x => (x.id % 256, parseSet (s.flashRead (bankAddr b + x.offset) x.length) {}))
  let view := match (upto 8).find? (fun n => sets.any (fun p => p.1 == n && p.2.early)) with
    | none => true
    | some n =>
      let ts := (sets.filter (fun p => p.1 == n)).map (·.2)
      (upto 3).all (fun g => (upto 9).all (fun v => has 2 (s.setId n g v)))
        && (upto 8).all (fun k => !ts.any (·.runs (35 + k)) || has 3 (n + 256 * s.position + 65536 * k))
        && has 4 (n + 256 * s.position)
        && (upto 18).all (fun c => !ts.any (·.runs (16 + c)) || (hasCam 5 c && (hasCam 6 c || decide (16 ≤ c))))
  early.any (fun x => x.type == 1) && hasCam 7 s.position && view

/-- Steps 1 and 2 of R384: header, key, signature and early section. -/
def State.verifyEarly (s : State) (b : Nat) : Option ImageError :=
  let h := s.imageHeader b
  let v := fun (o n : Nat) => le (slice h o n)
  match s.headerCode h with
  | some c => some (c, 0, 0)
  | none =>
    let early := s.earlySections b
    if Config.sha256 (slice h 104 64) ≠ nth [] s.nvm.keySlots (v 10 1) then some (7, 0, 0)
    else if !Config.ecdsaOk (slice h 104 64) (Config.sha256 h) (s.flashRead (bankAddr b + v 16 4 - 64) 64) then some (8, 0, 0)
    else if v 24 4 < 4096 + v 20 4 ∨ v 16 4 < v 24 4 + 64 * v 28 4 + 64 then some (4, 0, 0)
    else if Config.sha256 (s.flashRead (bankAddr b + 4096) (v 20 4)) ≠ slice h 40 32 then some (9, 1, 0)
    else if !sectionsFit 4096 (4096 + v 20 4) early then some (4, 1, 0)
    else match early.find? (fun x => !sectionTypeOk x.type || x.enc) with
      | some x => some (if x.enc then 9 else 11, 1, x.index)
      | none => if s.earlyHolds b early then none else some (9, 1, 0)

/-- Steps 3 and 4 of R384: hash table and main sections. -/
def State.verifyMain (s : State) (b stage : Nat) : Option ImageError :=
  let h := s.imageHeader b
  let v := fun (o n : Nat) => le (slice h o n)
  if Config.sha256 (s.flashRead (bankAddr b + v 24 4) (64 * v 28 4)) ≠ slice h 72 32 then some (10, stage, 0)
  else
    let secs := s.mainSections b h
    if !sectionsFit (4096 + v 20 4) (v 24 4) secs then some (4, stage, 0)
    else (secs.find? (fun x => !sectionTypeOk x.type || Config.sha256 (s.flashRead (bankAddr b + x.offset) x.length) != x.digest)).map
      (fun x => (11, stage, x.index))

/-- An image fails its verification (R379, R386, R390). -/
def State.imageFails (s : State) (b : Nat) (e : ImageError) : State :=
  ((s.imageError b e).inc NVM.IMG_ERR_CNT).setBit NVM.EVT 1

/-- A flash error (R374): the operation fails with code FLASH. -/
def State.flashError (s : State) (b stage : Nat) : State :=
  ((s.imageError b (14, stage, 0)).inc NVM.FLASH_ERR_CNT).setBit NVM.EVT 5

/-! ### Bank state (R377-R379) -/

/-- States of a bank (R378). -/
inductive BankState where
  | failed | confirmed | waiting (tries : Nat) | writing | empty
deriving DecidableEq, Repr

/-- The state that STATE decodes to (R378). -/
def bankStateOf (st : Nat) : BankState :=
  if !bitOf st 7 then .failed
  else if !bitOf st 3 then .confirmed
  else if !bitOf st 1 then .waiting (b2n (!bitOf st 2) + b2n (!bitOf st 4) + b2n (!bitOf st 5))
  else if !bitOf st 0 then .writing
  else .empty

/-- The state of a bank. -/
def State.bankIs (s : State) (b : Nat) : BankState := bankStateOf (s.flashByte (stateSector b)).toNat

/-- RCRC of a bank's record is correct. -/
def recordOk (r : List Byte) : Bool := le (slice r 28 4) == crc32c (slice r 4 24)

/-- The state of a bank lets it be a candidate (R378). -/
def State.bankWaits (s : State) (b : Nat) : Bool :=
  match s.bankIs b with
  | .confirmed => true
  | .waiting _ => true
  | _ => false

/-- What keeps a PENDING or CONFIRMED bank from being a candidate (R378): the code of R392, 13 for its record. -/
def State.recordCode (s : State) (b : Nat) : Option Nat :=
  let r := s.flashRead (stateSector b) 32
  let h := s.imageHeader b
  if !recordOk r then some 13
  else match s.headerCode h with
    | some c => some c
    | none => if slice h 12 4 == slice r 4 4 && (Config.sha256 h).take 12 == slice r 16 12 then none else some 13

/-- A bank is a candidate (R378). -/
def State.candidate (s : State) (b : Nat) : Bool := s.bankWaits b && (s.recordCode b).isNone

/-- The error of a PENDING or CONFIRMED bank that is no candidate is recorded (R382, R392); no verification of it begins, so that
nothing is counted and the bank is not marked. DEDUCED (log entry 175). -/
def State.noteBank (s : State) (b : Nat) : State :=
  if !s.bankWaits b then s
  else match s.recordCode b with
    | some c => s.imageError b (c, 0, 0)
    | none => s

/-- NVM.BANK_STAT and NVM.BANK_VER of a bank as read at the wake (R392). -/
def State.showBank (s : State) (b : Nat) : State :=
  let r := s.flashRead (stateSector b) 32
  let v := fun (o n : Nat) => le (slice r o n)
  let s := s.wr (NVM.BANK_STAT b) (v 0 1 * 2 ^ 24 + v 8 1 * 2 ^ 16 + v 9 1 % 4 * 2 ^ 14 + b2n (recordOk r) * 2 ^ 13 + b2n (s.candidate b) * 2 ^ 12)
  s.wr (NVM.BANK_VER b) (v 4 4)

/-- The try bit that a trial boot clears next (R378). -/
def tryBit (tries : Nat) : Nat := if tries = 0 then 2 else if tries = 1 then 4 else 5

/-- The candidates in order are verified until one passes (R379): the bank that runs. -/
def State.tryBanks (s : State) (flashFail : List (Fin 2 × Fin 2)) : List Nat → Option Nat × State
  | [] => (none, s)
  | b :: rest =>
    let s := match s.bankIs b with
      | .waiting n => s.bankState b (tryBit n)
      | _ => s
    match flashFail.find? (fun x => x.1.val == b) with
    | some x => ((s.incBy NVM.RETRY_CNT 2).flashError b x.2).tryBanks flashFail rest
    | none =>
      match s.verifyEarly b with
      | none => (some b, s)
      | some e => ((s.imageFails b e).bankState b 7).tryBanks flashFail rest

/-- Recovery (R389): no bank passes, which leaves no service scene for the wake (R406). -/
def State.enterRecovery (s : State) : State := ((s.imageError 0 (1, 0, 0)).setBit NVM.STAT 7).noService

/-- The flash interface starts, at the lower of 200 MHz and the maximum the flash gives (R371), and a bank is selected (R373, R374,
R379). -/
def State.bankSelect (s : State) (f : FlashInit) : State :=
  let s := s.incBy NVM.RETRY_CNT f.retries
  if f.fail then (s.flashError 0 0).enterRecovery
  else
    let s := ((s.wr NVM.FLASH_ID f.id).putF NVM.STAT 8 8 (min 200 f.mhz)).setBit NVM.STAT 1
    let s := s.each [0, 1] (fun s b => s.when (s.bankIs b == .waiting 3) (·.bankState b 7))
    let s := s.each [0, 1] (fun s b => (s.showBank b).noteBank b)
    let ver := fun (s : State) (b : Nat) => s.rd (NVM.BANK_VER b)
    let order := (if ver s 0 < ver s 1 then [1, 0] else [0, 1]).filter s.candidate
    let first := order.head?
    match s.tryBanks f.bankFail order with
    | (none, s) => s.enterRecovery
    | (some b, s) =>
      let s := (s.putF NVM.STAT 0 1 b).modNvm (fun n => { n with bank := some b })
      s.when (first != some b) (fun s => (s.inc NVM.FALLBACK_CNT).setBit NVM.EVT 6)

end Sys2Proof.Machine
end

