-- ==== Sys2Proof/Machine/Time.lean ====
section
/-! DEFINITION. Meridian (spec/09_time_and_synchronisation.md): domains, samples and steps, driving domain and switching,
peer delay, device-time steps, triggers. Offsets are in 1/16 ns, rates in 1/256 ppb, device time in 2^-40 ns. -/

namespace Sys2Proof.Machine

/-- A part of Meridian's state changed by `f`. -/
def State.modTime (s : State) (f : TimeState → TimeState) : State := { s with time := f s.time }

/-- Domain `d`. -/
def State.gdom (s : State) (d : Nat) : DomState := nth {} s.time.doms d

/-- Domain `d` changed by `f`. -/
def State.modDom (s : State) (d : Nat) (f : DomState → DomState) : State :=
  s.modTime (fun t => { t with doms := setNth t.doms d (f (nth {} t.doms d)) })

/-- Domain `d` is enabled: domain B is not while both have one number (R314). -/
def State.domEnabled (s : State) (d : Nat) : Bool :=
  s.bit (TIME.DOM_CFG d) 31 && !(d == 1 && s.bit (TIME.DOM_CFG 0) 31 && s.getF (TIME.DOM_CFG 0) 0 8 == s.getF (TIME.DOM_CFG 1) 0 8)

/-- The enabled domain of a domainNumber (R314). -/
def State.domOf (s : State) (n : Nat) : Option Nat := (upto 2).find? (fun d => s.domEnabled d && s.getF (TIME.DOM_CFG d) 0 8 == n)

/-- The domain is QUALIFIED. -/
def State.qualified (s : State) (d : Nat) : Bool := s.domEnabled d && (s.gdom d).phase == .qualified

/-- The ingress time of a message whose timestamp point passed `age` x 1.25 ns ago, in 1/16 ns (R316). -/
def State.ingressStamp (s : State) (p age : Nat) : Nat :=
  (s.time.dt / 2 ^ 36 / 20 - age) * 20 - s.getF (TIME.PORT_LAT p) 0 16

/-- UPL is asCapable for domain `d` (R312, R340): the neighbour answers, and has signalled the domain; domainNumber 0 does
not need the signal. -/
def State.asCapable (s : State) (d : Nat) : Bool :=
  (nth {} s.time.pdelay 0).capable && ((s.gdom d).gptp || s.getF (TIME.DOM_CFG d) 0 8 == 0)

/-! ### Rate and state of device time (R306, R308, R323) -/

/-- The estimate of a domain's rate after a sample: a free value (log entry 1), within the range of TIME.FREQ. -/
def State.newRate (s : State) : Int × State :=
  let (v, s) := s.fresh
  (clampInt (-128000000) 128000000 (sx 32 v), s)

/-- The rates that samples not older than `since` need, newest first. -/
def ratesSince (since : Nat) : List (Nat × Int) → List (Nat × Int)
  | [] => []
  | r :: rest => if r.1 ≤ since then [r] else r :: ratesSince since rest

/-- The rate correction becomes `y`; the rates that the accepted samples have run under are kept (R306, R329). -/
def State.putRate (s : State) (y : Int) : State :=
  let since := ((s.time.doms.flatMap (fun x => x.ofsAt :: x.recent.map (·.2))).min?).getD s.time.dt
  let old := if s.time.rates.isEmpty then [(0, s.time.y)] else s.time.rates
  s.modTime (fun t => { t with y := y, rates := (t.dt, y) :: ratesSince since old })

/-- The rate applied while an offset `o` is to be absorbed at the estimate `r` (R306, R323): a free value, which from the
first LOCKED on differs from the estimate by at most 5 ppm, towards the offset. -/
def State.setRate (s : State) (r o : Int) : State :=
  let (v, s) := s.fresh
  let free := sx 32 v
  let slew := if 0 < o then clampInt 0 1280000 free else if o < 0 then clampInt (-1280000) 0 free else 0
  let y := if s.time.everLocked then r + slew else free
  s.putRate (clampInt (-128000000) 128000000 y)

/-- Device time enters LOCKED (R308). -/
def State.enterLocked (s : State) : State :=
  (s.setBit TIME.EVT 0).modTime (fun t => { t with dtState := .locked, everLocked := true })

/-- Device time enters SLEW, or LOCKED where four samples of the driving domain were within 100 ns (R308, R310). -/
def State.enterSlew (s : State) : State :=
  if 4 ≤ (s.gdom s.time.drive).good then s.enterLocked else s.modTime (fun t => { t with dtState := .slew })

/-- Device time enters FREE (R308, R328). -/
def State.enterFree (s : State) : State :=
  (s.setBit TIME.EVT 1).modTime (fun t => { t with dtState := .free, selected := false })

/-- SCHED is asked for the swap point of an acquisition step (R310); with no set in force, when one takes effect. -/
def State.askStep (s : State) : State :=
  if s.sched.cur.period = 0 then s else s.requestSwap .acquisition none none none s.leadTime 0 none

/-- A sample `o` of the driving domain steers device time (R308, R310, R323). -/
def State.steer (s : State) (o : Int) : State :=
  let d := s.gdom s.time.drive
  match s.time.dtState with
  | .free =>
    let s := s.modTime (fun t => { t with stepPend := none })
    if o.natAbs ≤ 16000 then (s.enterSlew).setRate d.rate o
    else if s.bit TIME.CTL 2 then (s.modTime (fun t => { t with dtState := .acquire, stepPend := some o })).askStep
    else (s.modTime (fun t => { t with dtState := .slew })).setRate d.rate o
  | .acquire => s.modTime (fun t => { t with stepPend := some o })
  | .locked => (s.modTime (fun t => { t with dtState := if 1600 < o.natAbs then .slew else .locked })).setRate d.rate o
  | .slew => (if 4 ≤ d.good then s.enterLocked else s).setRate d.rate o
  | .hold => s

/-- An offset sample accepted into domain `d`'s record (R308, R315, R323); REF_TOL for the driving domain. -/
def State.accept (s : State) (d : Nat) (o : Int) (at_ : Nat) : State :=
  let old := (s.gdom d).rate
  let (r, s) := s.newRate
  let s := s.modDom d (fun x => { x with ofs := o, ofsAt := at_, seen := true, rate := r, recent := ((o, at_) :: x.recent).take 4,
                                         good := if o.natAbs ≤ 1600 then x.good + 1 else 0 })
  let out := s.time.selected && s.time.drive == d && decide (old.natAbs ≤ 25600000 ∧ 25600000 < r.natAbs)
  s.when out (fun s => (s.inc TIME.REF_TOL_CNT).setBit TIME.EVT 5)

/-! ### Selection, switches and holds (R310, R324-R328, R330) -/

/-- At position 0 a new selection goes out in the select TLV (R321, R326). -/
def State.sendSelect (s : State) (d at_ : Nat) : State :=
  if s.position = 0 then s.modTime (fun t => { t with selSeq := (t.selSeq + 1) % 256, selSel := d, selTime := at_ / 2 ^ 40 }) else s

/-- Domain `d` is selected while device time is FREE: its next sample decides (R310, R324). -/
def State.selectDom (s : State) (d : Nat) : State :=
  (s.sendSelect d s.time.dt).modTime (fun t => { t with selected := true, drive := d, switchTo := none, measured := (nth {} t.doms d).ofs })

/-- A switch to domain `d` is decided at position 0 (R326). -/
def State.decideSwitch (s : State) (d : Nat) : State :=
  let at_ := s.time.dt + msTime (s.getF TIME.SW_CFG 0 16)
  if s.time.selected && s.time.drive == d then
    if s.time.switchTo.isSome then (s.sendSelect d at_).modTime (fun t => { t with switchTo := none }) else s
  else (s.sendSelect d at_).modTime (fun t => { t with switchTo := some (d, at_) })

/-- An acquisition step that is not to be applied is given up, and the swap that waits for it. -/
def State.cancelStep (s : State) : State :=
  let s := s.modTime (fun t => { t with stepPend := none })
  s.when (s.sched.next.any (fun n => n.kind == .acquisition)) (·.dropSwap)

/-- A switch takes effect (R310, R325): in FREE it is a selection, in every other state, ACQUIRE among them, device time slews. -/
def State.applySwitch (s : State) (d : Nat) : State :=
  if s.time.dtState = .free then s.modTime (fun t => { t with selected := true, drive := d, switchTo := none, measured := (nth {} t.doms d).ofs })
  else
    let s := s.when (s.time.dtState == .acquire) (·.cancelStep)
    let s := ((s.inc TIME.SWITCH_CNT).setBit TIME.EVT 3).modTime (fun t => { t with
      selected := true, drive := d, switchTo := none, dtState := .slew, selHold := if s.position = 0 then false else t.selHold, holdOver := false,
      measured := (nth {} t.doms d).ofs })
    s.setRate (s.gdom d).rate (s.gdom d).ofs

/-- Device time enters HOLD, or holds for another reason; at position 0 a switch is decided if it can be, and HOLD goes out while
the hold is under R330 (R328, R330). -/
def State.enterHold (s : State) (r : HoldReason) : State :=
  let s := s.when (s.time.dtState == .acquire) (·.cancelStep)
  let s := s.modTime (fun t => { t with dtState := .hold, holdReason := r, holdOver := false, stepPend := none,
                                        selHold := if s.position = 0 then r == .step else t.selHold })
  let o := 1 - s.time.drive
  if r = .lost ∧ s.position = 0 ∧ s.bit TIME.CTL 1 ∧ s.qualified o ∧ s.time.switchTo.isNone then s.decideSwitch o else s

/-- The offset of a SUSPECT domain is accepted and the domain is QUALIFIED again (R330). -/
def State.unsuspect (s : State) (d : Nat) : State :=
  s.modDom d (fun x => if x.phase = .suspect then
      match x.susp with
      | some (o, t) => { x with phase := .qualified, ofs := o, ofsAt := t, susp := none, recent := [(o, t)], good := 0 }
      | none => { x with phase := .qualified }
    else x)

/-- The step of the driving domain is accepted, and absorbed (R323, R330). -/
def State.acceptStep (s : State) : State :=
  let s := s.unsuspect s.time.drive
  let s := s.modTime (fun t => { t with dtState := .slew, holdOver := false, selHold := if s.position = 0 then false else t.selHold })
  s.setRate (s.gdom s.time.drive).rate (s.gdom s.time.drive).ofs

/-- SEL takes effect (R325-R327). -/
def State.applySel (s : State) (d : Nat) : State :=
  let same := s.time.selected && s.time.drive == d
  if same then
    if s.time.dtState = .hold ∧ (s.time.holdReason = .step ∨ s.qualified d) then s.acceptStep else s
  else if s.qualified d then s.applySwitch d
  else if s.time.dtState = .free then s.modTime (fun t => { t with switchTo := some (d, t.dt) })
  else (s.modTime (fun t => { t with switchTo := some (d, t.dt) })).enterHold .notReady

/-- Domain `d` has become QUALIFIED (R324, R326-R328). -/
def State.onQualified (s : State) (d : Nat) : State :=
  let due := match s.time.switchTo with
    | some (d', t) => d' == d && decide (t ≤ s.time.dt)
    | none => false
  if due then s.applySwitch d
  else if s.time.dtState = .free ∧ !s.time.selected ∧ !s.gm then
    if s.position = 0 ∨ !s.time.tlvSeen then (if d = s.getF TIME.CTL 0 1 then s.selectDom d else s)
    else if d = s.time.selSel ∧ s.time.switchTo.isNone then s.selectDom d
    else s
  else if s.time.dtState = .hold ∧ s.time.holdReason = .lost ∧ s.position = 0 ∧ s.bit TIME.CTL 1 ∧ d ≠ s.time.drive ∧ s.time.switchTo.isNone then
    s.decideSwitch d
  else s

/-- In FREE a domain that is QUALIFIED already is selected at once where R324 and R327 select it (log entry 80). -/
def State.freeSelect (s : State) : State :=
  if s.time.dtState = .free ∧ s.time.switchTo.isNone then s.each ((upto 2).filter s.qualified) (fun s d => s.onQualified d) else s

/-- Domain `d` falls back to LISTEN; device time holds if it drives, and a hold for its step becomes a hold for its loss (R315,
R328). -/
def State.listen (s : State) (d : Nat) : State :=
  let s := s.modDom d (fun x => { gptp := x.gptp, logSync := x.logSync })
  let hold := s.time.dtState == .hold && s.time.holdReason != .step
  if s.time.selected && s.time.drive == d && s.time.dtState != .free && !hold then s.enterHold .lost
  else if s.time.selected && s.time.drive == d && s.time.dtState == .free then s.modTime (fun t => { t with selected := false })
  else s

/-! ### Samples (R315, R318, R329, R330) -/

/-- The rate corrections integrated over device time from `a` to `b`, 1/256 ppb x 1/16 ns. -/
def rateSum (a : Nat) : List (Nat × Int) → Nat → Int
  | [], _ => 0
  | (t, y) :: rest, b => if b ≤ a then 0 else if b ≤ t then rateSum a rest b else y * (((b : Int) - max a t) / 2 ^ 36) + rateSum a rest (min b t)

/-- An offset brought forward from `from_` to `to_` at the domain's rate against the rates device time had meanwhile (R315, R329). -/
def State.carried (s : State) (rate o : Int) (from_ to_ : Nat) : Int :=
  let rates := if s.time.rates.isEmpty then [(0, s.time.y)] else s.time.rates
  o + (rate * (((to_ : Int) - from_) / 2 ^ 36) - rateSum from_ rates to_) / 256000000000

/-- Four samples lie within 1 µs of one another once the rate is applied (R315). -/
def State.agree (s : State) (x : DomState) (now : Nat) : Bool :=
  let os := x.recent.map (fun p => s.carried x.rate p.1 p.2 now)
  x.recent.length == 4 && os.all (fun a => os.all (fun b => decide ((a - b).natAbs ≤ 16000)))

/-- A declared step of size `r` in domain `d` (R329, R330). -/
def State.declare (s : State) (d : Nat) (o r : Int) (at_ : Nat) : State :=
  let other := s.gdom (1 - d)
  let thr := 16 * s.getF TIME.STEP_THR 0 16
  let shown := s.qualified (1 - d) && (match other.shown with
    | some x => decide (2 * (x - r).natAbs ≤ thr)
    | none => false)
  let driving := s.time.selected && s.time.drive == d && s.time.dtState != .free
  if shown then
    let s := (s.inc TIME.STEP_ACC_CNT).modDom d (fun x => { x with ofs := o, ofsAt := at_, recent := [(o, at_)], good := 0 })
    if driving && (s.time.dtState == .locked || s.time.dtState == .slew) then
      (s.modTime (fun t => { t with dtState := .slew })).setRate (s.gdom d).rate o
    else s
  else
    let s := ((s.inc TIME.ASYM_STEP_CNT).setBit TIME.EVT 2).modDom d (fun x => { x with phase := .suspect, susp := some (o, at_) })
    if driving then s.enterHold .step else s

/-- An offset sample `o` of domain `d`, taken at device time `at_` (R308, R310, R315, R323, R329). -/
def State.sample (s : State) (d : Nat) (o : Int) (at_ : Nat) : State :=
  let x := s.gdom d
  let thr := 16 * s.getF TIME.STEP_THR 0 16
  let r := o - s.carried x.rate x.ofs x.ofsAt at_
  let s := s.when x.watch (·.modDom d (fun x => { x with watch := false, shown := some r }))
  let drives := s.time.selected && s.time.drive == d
  let s := s.when drives (·.modTime (fun t => { t with measured := o }))
  let candidate := fun (s : State) =>
    (s.modDom d (fun x => { x with candidate := some r })).modDom (1 - d) (fun x => { x with watch := true, shown := none })
  match x.phase with
  | .listen =>
    let s := s.accept d o at_
    if s.agree (s.gdom d) at_ then
      let s := (s.modDom d (fun x => { x with phase := .qualified })).onQualified d
      if s.time.selected && s.time.drive == d && s.time.dtState != .free then s.steer o else s
    else s
  | .suspect => s.modDom d (fun x => { x with susp := some (o, at_) })
  | .qualified =>
    match x.candidate with
    | some c =>
      let s := s.modDom d (fun x => { x with candidate := none })
      if thr < r.natAbs ∧ decide (0 < r) = decide (0 < c) then s.declare d o r at_
      else (s.inc TIME.OUTLIER_CNT).when (decide (thr < r.natAbs)) candidate
    | none =>
      if thr < r.natAbs then candidate s
      else
        let s := s.accept d o at_
        if drives then s.steer o else s

/-- The select TLV of a received Sync at positions 1 to 3: one of a new SEQ puts a switch in order, and HOLD = 0 after HOLD_MS ends the
hold, whatever the SEQ (R327, R330). -/
def State.selectReceived (s : State) (t : SelectTlv) : State :=
  let fresh := !s.time.tlvSeen || t.seq != s.time.selSeq
  let s := s.modTime (fun m => { m with selHold := t.hold })
  let s := if fresh then
      let s := s.modTime (fun m => { m with tlvSeen := true, selSeq := t.seq, selSel := t.sel, selTime := t.switchTime,
                                            switchTo := some (t.sel, t.switchTime * 2 ^ 40) })
      if t.switchTime * 2 ^ 40 ≤ s.time.dt then (s.modTime (fun m => { m with switchTo := none })).applySel t.sel else s
    else s
  if s.time.holdOver && !t.hold && s.time.dtState == .hold && s.time.holdReason == .step then s.acceptStep else s

/-- A Sync of domain `d` that is complete: relay, select TLV and sample (R318-R321, R327). -/
def State.syncComplete (s : State) (d dom seq ingress logInt : Nat) (i : SyncInfo) : State :=
  let s := s.modDom d (fun x => { x with logSync := logInt })
  let s := s.when (s.hasPort 1 && (s.prt 1).link != .off) (·.offerTime 1 (.relay dom seq ingress logInt i))
  let s := match (if s.position = 0 then none else i.tlv) with
    | some t => s.selectReceived t
    | none => s
  let pd : PdelayState := nth {} s.time.pdelay 0
  let o := (i.origin : Int) * 16 + i.correction / 4096 + pd.delay + sx 32 (s.rd (TIME.DOM_ASYM d)) - ingress
  s.sample d o (ingress * 2 ^ 36)

/-- A Sync of a domainNumber is for Meridian: an enabled domain, UPL asCapable, and not the one it is grandmaster of (R312-R315). -/
def State.syncFor (s : State) (n : Nat) : Option Nat :=
  (s.domOf n).filter (fun d => s.asCapable d && !(d == 0 && s.gm) && (s.prt 0).link == .up)

/-! ### Steps of device time (R310, R337, R338) -/

/-- A device time moved by `k` ns. -/
def movedBy (k : Int) (t : Nat) : Nat := ((t : Int) + k * 2 ^ 40).toNat

/-- A stamp in 1/16 ns moved by `k` ns. -/
def stampBy (k : Int) (t : Nat) : Nat := ((t : Int) + 16 * k).toNat

/-- A domain's record after device time has jumped by `k` ns. -/
def DomState.moved (x : DomState) (k : Int) : DomState :=
  { x with ofs := x.ofs - 16 * k, ofsAt := movedBy k x.ofsAt, recent := x.recent.map (fun p => (p.1 - 16 * k, movedBy k p.2)),
           susp := x.susp.map (fun p => (p.1 - 16 * k, movedBy k p.2)) }

/-- A launch moved with device time. -/
def PendLaunch.moved (l : PendLaunch) (k : Int) : PendLaunch := { l with due := movedBy k l.due, handed := movedBy k l.handed }

/-- A time message moved with device time: the ingress time of a relay. -/
def TimeMsg.moved (m : TimeMsg) (k : Int) : TimeMsg :=
  match m with
  | .relay d q i l x => .relay d q (stampBy k i) l x
  | .pdelayResp q r t2 => .pdelayResp q r (stampBy k t2)
  | .pdelayFollowUp q r t3 => .pdelayFollowUp q r (stampBy k t3)
  | m => m

/-- Device time jumps by `k` ns: pending actions and the capture instants of triggers still to come move with it (R310,
R337, R338). -/
def State.stepTime (s : State) (k : Int) : State :=
  let dt := s.time.dt
  let s := s.modTime (fun t => { t with
    dt := movedBy k t.dt, measured := t.measured - 16 * k, doms := t.doms.map (·.moved k), launches := t.launches.map (·.moved k),
    refused := t.refused.map (·.moved k), rates := t.rates.map (fun r => (movedBy k r.1, r.2)),
    trigs := t.trigs.map (fun p => { p with instant := movedBy k p.instant }),
    trigRecs := t.trigRecs.map (fun p => (p.1, p.2.map (fun r => if dt < r.instant then { r with instant := movedBy k r.instant } else { r with passed := r.passed || decide (r.instant < dt) }))),
    twoStep := t.twoStep.map (fun p => { p with ingress := stampBy k p.ingress }),
    anchors := t.anchors.map (fun p => (p.1, p.2.map (fun a => (movedBy k a.1, a.2)))),
    pdelay := t.pdelay.map (fun p => { p with req := p.req.map (fun r => (r.1, r.2.map (stampBy k))), resp := p.resp.map (fun r => (r.1, stampBy k r.2)), last := none }) })
  let s : State := { s with eth := { s.eth with ports := s.eth.ports.map (fun p =>
    { p with busyUntil := movedBy k p.busyUntil, deferred := p.deferred.map (·.moved k), q6 := p.q6.map (·.moved k) }) } }
  let s : State := { s with pres := { s.pres with
    warnLog := s.pres.warnLog.map (fun w => (movedBy k w.1, w.2.map (movedBy k))),
    pkt := s.pres.pkt.map (fun p => (p.1, { p.2 with unit0At := movedBy k p.2.unit0At, lastLaunch := p.2.lastLaunch.map (movedBy k) })) } }
  s.modSched (fun c => { c with periodStart := movedBy k c.periodStart, next := c.next.map (fun n => { n with after := movedBy k n.after, at_ := if n.at_ = 0 then 0 else gridAfter c.cur.period (movedBy k n.after) }) })

/-! ### Triggers (R331-R337) -/

/-- TARGET and UI_OFS of a trigger of link camera `c` for the time `x` at the pin (R333). -/
def State.trigTarget (s : State) (c x : Nat) : Nat × Nat :=
  let l := s.lnk c
  let (base, k) := (Map.get none s.time.anchors c).getD (s.time.dt, s.symbolCount c)
  let one := (256000000000 + s.time.y).toNat
  let t := (x - base) * 256000000000 / one
  let p := profileTime l.spread
  let n := 794 * (t / p) + symbolsIn l.spread k (t % p) 794
  let used := p * (t / p) + ((upto (symbolsIn l.spread k (t % p) 794)).map (fun i => symbolTime l.spread (k + i))).sum
  let rest := (t - used) * one / 256000000000
  let ui := (2 * rest + 4 * 2 ^ 40) / (8 * 2 ^ 40)
  if ui = 10 then ((k + n + 1) % 2 ^ 32, 0) else ((k + n) % 2 ^ 32, ui)

/-- The first record of camera `c` for instant `i` that is not marked sent is changed by `f`. -/
def markTrig (i : Nat) (f : TrigRec → TrigRec) : List TrigRec → List TrigRec
  | [] => []
  | r :: rest => if r.instant = i ∧ !r.sent then f r :: rest else r :: markTrig i f rest

/-- A trigger goes to its link or port (R333, R334, R336). -/
def State.trigHand (s : State) (t : PendTrig) : State :=
  let mark := fun (s : State) (f : TrigRec → TrigRec) =>
    s.modTime (fun m => { m with trigRecs := Map.set [] m.trigRecs t.cam (markTrig t.instant f (Map.get [] m.trigRecs t.cam)) })
  let s := mark s (fun r => { r with sent := true })
  if 16 ≤ t.cam then s.modTime (fun m => { m with ppPend := m.ppPend ++ [(t.cam - 16, t.width)] })
  else if (s.lnk t.cam).training ≠ .active then s.trigSkip t.cam 2 0
  else
    let (target, ui) := s.trigTarget t.cam (t.instant - t.dly * 2 ^ 36)
    (s.modLnk t.cam (fun l => { l with triggers := l.triggers ++ [.trigger target t.out ui t.width] })).bcNext t.cam

/-- The camera trigger sequencer hands entry `e` to Meridian (R331, R332, R335, R337). -/
def State.trigSlot (s : State) (e : Entry) : State :=
  let c := fld e.w2 16 5
  let i := s.sched.periodStart + e.launchAt
  let t : PendTrig := { cam := c, instant := i, dly := s.getF (TIME.CAM_DLY c) 0 20, out := fld e.w2 24 4, width := fld e.w3 0 16 }
  let due : Int := (i : Int) - t.dly * 2 ^ 36 - s.getF TIME.TRIG_CFG 0 8 * 1000 * 2 ^ 40
  let late := (s.time.dt : Int) - due
  let s := s.modTime (fun m => { m with trigRecs := Map.set [] m.trigRecs c (Map.get [] m.trigRecs c ++ [{ instant := i }]) })
  let skip := fun (s : State) (reason ns : Nat) =>
    let s := s.modTime (fun m => { m with trigRecs := Map.set [] m.trigRecs c (markTrig i (fun r => { r with sent := true }) (Map.get [] m.trigRecs c)) })
    s.trigSkip c reason ns
  if 64 ≤ s.time.trigs.length then skip s 4 0
  else if late ≤ 0 then s.modTime (fun m => { m with trigs := m.trigs ++ [t] })
  else if late ≤ s.getF TIME.LATE_TOL 0 16 * 2 ^ 40 then (((s.inc TIME.TRIG_LATE_CNT).setBit TIME.EVT 7).dev 45).trigHand t
  else skip s 1 (late / 2 ^ 40).toNat

/-! ### Commands -/

/-- Device time in the NOW registers (R305, R307). -/
def State.captureNow (s : State) : State :=
  let ns := s.time.dt / 2 ^ 40
  let s := (s.wr TIME.NOW_SEC_HI (ns / 1000000000 / 2 ^ 32 % 2 ^ 16)).wr TIME.NOW_SEC_LO (ns / 1000000000)
  (s.wr TIME.NOW_NS (ns % 1000000000)).wr TIME.NOW_FRAC (s.time.dt / 2 ^ 24 % 2 ^ 16)

/-- TIME_CAPTURE (R307): a write of TIME.NOW_CAP. -/
def execTimeCapture (v : Word) (s : State) : Host.Outcome State Fault Refusal := .next (s.served TIME.NOW_CAP (·.when (bitOf v.toNat 0) (·.captureNow)))

/-- SYNC_RECEIVE (R314, R315, R318-R321, R327, R329, R330): a Sync on UPL, its timestamp point `age` x 1.25 ns ago. -/
def execSyncReceive (m : SyncMsg) (age : Nat) (s : State) : Host.Outcome State Fault Refusal :=
  match s.syncFor m.domain.toNat with
  | none => .next s
  | some d =>
    let t := s.ingressStamp 0 age
    if m.twoStep then
      .next (s.modTime (fun x => { x with twoStep := x.twoStep ++ [{ domain := m.domain.toNat, seq := m.seq, ingress := t, correction := m.info.correction, logInterval := m.logInterval.toNat }] }))
    else .next (s.syncComplete d m.domain.toNat m.seq t m.logInterval.toNat m.info)

/-- FOLLOW_UP_RECEIVE (R320). -/
def execFollowUpReceive (dom : Byte) (seq : Fin 65536) (i : SyncInfo) (s : State) : Host.Outcome State Fault Refusal :=
  match s.time.twoStep.find? (fun p => p.domain == dom.toNat && p.seq == seq.val) with
  | none => .next s
  | some p =>
    let s := s.modTime (fun x => { x with twoStep := x.twoStep.erase p })
    match s.syncFor dom.toNat with
    | none => .next s
    | some d => .next (s.syncComplete d p.domain p.seq p.ingress p.logInterval { i with correction := i.correction + p.correction })

/-- FOLLOW_UP_TIMEOUT (R320): 10 ms after the two-step Sync of a domain and sequence number. -/
def execFollowUpTimeout (dom : Byte) (seq : Fin 65536) (s : State) : Host.Outcome State Fault Refusal :=
  match s.time.twoStep.find? (fun p => p.domain == dom.toNat && p.seq == seq.val) with
  | none => .next s
  | some p => .next (((s.modTime (fun x => { x with twoStep := x.twoStep.erase p })).inc TIME.RELAY_DROP_CNT).setBit TIME.EVT 10)

/-- A relayed Sync at the head of queue 6 of CAS. -/
def isRelay : TimeMsg → Bool
  | .relay _ _ _ _ _ => true
  | _ => false

/-- RELAY_SYNC_TRANSMIT (R292, R319, R321): the relayed Sync at the head of queue 6 of CAS starts, if it may. -/
def execRelaySyncTransmit (s : State) : Host.Outcome State Fault Refusal :=
  if (s.prt 1).q6.head?.any isRelay then .next (s.startUnsched 1) else .next s

/-- RELAY_TIMEOUT (R319): the oldest relayed Sync has waited 10 ms since its ingress. -/
def execRelayTimeout (s : State) : Host.Outcome State Fault Refusal :=
  if (s.prt 1).q6.any isRelay then
    .next (((s.modPort 1 (fun p => { p with q6 := p.q6.eraseP isRelay })).inc TIME.RELAY_DROP_CNT).setBit TIME.EVT 10)
  else .next s

/-- The TLVs of a message, each type, length and value, with the path trace TLV, of type 8, extended by `own`, or one with `own`
alone at the end where there is none (R312); `fuel` bounds their number. -/
def extendPath (own : List Byte) : Nat → List Byte → List Byte
  | 0, b => b
  | fuel + 1, b =>
    let n := be (slice b 2 2)
    if b.length < 4 then beBytes 2 8 ++ beBytes 2 8 ++ own
    else if be (b.take 2) = 8 then beBytes 2 8 ++ beBytes 2 (n + 8) ++ slice b 4 n ++ own ++ b.drop (4 + n)
    else b.take (4 + n) ++ extendPath own fuel (b.drop (4 + n))

/-- An Announce as relayed on CAS: own port identity, stepsRemoved plus 1, path trace extended (R312). -/
def State.announceRelay (s : State) (b : List Byte) : List Byte :=
  let own := s.clockIdentity
  let tlvs := extendPath own b.length (b.drop 64)
  b.take 2 ++ beBytes 2 (64 + tlvs.length) ++ slice b 4 16 ++ own ++ beBytes 2 2 ++ slice b 30 31
    ++ beBytes 2 (be (slice b 61 2) + 1) ++ slice b 63 1 ++ tlvs

/-- ANNOUNCE_RECEIVE (R312, R483): on UPL, the message's bytes. -/
def execAnnounceReceive (b : List Byte) (s : State) : Host.Outcome State Fault Refusal :=
  match s.syncFor (be (slice b 4 1)) with
  | none => .next s
  | some d =>
    let fl := be (slice b 7 1)
    let s := s.modDom d (fun x => { x with utc := some (sx 16 (be (slice b 44 2)), bitOf fl 2 && bitOf fl 4) })
    .next (s.when (s.hasPort 1 && (s.prt 1).link != .off) (fun s => s.offerTime 1 (.announce (s.announceRelay b))))

/-- PDELAY_REQ_RECEIVE (R312): sequence number and port identity of the requester. -/
def execPdelayReqReceive (p : Fin 2) (seq : Fin 65536) (req : List Byte) (age : Nat) (s : State) : Host.Outcome State Fault Refusal :=
  if (s.prt p).link = .up then .next (s.offerTime p (.pdelayResp seq req (s.ingressStamp p age))) else .next s

/-- A whole peer-delay exchange with t3 (R312): neighborRateRatio, meanLinkDelay and asCapable. -/
def PdelayState.complete (x : PdelayState) (t1 t2 t3 t4 : Nat) : PdelayState :=
  let nrr : Int := match x.last with
    | some (t3', t4') => if t4 = t4' then x.nrr else (((t3 : Int) - t3') - ((t4 : Int) - t4')) * 2 ^ 41 / ((t4 : Int) - t4')
    | none => x.nrr
  let turn : Int := (t4 : Int) - t1
  let delay := (turn + turn * nrr / 2 ^ 41 - ((t3 : Int) - t2)) / 2
  { x with req := none, resp := none, last := some (t3, t4), nrr := nrr, delay := delay, lost := 0, capable := decide (delay ≤ 12800) }

/-- PDELAY_RESP_RECEIVE (R312): a Pdelay_Resp with t2, or its Follow_Up with t3, in 1/16 ns. -/
def execPdelayRespReceive (p : Fin 2) (followUp : Bool) (seq : Fin 65536) (t age : Nat) (s : State) : Host.Outcome State Fault Refusal :=
  let x := nth {} s.time.pdelay p
  match x.req with
  | some (q, some t1) =>
    if q ≠ seq.val ∨ (s.prt p).link ≠ .up then .next s
    else if !followUp then .next (s.modPd p (fun x => { x with resp := some (t, s.ingressStamp p age) }))
    else
      match x.resp with
      | none => .next s
      | some (t2, t4) => .next (s.modPd p (fun x => x.complete t1 t2 t t4))
  | _ => .next s

/-- PDELAY_INTERVAL (R312): a Pdelay_Req is sent; more than 9 without an answer end asCapable. -/
def execPdelayInterval (p : Fin 2) (s : State) : Host.Outcome State Fault Refusal :=
  if (s.prt p).link ≠ .up then .next s
  else
    let x := nth {} s.time.pdelay p
    let lost := if x.req.isSome then x.lost + 1 else x.lost
    let s := s.modPd p (fun x => { x with seq := (x.seq + 1) % 65536, req := some (x.seq, none), resp := none, lost := lost, capable := x.capable && decide (lost ≤ 9) })
    .next (s.offerTime p (.pdelayReq x.seq))

/-- SIGNALING_RECEIVE (R312, R315): requested log intervals of Sync, 31.25 ms to 1 s, and of Pdelay, 125 ms to 8 s, and a
gPTP-capable TLV of a domain. -/
def execSignalingReceive (p : Fin 2) (sync pdelay : Option Int) (capable : Option Byte) (s : State) : Host.Outcome State Fault Refusal :=
  if (s.prt p).link ≠ .up then .next s
  else
    let s := match sync with
      | some l => s.modTime (fun t => { t with syncLog := clampInt (-5) 0 l })
      | none => s
    let s := match pdelay with
      | some l => s.modPd p (fun x => { x with log := clampInt (-3) 3 l })
      | none => s
    match (if p.val = 0 then capable else none).bind (fun n => s.domOf n.toNat) with
    | some d => .next (s.modDom d (fun x => { x with gptp := true }))
    | none => .next s

/-- The Announce of the grandmaster (R312, R313). -/
def State.gmAnnounce (s : State) (p : Nat) : List Byte :=
  s.ptpHeader 11 76 (s.getF (TIME.DOM_CFG 0) 0 8) 0 p s.time.gmSeq 5 0 ++ List.replicate 10 0 ++ beBytes 2 37 ++ [0, 246]
    ++ beBytes 4 0xF8FE436A ++ [248] ++ s.clockIdentity ++ beBytes 2 0 ++ [0xA0] ++ beBytes 2 8 ++ beBytes 2 8 ++ s.clockIdentity

/-- GM_SYNC_TRANSMIT (R313, R321): the grandmaster's interval; its master ports are UPL and, in a chain, CAS. -/
def execGmSyncTransmit (s : State) : Host.Outcome State Fault Refusal :=
  if !s.gm then .next s
  else
    let ports := (upto 2).filter (fun p => s.hasPort p && (s.prt p).link != .off)
    let s := s.each ports (fun s p => (s.offerTime p (.gmSync s.time.gmSeq)).offerTime p (.announce (s.gmAnnounce p)))
    .next (s.modTime (fun t => { t with gmSeq := (t.gmSeq + 1) % 65536 }))

/-- SYNC_RECEIPT_TIMEOUT (R315, R328). -/
def execSyncReceiptTimeout (d : Fin 2) (s : State) : Host.Outcome State Fault Refusal :=
  if s.domEnabled d && (s.gdom d).phase != .listen then .next (((s.inc TIME.SYNC_TO_CNT).setBit TIME.EVT 4).listen d) else .next s

/-- ACQ_STEP_APPLY (R25, R310, R338, R364): at the period start of its swap point, which with the cores halted is not taken. -/
def execAcqStepApply (s : State) : Host.Outcome State Fault Refusal :=
  match s.time.stepPend.filter (fun _ => !s.power.coresHalted) with
  | none => .next s
  | some o =>
    let k := (o + 8) / 16
    let s := ((s.stepTime k).inc TIME.ACQ_STEP_CNT).setBit TIME.EVT 6
    let s := s.modTime (fun t => { t with stepPend := none })
    if s.time.dtState = .acquire then .next ((s.enterSlew).setRate (s.gdom s.time.drive).rate (s.gdom s.time.drive).ofs) else .next s

/-- A write of TIME.CTL.SEL_GO (R326): refused at positions 1 to 3, and for a tracked domain in SUSPECT (R330). -/
def State.selGo (s : State) : State :=
  let d := s.getF TIME.CTL 4 1
  let drives := s.time.selected && s.time.drive == d
  if s.position ≠ 0 ∨ ((s.gdom d).phase = .suspect ∧ !drives) then s.setBit TIME.EVT 11
  else s.decideSwitch d

/-- A write of TIME.CTL (R324, R326, R340). -/
def State.timeCtl (s : State) (v : Nat) : State :=
  let s := s.wr TIME.CTL (v &&& 0x1F)
  if bitOf v 8 then s.selGo else s.freeSelect

/-- SWITCH_REQUEST (R326): a write of TIME.CTL. -/
def execSwitchRequest (v : Word) (s : State) : Host.Outcome State Fault Refusal := .next (s.served (TIME.CTL) (·.timeCtl v.toNat))

/-- DOMAIN_SWITCH (R325-R327): the switch time is reached. -/
def execDomainSwitch (s : State) : Host.Outcome State Fault Refusal :=
  match s.time.switchTo with
  | none => .next s
  | some (d, _) => .next ((s.modTime (fun t => { t with switchTo := none })).applySel d)

/-- AUTO_SELECT_TIMEOUT (R324): the other domain has been QUALIFIED for 5 s, and PREF has not. -/
def execAutoSelectTimeout (s : State) : Host.Outcome State Fault Refusal :=
  let d := 1 - s.getF TIME.CTL 0 1
  if s.bit TIME.CTL 1 && s.qualified d && !s.qualified (1 - d) && s.time.dtState == .free && !s.time.selected && !s.gm
    && (s.position == 0 || !s.time.tlvSeen) then .next (s.selectDom d)
  else .next s

/-- HOLD_TIMEOUT (R328, R330): HOLD_MS after the hold began. -/
def execHoldTimeout (s : State) : Host.Outcome State Fault Refusal :=
  if s.time.dtState ≠ .hold then .next s
  else if s.time.holdReason ≠ .step then .next s.enterFree.freeSelect
  else if s.position = 0 then
    let o := 1 - s.time.drive
    if s.time.switchTo.isSome then .next (s.unsuspect s.time.drive)
    else if s.bit TIME.CTL 1 && s.qualified o then .next ((s.decideSwitch o).unsuspect s.time.drive)
    else .next s.acceptStep
  else if s.time.selHold then .next (s.modTime (fun t => { t with holdOver := true }))
  else .next s.acceptStep

/-- SUSPECT_TIMEOUT (R330): HOLD_MS after a step of the tracked domain `d`. -/
def execSuspectTimeout (d : Fin 2) (s : State) : Host.Outcome State Fault Refusal :=
  if (s.gdom d).phase = .suspect ∧ !(s.time.dtState == .hold && s.time.drive == d.val) then .next ((s.unsuspect d).onQualified d) else .next s

/-- A write of TIME.DOM_ASYM[d]: the recorded offsets move by the change (R318). -/
def State.asymWrite (s : State) (d v : Nat) : State :=
  let k := sx 32 v - sx 32 (s.rd (TIME.DOM_ASYM d))
  (s.wr (TIME.DOM_ASYM d) v).modDom d (fun x => { x with ofs := x.ofs + k, recent := x.recent.map (fun p => (p.1 + k, p.2)), susp := x.susp.map (fun p => (p.1 + k, p.2)) })
    |>.modTime (fun t => if t.selected && t.drive == d then { t with measured := t.measured + k } else t)

/-- ASYM_WRITE (R318). -/
def execAsymWrite (d : Fin 2) (v : Word) (s : State) : Host.Outcome State Fault Refusal := .next (s.served (TIME.DOM_ASYM d) (·.asymWrite d v.toNat))

/-- A write of TIME.DOM_CFG[d] (R314, R315, R340): a domain no longer enabled, or of another number, starts from LISTEN. -/
def State.domCfgWrite (s : State) (d v : Nat) : State :=
  let was := fun (s : State) (d : Nat) => if s.domEnabled d then some (s.getF (TIME.DOM_CFG d) 0 8) else none
  let old := (upto 2).map (was s)
  let s := s.wr (TIME.DOM_CFG d) (fld v 31 1 * 2 ^ 31 + min 127 (fld v 0 8))
  s.each ((upto 2).filter (fun d => nth none old d != was s d)) (fun s d => (s.listen d).modDom d (fun _ => {}))

/-- TRIGGER_HANDOVER (R331-R336). -/
def execTriggerHandover (e : TrigEvent) (s : State) : Host.Outcome State Fault Refusal :=
  match e with
  | .slot old i =>
    match ((s.tableSet old).trig[i]?).filter (fun e => s.entryNow 45 old e.slot e.carry) with
    | none => .next s
    | some e => .next (s.trigSlot e)
  | .due c =>
    match s.time.trigs.find? (fun t => t.cam == c.val) with
    | none => .next s
    | some t => .next ((s.modTime (fun m => { m with trigs := m.trigs.erase t })).trigHand t)

/-- PP_TRIGGER_ASSERT (R334): the core-clock edge nearest to I - CAM_DLY. -/
def execPpTriggerAssert (p : Fin 2) (s : State) : Host.Outcome State Fault Refusal :=
  if s.time.ppPend.any (fun x => x.1 == p.val) then
    .next (s.modTime (fun m => { m with ppTrig := setNth m.ppTrig p true, ppPend := m.ppPend.eraseP (fun x => x.1 == p.val) }))
  else .next s

/-- PP_TRIGGER_RELEASE (R334): WIDTH x 40 ns later. -/
def execPpTriggerRelease (p : Fin 2) (s : State) : Host.Outcome State Fault Refusal :=
  .next (s.modTime (fun m => { m with ppTrig := setNth m.ppTrig p false }))

end Sys2Proof.Machine
end

