-- ==== Sys2Proof/Machine/Resets.lean ====
section
/-! DEFINITION. What resets reach (R31, R309, R510, R511): the counters and windows of each block, domain resets, and the
loss of everything outside AON. -/

namespace Sys2Proof.Machine

/-- Cameras, links and front ends of domain `d`. -/
def domCams (d : Nat) : List Nat := (upto 18).filter (fun n => camDomain n == d)

/-- Clusters of domain `d`. -/
def domClus (d : Nat) : List Nat := (upto 8).filter (fun k => cluDomain k == d)

/-- The domain of a CFS port (R30, R137). -/
def portDomain (p : Nat) : Nat :=
  if p < 18 then camDomain p else if p < 26 then cluDomain (p - 18) else if p < 30 then 7 else if p = 30 then 2 else 1

/-! ### Domain resets (R31, R157, R309, R510) -/

/-- Meridian after a NET domain reset: device time and its rate stay, pending actions go without a count, every domain
listens, and device time enters HOLD (R309). -/
def State.timeReset (s : State) : State :=
  let t := s.time
  let s : State := { s with time := { dt := t.dt, y := t.y, drive := t.drive, everLocked := t.everLocked, measured := t.measured } }
  s.enterHold .lost

/-- The block state of domain `d` lost: links, front ends, clusters, the store, or NET. A link in ACTIVE leaves it, so triggers that
have not gone out are skipped (R72, R336). -/
def State.domainState (s : State) (d : Nat) : State :=
  let cams := domCams d
  let clus := domClus d
  let s := s.each cams (fun s n =>
    ((s.when ((s.lnk n).training == .active) (·.linkDown n)).setLnk n {}).modFe n (fun f => { ({} : FeState) with inScene := f.inScene, lineQ := f.lineQ, embQ := f.embQ, statQs := f.statQs }))
  let s := s.each clus (fun s k => s.modCl k (fun c => { ({} : CluState) with svc := c.svc, grade := c.grade }))
  if d = 2 then s.storeReset
  else if d = 7 then ({ ((s.lbCount 0).lbCount 1) with eth := { ports := [{}, {}], ms := { txKeys := s.eth.ms.txKeys, rxKeys := s.eth.ms.rxKeys } }, pres := { warnLog := s.pres.warnLog.filter (fun w => w.2.isNone) } }).timeReset
  else s

/-- Address `a` is a snapshot register (R544). -/
def isSnapshot (a : Nat) : Bool :=
  counterRuns.any (fun c => c.has (a - c.snap) && decide (c.snap ≤ a)) || (decide (0x10044000 ≤ a) && decide (a < 0x10046000))

/-- The registers of domain `d` return to their reset values; counters, RWS fields and STRM_FRESH stay (R510), and, where the domain is
only switched off, the snapshot registers (R544). -/
def State.domainRegs (s : State) (d : Nat) (off : Bool) : State :=
  let stays := fun (a : Nat) => windowDomain a != some d || isCounter a || (off && isSnapshot a) || (decide (0x10091000 ≤ a) && decide (a < 0x10091800) && a % 32 == 16)
  { s with regs := s.regs.filter (fun p => stays p.1), shadow := s.shadow.filter (fun p => windowDomain p.1 != some d) }

/-- The queues with an end in domain `d` are flushed (R31, R157); a reset of the store loses them all instead. -/
def State.domainFlush (s : State) (d : Nat) : State :=
  if d = 2 then s
  else s.each ((s.cfs.queues.filter (fun p => p.2.en && (portDomain p.2.prod == d || portDomain p.2.cons == d))).map (·.1)) (fun s q => s.flush q true)

/-- Tests of units in domain `d` end at once as INCOMPLETE (R447). -/
def unitDomain (u : Nat) : Nat := if u < 8 then cluDomain u else camDomain (u - 8)

/-! ### Resets that reach CTRL (R511) -/

/-- A register that lies in AON and keeps its value through every reset but power-on (R417, R497, R511, R523), or that
shows fuses (R387, R3), which no reset changes. -/
def aonRegister (a : Nat) : Bool :=
  (decide (0x10010000 ≤ a) && decide (a < 0x10020000) &&
    !([PWR.DOM_REQ, PWR.DOM_RST, PWR.DOM_CFG, PWR.MODE, PWR.MODE_EVT, PWR.MODE_EVT_EN, PWR.SVC_POLICY, PWR.BOOT_CFG, PWR.WDT_CFG,
       PWR.BOOT_MARK 0, PWR.BOOT_MARK 1, PWR.BOOT_MARK 2, PWR.BOOT_MARK 3].contains a))
  || a == NVM.OTP_STAT || a == SYS.DEV_ID

/-- Everything outside AON at its reset value; AON, the flash, the fuses and the straps stay (R511). -/
def State.dropAll (s : State) : State :=
  let block := s.rd BIST.STAT / 64 % 2
  let s' : State := { State.reset with
    pending := s.pending, now := s.now, free := s.free, position := s.position, wakeAt := s.wakeAt,
    regs := s.regs.filter (fun p => aonRegister p.1),
    nvm := { flash := s.nvm.flash, erased := s.nvm.erased, keyoffUs := s.nvm.keyoffUs, keySlots := s.nvm.keySlots, deviceKey := s.nvm.deviceKey },
    alm := { rtc := s.alm.rtc, rtcAt := s.alm.rtcAt, rtcWas := s.alm.rtcWas, lifeAt := s.alm.lifeAt },
    mgmt := { answer := s.mgmt.answer }, bist := { keyBlocked := s.bist.keyBlocked, fused := s.bist.fused },
    pres := { warnLog := if s.warning then [(0, none)] else [] },
    power := { ({} : PowerState) with
      phase := s.power.phase, pwrReq := s.power.pwrReq, camPwrEn := s.power.camPwrEn, pgood := s.power.pgood, resetN := s.power.resetN,
      monitor := s.power.monitor, warnAt := s.power.warnAt, straps := s.power.straps, fresh := s.power.fresh, latched := s.power.latched,
      afterReset := s.power.afterReset, hostAt := s.power.hostAt, causeAt := s.power.causeAt, tripAt := s.power.tripAt, wokeAt := s.power.wokeAt } }
  s'.putF BIST.STAT 6 1 block

/-- The rails go down (R499-R503): both outputs fall, the comparators act no more, and no warning is left (R516, R520). The level of
`PGOOD` stays what the PMIC drives. -/
def State.railsDown (s : State) : State :=
  { s with alm := { s.alm with lifeAt := none }, pres := { s.pres with warnLog := [] },
           power := { s.power with pwrReq := false, camPwrEn := false, monitor := false, warnAt := none } }

/-- CTRL loses power with every other domain but AON. -/
def State.powerDown (s : State) : State := s.lifeUpdate.dropAll.railsDown

/-- Entry to STANDBY (R394, R522). -/
def State.enterStandby (s : State) : State :=
  let s := s.powerDown.wr PWR.FAULT_STAT 0
  { s with power := { s.power with phase := .standby } }

end Sys2Proof.Machine
end

