-- ==== Sys2Proof/Machine/Bist.lean ====
section
/-! DEFINITION. Collimation (spec/14_self_test_and_repair.md): verdicts, the tests of units at key-off and in MAINTENANCE,
zeroisation and the key store. -/

namespace Sys2Proof.Machine

/-! ### Verdicts (R445, R446) -/

/-- A verdict is counted: 2 FAIL, 3 INCOMPLETE. -/
def State.countVerdict (s : State) (v : Nat) : State :=
  if v = 2 then s.inc BIST.FAIL_CNT else if v = 3 then (s.inc BIST.INCOMPLETE_CNT).setBit BIST.EVT 4 else s

/-- What the image expects of the logic test of unit `u` (R462). -/
def State.testExpect (s : State) (u : Nat) : Option TestExpect := if u < 8 then s.nvm.config.cluTest else s.nvm.config.feTest

/-- No logic test of unit `u` is made: scan is blocked (R458), or the image has no entry for its kind (R462). -/
def State.noLogic (s : State) (u : Nat) : Bool := s.bit BIST.STAT 6 || (s.testExpect u).isNone

/-- The verdict of a logic test (R446, R447, R458, R462). -/
def State.logicVerdict (s : State) (t : UnitTest) (r : LogicResult) : Nat :=
  if s.noLogic t.unit then 0
  else match s.testExpect t.unit with
  | none => 0
  | some e => if r.count < e.count ∨ t.supply then 3 else if r.sig ≠ e.sig then 2 else 1

/-- The march steps of a macro's test (R452): at each address the 10 operations of March C- over each of two backgrounds, and, at key-on,
a write and a read of each of two retention elements. PRESUMED (log entry 203): March C- is that of the test literature. -/
def marchSteps (words : Nat) (retention : Bool) : Nat := words * (20 + if retention then 4 else 0)

/-- The spare rows and column groups of macro `m` that fused repair leaves (R171, R453). -/
def State.spares (s : State) (m : MacroId) : Nat × Nat :=
  match s.bist.fused.find? (fun p => p.1 == m) with
  | some p => (4 - p.2.1, 2 - p.2.2)
  | none => (4, 2)

/-- The verdict of a macro's test (R446, R453). -/
def State.macroVerdict (s : State) (retention : Bool) (t : MacroTest) : Nat :=
  if t.count < marchSteps t.words retention then 3
  else if t.rows.isEmpty && t.cols.isEmpty then 1
  else if (s.spares t.id).1 < t.rows.length ∨ (s.spares t.id).2 < t.cols.length ∨ !t.rerun then 2
  else 4

/-- Soft repair of a macro whose march has come to its end: the rows and column groups that get a spare, as long as there are spares, are
counted and go to the repair registers (R453). Those of a macro with too many faults: DESIGN CHOICE (log entry 204). -/
def State.softRepair (s : State) (t : MacroTest) : State :=
  let rows := t.rows.take (s.spares t.id).1
  let cols := t.cols.take (s.spares t.id).2
  let s := s.incBy BIST.REPAIR_CNT (rows.length + cols.length)
  { s with bist := { s.bist with repair := s.bist.repair.filter (fun p => p.1 != t.id) ++ (if rows.isEmpty && cols.isEmpty then [] else [(t.id, rows, cols)]) } }

/-- The macros `ts` with their verdicts; `cut` names those whose test was ended (R446, R447). -/
def State.macroVerdicts (s : State) (retention : Bool) (cut : MacroId → Bool) (ts : List MacroTest) : List (MacroTest × Nat) :=
  ts.map (fun t => (t, if cut t.id then 3 else s.macroVerdict retention t))

/-- The verdict of a unit's memory test, from those of its macros (R446, R447, R453). -/
def memVerdict (t : UnitTest) (vs : List Nat) : Nat :=
  if vs.contains 3 || t.supply then 3 else if vs.contains 2 then 2 else if vs.contains 4 then 4 else 1

/-! ### Units (R209, R461, R463, R465) -/

/-- CLU.STAT.STATE of cluster `k` outside a test (R209). -/
def State.cluService (s : State) (k : Nat) : Nat :=
  if !s.domOn (cluDomain k) then 0 else if s.sched.cur.variant = k + 1 ∨ s.sched.oos.contains k then 1 else if s.sched.cur.runs (35 + k) then 3 else 2

/-- Unit `u` is out of service: a cluster in OOS, or a front end taken out (R344, R464). -/
def State.unitOut (s : State) (u : Nat) : Bool := if u < 8 then (s.cl u).svc == 1 else s.feOos.contains (u - 8)

/-- The static tables of front end `n` are loaded from the image (R383, R510). -/
def State.feStatics (s : State) (n : Nat) : State :=
  s.each (s.nvm.config.feTables.filter (fun p => decide (FE.CTL n ≤ p.1) && decide (p.1 < FE.CTL n + 0x10000))) (fun s p => s.imageWrite p.1 p.2.toNat)

/-- A unit goes under test: a cluster shows TEST, and the power-down of its domain is refused (R463, R465). -/
def State.unitBegin (s : State) (t : UnitTest) : State :=
  let s : State := { s with bist := { s.bist with testing := s.bist.testing ++ [t] },
                            power := { s.power with testDoms := s.power.testDoms ++ [unitDomain t.unit] } }
  s.when (decide (t.unit < 8)) (·.modCl t.unit (fun c => { c with svc := 4 }))

/-- The window of unit `u`: its first address and the first one after it. -/
def unitWindow (u : Nat) : Nat × Nat :=
  if u < 8 then (0x10400000 + 0x100000 * u, 0x10500000 + 0x100000 * u) else (0x10200000 + 0x10000 * (u - 8), 0x10210000 + 0x10000 * (u - 8))

/-- The logic of unit `u` is reset: registers but not counters, and its state (R463). -/
def State.unitReset (s : State) (u : Nat) : State :=
  let w := unitWindow u
  let out := fun (a : Nat) => decide (a < w.1) || decide (w.2 ≤ a)
  let s : State := { s with regs := s.regs.filter (fun p => out p.1 || isCounter p.1), shadow := s.shadow.filter (fun p => out p.1) }
  if u < 8 then s.modCl u (fun c => { ({} : CluState) with svc := s.cluService u, grade := c.grade })
  else s.modFe (u - 8) (fun f => { ({} : FeState) with inScene := f.inScene, lineQ := f.lineQ, embQ := f.embQ, statQs := f.statQs })

/-- The firmware reloads the registers of unit `u` from the table set, those of a front end also from the device configuration and
the front-end tables (R463, R510). A unit that has been tested is out of service or without traffic: EN of a front end stays 0. -/
def State.unitReload (s : State) (u : Nat) : State :=
  let t := s.sched.cur
  if u < 8 then s.each (upto 8) (fun s x => s.initContext u x ((t.images u).find? (fun c => c.ctx == x)))
  else
    let n := u - 8
    let s := (s.feStatics n).switchFe n t
    match s.nvm.config.feCtl.find? (fun p => p.1 == n) with
    | some p => s.plainWrite (FE.CTL n) (setFld p.2.toNat 0 1 0)
    | none => s

/-- The unit's test has ended: it is under test no more, its logic is reset and its registers are reloaded. -/
def State.unitEnd (s : State) (u : Nat) : State :=
  let s : State := { s with bist := { s.bist with testing := s.bist.testing.filter (fun t => t.unit != u) },
                            power := { s.power with testDoms := s.power.testDoms.eraseP (· == unitDomain u) } }
  (s.unitReset u).unitReload u

/-- UNIT_RES of unit `u` after a test: its verdicts, STOPPED and SUPPLY; a verdict not asked for stays. -/
def State.unitResult (s : State) (u : Nat) (logic mem : Option Nat) (stopped supply : Bool) : State :=
  let old := s.rd (BIST.UNIT_RES u)
  s.wr (BIST.UNIT_RES u) (512 * b2n stopped + 256 * b2n supply + 16 * mem.getD (fld old 4 3) + logic.getD (fld old 0 3))

/-- UNIT_COUNT and UNIT_SIG of unit `u`. -/
def State.unitSig (s : State) (u count sig : Nat) : State :=
  ((s.wr (BIST.UNIT_COUNT u) count).wr (BIST.UNIT_SIG_LO u) sig).wr (BIST.UNIT_SIG_HI u) (sig / 2 ^ 32)

/-- The patterns applied in the `ns` nanoseconds of a logic test of unit `u` (R462): 1.824 µs or 0.704 µs each. -/
def patternsIn (u ns : Nat) : Nat := if u < 8 then min 32768 (ns / 1824) else min 8192 (ns / 704)

/-- The verdicts of a test that is stopped: of its logic test, and of its memory test. -/
def State.stopLogic (s : State) (t : UnitTest) : Option Nat := if t.logic then some (if s.noLogic t.unit then 0 else 3) else none

/-- The verdict of the memory test of a test that is stopped. -/
def UnitTest.stopMem (t : UnitTest) : Option Nat := if t.mem then some 3 else t.memV

/-- A test under way ends at once with INCOMPLETE (R447, R416); a logic test that is not made has NOT_RUN (R458, R462), and a memory test
that has ended keeps its verdict (R464). The MISR that is left is a free value (log entry 29). -/
def State.unitStop (s : State) (t : UnitTest) : State :=
  let no := s.noLogic t.unit
  let (sig, s) := s.fresh
  let n := match t.at_ with
    | some a => patternsIn t.unit (s.now - a)
    | none => 0
  let s := s.when t.logic (fun s => if no then s.unitSig t.unit 0 0 else (s.unitSig t.unit n (sig % 2 ^ 64)).countVerdict 3)
  let s := s.when t.mem (·.countVerdict 3)
  (s.unitResult t.unit (s.stopLogic t) t.stopMem true t.supply).unitEnd t.unit

/-- Every test of units ends at once, of those that `p` names. -/
def State.stopTests (s : State) (p : Nat → Bool) : State := s.each (s.bist.testing.filter (fun t => p t.unit)) (fun s t => s.unitStop t)

/-! ### The marks of units (R451, R466) -/

/-- The entry of a unit in the UNITS block after the verdicts of its test (R466): a FAIL marks a unit that has no mark. -/
def UnitRec.after (r : UnitRec) (logic mem : Option Nat) : UnitRec :=
  let r := match mem with
    | some v => { r with mem := v }
    | none => r
  match logic with
  | some 1 => { r with oos := false, suspect := false, memFault := false, logic := 1, passes := min 0xFFFF (r.passes + 1) }
  | some 2 => { r with oos := r.oos || !r.suspect, logic := 2, fails := min 0xFFFF (r.fails + 1) }
  | some v => { r with logic := v }
  | none => r

/-- The clusters that failed the key-on memory test are marked out of service (R451), once the journal is read. -/
def State.memMarks (s : State) : State :=
  if s.power.journal && s.bist.memDone then
    s.each ((upto 8).filter (fun k => s.bit BIST.MEM_STAT (16 + k))) (fun s k => s.markUnit k (fun r => { r with oos := true, memFault := true, mem := 2 }))
  else s

/-! ### The key store (R455-R457, R460) -/

/-- The key store and the key registers are written 0 (R457). -/
def State.keysCleared (s : State) : State :=
  { s with eth := { s.eth with ms := { s.eth.ms with txKeys := [], rxKeys := [], next := none, nextPn := 0 } }, nvm := { s.nvm with decryptKey := none } }

/-- The firmware unwraps the image-decrypt key of the journal into the key store (R456, R460), unless the device key is blocked
(R459). -/
def State.unwrapKey (s : State) : State :=
  match (s.alm.wrapped.filter (fun _ => !s.bist.keyBlocked)).bind (Config.keyUnwrap s.nvm.deviceKey) with
  | some k => (s.modNvm (fun n => { n with decryptKey := some k })).putBit BIST.STAT 5 false
  | none => s

/-! ### The key-off test (R461, R462) -/

/-- The order of the key-off test: suspect units, units out of service, all others. -/
def State.keyoffOrder (s : State) : List Nat :=
  let r := fun (u : Nat) => Map.get {} s.alm.units u
  (upto 26).filter (fun u => (r u).suspect) ++ (upto 26).filter (fun u => !(r u).suspect && (r u).oos)
    ++ (upto 26).filter (fun u => !(r u).suspect && !(r u).oos)

/-- The next pair of the key-off order starts. -/
def State.nextPair (s : State) : State :=
  let us := s.bist.order.take 2
  let s : State := { s with bist := { s.bist with order := s.bist.order.drop 2 } }
  s.each us (fun s u => s.unitBegin { unit := u, logic := true, mem := false, supply := s.warning, at_ := some s.now })

/-- Key-off step 4 ends and step 5 begins: its duration, the effects of the verdicts and the KEYOFF record (R415, R466,
R467). -/
def State.keyoffStep5 (s : State) : State :=
  let us := (s.now - s.bist.keyoffAt) / 1000
  let s := (s.wr BIST.KEYOFF_TIME (min 0xFFFFFF us)).modNvm (fun n => { n with keyoffUs := min 0xFFFFFF us })
  let s := s.each (upto 26) (fun s u => s.markUnit u (fun r => r.after (some (s.getF (BIST.UNIT_RES u) 0 3)) none))
  let s : State := { (s.putF BIST.STAT 0 4 0) with power := { s.power with shutStep := 5 }, bist := { s.bist with order := [], waiting := none } }
  s.askRecord .keyoff

/-! ### Tests in MAINTENANCE (R464, R458) -/

/-- A MAINTENANCE test ends with its verdicts (R412, R446, R460, R464, R466). -/
def State.maintEnd (s : State) (t : UnitTest) (logic mem : Option Nat) : State :=
  let pass := (logic.getD 1 == 1) && (mem.getD 1 == 1 || mem == some 4)
  let note := fun (p : Bool) (l : List Nat) => l.filter (· != t.unit) ++ (if p then [t.unit] else [])
  let s := (s.setBit BIST.EVT 2).when (logic == some 2 || mem == some 2) (·.setBit BIST.EVT 3)
  let s : State := { s with bist := { s.bist with
    waiting := none, passed := note pass s.bist.passed, fullPass := note (pass && logic.isSome && mem.isSome) s.bist.fullPass } }
  let s := s.modAlm (fun a => { a with units := Map.set {} a.units t.unit ((Map.get {} a.units t.unit).after logic mem) })
  ((s.putF BIST.STAT 0 4 0).when logic.isSome (·.unwrapKey)).askRecord (.event 5 t.unit)

/-- The key-off test goes on with its next pair, or, at its end or with scan blocked, to step 5 (R458, R461). -/
def State.nextTests (s : State) : State := if s.bist.order.isEmpty || s.bit BIST.STAT 6 then s.keyoffStep5 else s.nextPair

/-- The tests `ts` of MAINTENANCE that have been stopped end. -/
def State.stoppedEnd (s : State) (ts : List UnitTest) : State := s.each ts (fun s t => s.maintEnd t (s.stopLogic t) t.stopMem)

/-- A running MAINTENANCE test, or a running key-off pair, is stopped (R447). -/
def State.bistAbort (s : State) : State :=
  let ts := s.bist.testing
  let s := s.stopTests (fun _ => true)
  if ts.isEmpty then s else if s.power.shutStep = 4 then s.nextTests else s.stoppedEnd ts

/-- A write of BIST.RUN (R447, R464). -/
def State.bistRun (s : State) (v : Nat) : State :=
  let s := s.wr BIST.RUN (v &&& 0xDF)
  let s := s.when (bitOf v 9) (·.bistAbort)
  let u := v % 32
  if !bitOf v 8 then s
  else if s.mode == 6 && s.bist.testing.isEmpty && !s.bit BIST.STAT 3 && decide (u < 26) && (bitOf v 7 || bitOf v 6) && s.unitOut u then
    let t : UnitTest := { unit := u, logic := bitOf v 7, mem := bitOf v 6, supply := s.warning }
    let s := (s.putF BIST.STAT 0 4 12).unitBegin t
    { s with bist := { s.bist with waiting := if t.mem then none else some t } }
  else (s.inc BIST.REFUSED_CNT).setBit BIST.EVT 6

/-! ### Commands -/

/-- Zeroisation for an internal scan instruction of the test port ends (R457-R459): with every word 0 the chain is enabled and the
device key is blocked until the next power-on reset; a second failure blocks scan. With SCAN_BLOCK set nothing is enabled. No rule
says when the port leaves the scan: it stays until the next reset of CTRL. DESIGN CHOICE (log entry 176). -/
def State.portZeroised (s : State) (ok : Bool) : State :=
  if s.power.phase ≠ .running ∨ s.bit BIST.STAT 6 then s
  else
    let s := s.keysCleared
    if ok then { (s.putBit BIST.STAT 5 true) with bist := { s.bist with zeroFailed := false, portScan := true, keyBlocked := true } }
    else if !s.bist.zeroFailed then { s with bist := { s.bist with zeroFailed := true } }
    else { (((s.putBit BIST.STAT 6 true).inc BIST.ZERO_FAIL_CNT).setBit BIST.EVT 5) with bist := { s.bist with zeroFailed := false } }

/-- ZEROISE_DONE (R457-R459, R461): the read-back has found every word 0, or not; for the test port, or for
Collimation. -/
def execZeroiseDone (x : ZeroResult) (s : State) : Host.Outcome State Fault Refusal :=
  if x.port then .next (s.portZeroised x.ok)
  else
  let keyoff := s.power.shutStep == 4 && s.bist.testing.isEmpty
  if !keyoff && s.bist.waiting.isNone then .next s
  else
    let s := s.keysCleared
    if !x.ok && !s.bist.zeroFailed then .next { s with bist := { s.bist with zeroFailed := true } }
    else
      let s := if x.ok then s.putBit BIST.STAT 5 true else (((s.putBit BIST.STAT 6 true).inc BIST.ZERO_FAIL_CNT).setBit BIST.EVT 5)
      let s : State := { s with bist := { s.bist with zeroFailed := false } }
      let block := s.bit BIST.STAT 6
      if keyoff then
        if block then .next s.keyoffStep5
        else .next ({ s with bist := { s.bist with order := s.keyoffOrder } } : State).nextPair
      else
        let ts := s.bist.testing.map (fun t => if block then t else { t with at_ := some s.now })
        let s : State := { s with bist := { s.bist with waiting := none, testing := ts } }
        match s.bist.testing with
        | t :: _ => .next (s.when block (fun s => (((s.unitResult t.unit (some 0) t.memV false t.supply).unitSig t.unit 0 0).unitEnd t.unit).maintEnd t (some 0) t.memV))
        | [] => .next s

/-- LOGIC_TEST_PAIR_DONE (R446, R461-R463): with the results of the units of the pair, in their order. -/
def execLogicTestPairDone (rs : List LogicResult) (s : State) : Host.Outcome State Fault Refusal :=
  if s.power.shutStep = 4 ∧ !s.bist.testing.isEmpty then
    let s := s.each (s.bist.testing.zip (rs ++ List.replicate 2 { count := 0, sig := 0 })) (fun s p =>
      let v := s.logicVerdict p.1 p.2
      let run := v != 0
      (((s.unitSig p.1.unit (if run then p.2.count else 0) (if run then p.2.sig.toNat else 0)).unitResult p.1.unit (some v) none false p.1.supply).countVerdict v).unitEnd p.1.unit)
    .next s.nextTests
  else .next s

/-- UNIT_TEST_DONE (R446, R453, R458, R464): a test of the unit in MAINTENANCE ends: the memory test, which runs first where both are
asked for, without the retention elements, and then the logic test. -/
def execUnitTestDone (logic : LogicResult) (mem : UnitMem) (s : State) : Host.Outcome State Fault Refusal :=
  match s.bist.testing with
  | [] => .next s
  | t :: _ =>
    if s.power.shutStep ≠ 0 ∨ s.bist.waiting.isSome then .next s
    else if t.mem then
      let vs := s.macroVerdicts false (fun _ => false) mem.macros
      let v := memVerdict t (vs.map (·.2))
      let s := (s.each ((vs.filter (fun p => p.2 != 3)).map (·.1)) State.softRepair).countVerdict v
      let t' : UnitTest := { t with mem := false, memV := some v }
      if t.logic then .next { s with bist := { s.bist with testing := [t'], waiting := some t' } }
      else .next (((s.unitResult t.unit none (some v) false t.supply).unitEnd t.unit).maintEnd t none (some v))
    else
      let run := !s.noLogic t.unit
      let l := s.logicVerdict t logic
      let s := (s.unitSig t.unit (if run then logic.count else 0) (if run then logic.sig.toNat else 0)).countVerdict l
      .next (((s.unitResult t.unit (some l) t.memV false t.supply).unitEnd t.unit).maintEnd t (some l) t.memV)

/-- KEY_WAIT_TIMEOUT (R456): 50 ms have passed since the firmware started. -/
def execKeyWaitTimeout (s : State) : Host.Outcome State Fault Refusal :=
  .next (s.when s.power.firmware (·.modNvm (fun n => { n with keyWaitOver := true })))

end Sys2Proof.Machine
end

