-- ==== Sys2Proof/Machine/Alm.lean ====
section
/-! DEFINITION. Almanac (spec/15_ageing_and_life_records.md): monitors, core voltage, margin grades, calendar, and the
records of soundings. -/

namespace Sys2Proof.Machine

/-! ### Monitors (R468-R471) -/

/-- A bit of PWR.FAULT_STAT is set (R521). -/
def State.fault (s : State) (i : Nat) : State := s.setBit PWR.FAULT_STAT i

/-- The domain of path-delay monitor `i`. -/
def monDomain (i : Nat) : Nat :=
  if i < 4 then 1 else if i < 8 then 3 else if i < 12 then 4 else if i < 16 then 2 else if i < 20 then 7 else if i < 34 then 5 else 6

/-- The cluster of engine-clock monitor `i`: monitor 27 is in CLU[1] (worked example of R481); the others are open (log
entry 28). -/
def monCluster (i : Nat) : Nat := (if i < 34 then 0 else 4) + (if i = 27 then 1 else Config.monitorCluster i % 4)

/-- The domains of the temperature sensors, the ring-oscillator sets and the canaries. -/
def sensorDomain (i : Nat) : Nat := nth 0 [1, 3, 4, 2, 5, 5, 6, 7] i

/-- The domain of ring-oscillator set `j`. -/
def ringDomain (j : Nat) : Nat := nth 0 [1, 3, 4, 2, 7, 5, 6, 2] j

/-- The domain of canary `j`. -/
def canaryDomain (j : Nat) : Nat := nth 0 [2, 2, 2, 2, 5, 5, 6, 6] j

/-- Monitor `i` takes part in a sample (R469). -/
def State.monTaken (s : State) (i : Nat) : Bool :=
  s.domOn (monDomain i) && (decide (i < 20) || ((s.cl (monCluster i)).svc != 1 && (s.cl (monCluster i)).svc != 4))

/-- The clock period of monitor `i` in ps (R468). -/
def State.monPeriod (s : State) (i : Nat) : Nat := if i < 20 then 1000 else nth 800 [800, 869, 952] (s.cl (monCluster i)).grade

/-- The temperatures, oscillators and canaries of a reading (R469, R471), with canary events when it is a sample. -/
def State.readSensors (s : State) (r : AlmReading) (sample : Bool) : State :=
  let s := s.each (upto 8) (fun s i =>
    let x := s.bit (ALM.TEMP i) 31
    s.wr (ALM.TEMP i) (2 ^ 31 * b2n x + if x || !s.domOn (sensorDomain i) then 0 else tc 12 (nth 0 r.temps i)))
  let s := s.each (upto 8) (fun s j => s.wr (ALM.RO_FREQ j) (if s.domOn (ringDomain j) then nth 0 r.rings j else 0))
  s.each (upto 8) (fun s j =>
    let m := nth 0 r.canaries j
    let on := s.domOn (canaryDomain j)
    let s := s.wr (ALM.CANARY j) (if on then tc 16 m else 0)
    if !on || !sample then s
    else
      let s := s.modAlm (fun a => { a with canLow := Map.set none a.canLow j (some (min m ((Map.get none a.canLow j).getD m))) })
      s.when (decide (m < s.getF ALM.SLACK_CFG 16 8)) (fun s => (((s.inc ALM.CANARY_CNT).setBit ALM.EVT 7).fault 4).askRecord (.event 6 j)))

/-- T_max of a reading, in 0.25 degrees (R470); with no valid sensor it is a free value (log entry 1). -/
def State.hottest (s : State) (r : AlmReading) : Int × State :=
  let ts := ((upto 8).filter (fun i => !s.bit (ALM.TEMP i) 31 && s.domOn (sensorDomain i))).map (nth 0 r.temps)
  match ts with
  | [] => let (f, s) := s.fresh; (sx 12 f, s)
  | t :: rest => (rest.foldl max t, s)

/-- The first of the smallest entries of a list. -/
def lowestOf : List (Nat × Int) → Option (Nat × Int)
  | [] => none
  | x :: rest => match lowestOf rest with
    | some y => if y.2 < x.2 then some y else some x
    | none => some x

/-- All monitors are read (R469, R470): the registers, the worst derated slack, and whether an engine-clock monitor is
below SLACK_MIN. Slacks are in 1/40 ps; a rounded SLACK field that is not exact is a free choice of its neighbours (log
entry 1). -/
def State.readMonitors (s : State) (r : AlmReading) (sample : Bool) : State :=
  let s := s.readSensors r sample
  let (tm, s) := s.hottest r
  let slack := fun (s : State) (i : Nat) => (s.monPeriod i : Int) - nth 0 r.delays i
  let s := s.each (upto 48) (fun s i =>
    s.wr (ALM.MON i) (if s.monTaken i then 65536 * (nth 0 r.delays i % 65536) + tc 16 (slack s i) else 0))
  let coef := sx 8 (s.getF ALM.SLACK_CFG 8 8)
  let ds := ((upto 48).filter s.monTaken).map (fun i => (i, slack s i * 40 - coef * (500 - tm)))
  let (w, v) := (lowestOf ds).getD (0, 0)
  let (f, s) := if v % 40 = 0 then (0, s) else s.fresh
  let ps := v / 40 + f % 2
  let s := s.wr ALM.WORST (2 ^ 24 * b2n (decide (20 ≤ w)) + 65536 * w + tc 16 ps)
  let s := s.modAlm (fun a => { a with worst := v, short := ds.any (fun p => decide (20 ≤ p.1) && decide (p.2 < 40 * s.getF ALM.SLACK_MIN 0 8)) })
  if !sample then s
  else
    let low := fun (m : Map (Option Int)) (i : Nat) => Map.set none m i (some (min (slack s i) ((Map.get none m i).getD (slack s i))))
    let bin := clampNat 15 ((tm + 160) / 40)
    let bins := s.alm.tempBins ++ List.replicate (16 - s.alm.tempBins.length) 0
    s.modAlm (fun a => { a with
      low := if decide (ps < (a.low.map (·.1)).getD (ps + 1)) then some (ps, w) else a.low,
      monLow := ((upto 48).filter s.monTaken).foldl low a.monLow,
      tempBins := setNth bins bin (nth 0 bins bin + 1), tMax := some (max tm (a.tMax.getD tm)), tMin := some (min tm (a.tMin.getD tm)) })

/-! ### Core voltage and grade policy (R473-R481) -/

/-- The setpoint in mV. -/
def State.setMv (s : State) : Nat := s.getF ALM.AVS_STAT 0 10

/-- The ceiling of the policy (R474, R475). -/
def State.ceilMv (s : State) : Nat := if s.bit ALM.STAT 2 then s.setMv else s.getF ALM.AVS_CFG 10 10

/-- No step is started (R477): under a supply warning, with AVS_EN 0, or in SHUTDOWN_RECORD. -/
def State.stepHeld (s : State) : Bool := s.warning || !s.bit ALM.CTL 1 || s.mode == 7

/-- The policy may start a step: none is in progress, and AVSBus works (R472, R474). -/
def State.stepFree (s : State) : Bool := !s.bit ALM.STAT 2 && s.alm.step.isNone && s.alm.target.isNone

/-- A voltage step starts (R472, R473): a raise sends the command, a lowering first moves the monitor setpoint down. -/
def State.stepStart (s : State) (up : Bool) : State :=
  let mv := if up then s.setMv + 5 else s.setMv - 5
  let x : AvsStep := { up := up, rail := s.getF ALM.AVS_CFG 28 4, mv := mv }
  let s := s.modAlm (fun a => { a with step := some x, due := none, spare := 0, climb := if up && a.target.isNone then a.climb + 1 else 0 })
  s.when (!up) (·.putF PWR.SUP_SET 0 10 mv)

/-- A step of the policy falls due: it starts, or, while none may start, waits for a sample (R477). -/
def State.stepDue (s : State) (up : Bool) : State :=
  if !s.stepFree then s else if s.stepHeld then s.modAlm (fun a => { a with due := some up, climb := 0 }) else s.stepStart up

/-- The setpoint moves on toward its target, one step at a time; a restore ends with AVS_SHADOW at the setpoint (R472, R478). AVS_EN
governs the steps of R475 and R476 alone (R496). -/
def State.avsGo (s : State) : State :=
  match s.alm.target with
  | none => s
  | some t =>
    if s.alm.step.isSome then s
    else if t < s.setMv + 5 ∧ s.setMv < t + 5 then
      (s.when s.alm.restoring (·.wr PWR.AVS_SHADOW s.setMv)).modAlm (fun a => { a with target := none, restoring := false })
    else if s.warning || s.mode == 7 || s.bit ALM.STAT 2 then s
    else s.stepStart (decide (s.setMv < t))

/-- The setpoint goes to `mv`, held in FLOOR to CEIL, to restore what AON or the journal holds (R472, R478). -/
def State.restoreMv (s : State) (mv : Nat) : State :=
  (s.modAlm (fun a => { a with target := some (max (s.getF ALM.AVS_CFG 0 10) (min (s.getF ALM.AVS_CFG 10 10) mv)), restoring := true })).avsGo

/-- End of margin (R479, R480). -/
def State.endOfMargin (s : State) : State :=
  let s := (s.setBit ALM.EVT 5).when (!s.bit ALM.STAT 3) (·.askRecord (.event 4 (s.getF ALM.WORST 16 6)))
  s.putBit ALM.STAT 3 true

/-- The ceiling is reached with the slack short (R479, R480). -/
def State.atCeiling (s : State) : State :=
  let s := s.modAlm (fun a => { a with climb := 0 })
  let lower := match s.alm.refused with
    | some g => g + 1
    | none => s.alm.grade + 1
  if s.alm.short ∧ s.alm.grade < 2 then
    let s := (s.setBit ALM.EVT 2).when (!s.bit ALM.STAT 4) (·.askRecord (.event 1 (s.getF ALM.WORST 16 6)))
    let s := s.putBit ALM.STAT 4 true
    if !s.bit ALM.CTL 0 || s.alm.asked.isSome then s
    else if 2 < lower then s.endOfMargin
    else
      let s := ((s.inc ALM.GRADE_STEP_CNT).setBit ALM.EVT 3).modAlm (fun a => { a with asked := some lower })
      s.requestSwap .grade none (some lower) none s.leadTime 0 none
  else s.endOfMargin

/-- The policy on the worst derated slack (R475-R477, R479). -/
def State.slackPolicy (s : State) (sample : Bool) : State :=
  let mn := 40 * s.getF ALM.SLACK_MIN 0 8
  let hyst := 40 * s.getF ALM.SLACK_CFG 0 8
  let w := s.alm.worst
  let canUp := decide (s.setMv + 5 ≤ s.ceilMv)
  let canDown := decide (s.getF ALM.AVS_CFG 0 10 + 5 ≤ s.setMv)
  let s := s.when sample (·.modAlm (fun a => { a with climb := 0, spare := if (mn + hyst : Nat) ≤ w then a.spare + 1 else 0 }))
  match (if sample && !s.stepHeld && s.stepFree then s.alm.due else none) with
  | some up => if (if up then canUp else canDown) then s.stepStart up else s.modAlm (fun a => { a with due := none })
  | none =>
    if w < mn then
      if canUp then s.when (decide (s.alm.climb < 30)) (·.stepDue true)
      else s.atCeiling
    else if sample && decide (6 ≤ s.alm.spare) && canDown then s.stepDue false
    else s.modAlm (fun a => { a with climb := 0 })

/-- A step is made: the setpoint, its shadow, counter and event (R473). The steps of a restore are not counted, as the example of R481
shows, and AVS_SHADOW holds what is restored until it is reached. DEDUCED (log entry 198). -/
def State.stepMade (s : State) (x : AvsStep) : State :=
  let s := ((s.wr ALM.AVS_STAT x.mv).when x.up (·.putF PWR.SUP_SET 0 10 x.mv)).modAlm (fun a => { a with step := none })
  if s.alm.restoring then s
  else
    let s := ((s.wr PWR.AVS_SHADOW x.mv).setBit ALM.EVT 1).inc (if x.up then ALM.AVS_UP_CNT else ALM.AVS_DOWN_CNT)
    s.modAlm (fun a => { a with upTotal := a.upTotal + b2n x.up, downTotal := a.downTotal + b2n (!x.up) })

/-! ### The calendar (R483, R485) -/

/-- The RTC takes `sec` at the next tick, with its ticks at 0, by source `src` (R483). -/
def State.setRtc (s : State) (sec src : Nat) : State :=
  let s := s.modAlm (fun a => { a with
    rtc := sec % 2 ^ 40 * 32768, rtcAt := s.aonCycle + 1, rtcWas := if s.aonCycle < a.rtcAt then a.rtcWas else (a.rtc, a.rtcAt) })
  ((s.putBit PWR.RTC_STAT 0 true).putF PWR.RTC_STAT 4 2 src).setBit ALM.EVT 10

/-- The host has set the RTC in this AON tick (R483). -/
def State.hostSets (s : State) : Bool := decide (s.aonCycle < s.alm.rtcAt) && s.getF PWR.RTC_STAT 4 2 == 1

/-- The calendar at a sample: set from a traceable driving domain (R483), unless the host sets it in the same tick. -/
def State.calendar (s : State) : State :=
  match (s.gdom s.time.drive).utc with
  | some (ofs, true) =>
    if s.time.selected && s.time.dtState == .locked then
      let sec := ((s.time.dt / 2 ^ 40 / 1000000000 : Nat) - ofs).toNat
      let s := s.wr PWR.UTC_OFS (2 ^ 31 + tc 16 ofs)
      if sec = s.rtcSec ∨ s.hostSets then s else s.setRtc sec (2 + s.time.drive)
    else s
  | _ => s

/-! ### Soundings (R493-R495) -/

/-- Link `n` is due for a sounding (R493). A link with no recorded sounding is due (log entry 30). -/
def State.soundDue (s : State) (n : Nat) : Bool :=
  s.bit ALM.CTL 2 && s.power.firmware && match Map.get none s.alm.sounded n with
    | none => true
    | some (t, valid, p) =>
      if valid && s.bit PWR.RTC_STAT 0 then decide (86400 * max 1 (s.getF ALM.SOUND_CFG 0 8) ≤ (s.rtcSec + 2 ^ 32 - t) % 2 ^ 32)
      else decide (720 * 3600 ≤ s.powerSec - p)

/-- Almanac starts a sounding of link `n` (R83, R493). -/
def State.soundGo (s : State) (n : Nat) : State := s.soundCtl n (s.rd (LNK.SOUND_CTL n) ||| 1)

/-- At a sample one due link that the scene does not use is sounded (R493). -/
def State.soundOne (s : State) : State :=
  if (s.mode == 4 || s.mode == 5 || s.mode == 6) && (upto 16).all (fun n => (s.lnk n).sounding != .running) then
    match (upto 16).find? (fun n => s.soundDue n && !s.linkUsed n && s.domOn (camDomain n)) with
    | some n => s.soundGo n
    | none => s
  else s

/-- At key-off every due link is sounded (R493). -/
def State.soundAll (s : State) : State := s.each ((upto 16).filter (fun n => s.soundDue n && s.domOn (camDomain n))) (fun s n => s.soundGo n)

/-- The soundings in progress stop and their samples are discarded (R493). -/
def State.soundStop (s : State) : State :=
  s.each ((upto 16).filter (fun n => (s.lnk n).sounding == .running)) (fun s n => (s.modLnk n (fun l => { l with sounding := .idle })).linkReset n .long)

/-- The 128 largest differences, in index order. -/
def largest128 (es : List (Nat × Byte × Int)) : List (Nat × Byte × Int) :=
  let rank := fun (e : Nat × Byte × Int) =>
    (es.filter (fun x => decide (e.2.2.natAbs < x.2.2.natAbs) || (x.2.2.natAbs == e.2.2.natAbs && decide (x.1 < e.1)))).length
  es.filter (fun e => decide (rank e < 128))

/-- A sounding that is DONE is recorded: the baseline, or the trend against it (R494, R495). -/
def State.recordSounding (s : State) (n : Nat) (samples : List Byte) : State :=
  let bytes := (samples ++ List.replicate 768 0).take 768
  let s := (s.inc ALM.SOUND_CNT).modAlm (fun a => { a with sounded := Map.set none a.sounded n (some (s.rtcSec % 2 ^ 32, s.bit PWR.RTC_STAT 0, s.powerSec)) })
  match Map.get none s.alm.base n, s.bit ALM.REBASE n with
  | some base, false =>
    let ds := (upto 768).map (fun k => (k, nth 0 bytes k, sx 8 (nth 0 bytes k).toNat - sx 8 (nth 0 base k).toNat))
    let big := ds.filter (fun d => decide (s.getF ALM.SOUND_CFG 8 8 < d.2.2.natAbs))
    let kept := (largest128 big).map (fun d => (d.1, d.2.1, BitVec.ofNat 8 (tc 8 (clampInt (-128) 127 d.2.2))))
    let s := s.when (ds.any (fun d => decide (s.getF ALM.SOUND_CFG 16 8 < d.2.2.natAbs))) (fun s => (s.inc ALM.SOUND_ALARM_CNT).setBit ALM.EVT 8)
    s.readLinks.askRecord (.trend n (b2n (decide (128 < big.length))) kept)
  | _, _ =>
    let s := (s.clrBit ALM.REBASE n).modAlm (fun a => { a with base := Map.set none a.base n (some bytes) })
    s.askRecord (.baseline n bytes)

/-- A write of ALM.REBASE (R494). -/
def State.rebaseWrite (s : State) (v : Nat) : State := if s.mode = 6 then s.plainWrite ALM.REBASE v else s

/-! ### Commands -/

/-- A sample is taken (R469-R471, R475-R477, R479, R480, R483, R493). -/
def State.almSample (s : State) (r : AlmReading) : State :=
  let s := (s.modAlm (fun a => { a with sampleDue := none })).setBit ALM.EVT 0
  (((s.readMonitors r true).slackPolicy true).avsGo.calendar).soundOne

/-- ALM_SAMPLE (R469-R471, R475-R477, R479, R480, R483, R493). In the first period after a swap point the sample waits; its reading is
that of the command. DESIGN CHOICE (log entry 202). -/
def execAlmSample (r : AlmReading) (s : State) : Host.Outcome State Fault Refusal :=
  if !s.fwActs || s.sched.cur.period == 0 then .next s
  else if s.sched.overlap then .next (s.modAlm (fun a => { a with sampleDue := some r }))
  else .next (s.almSample r)

/-- The sample that waited for the end of OVERLAP is taken (R469). -/
def State.lateSample (s : State) : State :=
  match s.alm.sampleDue with
  | some r => if s.fwActs ∧ !s.sched.overlap then s.almSample r else s
  | none => s

/-- The management cores run: boot ROM or firmware (R26, R478). -/
def State.coresRun (s : State) : Bool := s.power.phase == .running && !s.power.coresHalted

/-- AVS_ACK (R473): the settle wait begins. -/
def execAvsAck (s : State) : Host.Outcome State Fault Refusal :=
  .next (s.when s.coresRun (·.modAlm (fun a => { a with step := a.step.map (fun x => { x with phase := .settle }) })))

/-- AVS_REMEASURE (R475, R479): 1 s after a step up of a sample, the monitors are read again. -/
def execAvsRemeasure (r : AlmReading) (s : State) : Host.Outcome State Fault Refusal :=
  if !s.fwActs || s.alm.climb == 0 || s.alm.step.isSome then .next s
  else .next ((s.readMonitors r false).slackPolicy false)

/-- HOURLY_RECORD_DUE (R488, R492): in SHUTDOWN_RECORD it is merged into the KEYOFF record. -/
def execHourlyRecordDue (s : State) : Host.Outcome State Fault Refusal :=
  if !s.fwActs || s.mode == 7 then .next s else .next (s.readLinks.askRecord .hourly)

/-- REBASE_WRITE (R494): a write of ALM.REBASE. -/
def execRebaseWrite (v : Word) (s : State) : Host.Outcome State Fault Refusal := .next (s.served (ALM.REBASE) (·.rebaseWrite v.toNat))

/-- SOUNDING_DONE (R83, R494, R495): with the 768 samples. -/
def execSoundingDone (n : Fin 16) (samples : List Byte) (s : State) : Host.Outcome State Fault Refusal :=
  if (s.lnk n).sounding = .running then
    let s := s.soundEnd n 1 samples
    .next (s.when s.fwActs (·.recordSounding n samples))
  else .next s

end Sys2Proof.Machine
end

