-- ==== Sys2Proof/Machine/CfsCmds.lean ====
section
/-! DEFINITION. The commands of the Central Frame Store (spec/04_central_frame_store.md). -/

namespace Sys2Proof.Machine

/-- The cells that a read of the oldest claimed item of queue `q` releases. -/
def QueueState.releases (x : QueueState) : Nat :=
  match x.items.find? (·.claimed) with
  | some i => if i.kind = .data then i.cells.length else 0
  | none => 0

/-- The free-list errors of a push or a commit. -/
def freeErrs (e : PtrErrs) : List (Nat × Nat) := e.free.map (fun p => (p.1.val, p.2))

/-- ITEM_PUSH (R143, R146, R149, R156, R160). With `x.rel` the read of the oldest claimed item completes in the same cycle: the quota test
nets the cells it releases, the pool test does not, and the release follows. -/
def execItemPush (q : Fin 1024) (port : Fin 32) (bytes : List Byte) (x : PushMeets) (s : State) :
    Host.Outcome State Fault Refusal :=
  let net := fun (s : State) => if x.rel then (s.q q).releases else 0
  let s := s.pushUse q port bytes.length (net s) x.err.list
  let old := (s.q q).occ
  let m := net s
  .next (((s.pushItem q port bytes.length m bytes (freeErrs x.err)).when x.rel (·.releaseOf q (fun _ => true))).watermark q old)

/-- ITEM_COMMIT (R141, R160): the last cells are written and linked at the tail, and the item commits; where the two copies of the tail
differ, the queue is reset instead, and its marker commits in the next cycle. -/
def execItemCommit (x : CommitOn) (s : State) : Host.Outcome State Fault Refusal :=
  .next (if x.err.list && (s.q x.q).items.any (fun i => !i.committed) then s.queueReset x.q else s.commitItem x.q (freeErrs x.err))

/-- QUEUE_POP (R145, R146, R153): a pointer error on the list resets the queue first, and the pop stalls (R159, R160). -/
def execQueuePop (q : Fin 1024) (port : Fin 32) (err : ReadErrs) (s : State) : Host.Outcome State Fault Refusal :=
  if !s.popAllowed q port then .next s.opErr
  else .next ((s.when err.ptr (·.queueReset q)).claimRead q 0 err)

/-- STALLED_POP_SERVE (R153). -/
def execStalledPopServe (q : Fin 1024) (err : ReadErrs) (s : State) : Host.Outcome State Fault Refusal :=
  if (s.q q).stall != 0 && (s.q q).canClaim then
    if err.ptr then .next (s.queueReset q)
    else .next ((s.modQ q (fun x => { x with stall := x.stall - 1 })).claimRead q 0 err)
  else .next s

/-- POP_CANCEL (R154, R155). -/
def execPopCancel (q : Fin 1024) (s : State) : Host.Outcome State Fault Refusal := .next (s.cancelPop q)

/-- ITEM_RELEASE (R145): the read of the oldest claimed item goes on, with the errors `x.err`, and completes. -/
def execItemRelease (x : ReleaseOn) (s : State) : Host.Outcome State Fault Refusal :=
  match (s.q x.q).items.find? (·.claimed) with
  | none => .next s
  | some i => .next ((s.readOn x.q i.owner x.err).releaseItem x.q)

/-- DEFERRED_MARKER_WRITE (R150): differing copies of the marker index reset the queue (R160). -/
def execDeferredMarkerWrite (x : MarkerOn) (s : State) : Host.Outcome State Fault Refusal :=
  let u := s.q x.q
  let differ := x.err || s.meets [.marker x.q, .tail x.q]
  .next ((s.when (differ && u.en && !u.markerBusy && u.pend != 0) (·.queueReset x.q)).writeDeferred x.q)

/-- QUEUE_FLUSH: a write of CFS.Q_FLUSH (R157). -/
def execQueueFlush (v : Word) (s : State) : Host.Outcome State Fault Refusal := .next (s.served (CFS.Q_FLUSH) (·.flush (fld v.toNat 0 10) false))

/-- FLUSH_WALK_DONE (R158), or the walk stopped by a pointer error after `stop` cells (R160). -/
def execFlushWalkDone (stop : Option Nat) (s : State) : Host.Outcome State Fault Refusal :=
  match stop with
  | none => .next s.walkDone
  | some n => .next (s.walkStop n)

/-- The walk of the pool audit meets one pointer that has been struck: the list it lies on is handled as R160 says (R162). -/
def State.auditMeets (s : State) (u : Config.StoreUpset) : State :=
  let onList := fun (q : Nat) => s.when (s.q q).en (·.queueReset q)
  match u with
  | .head q => onList q
  | .tail q => onList q
  | .marker q => onList q
  | .entry c =>
    let t := s.mend [u]
    match s.cfs.queues.find? (fun p => p.2.en && p.2.items.any (fun i => i.cells.contains c)) with
    | some p => t.queueReset p.1
    | none =>
      if (runsCells (s.cfs.quad (c % 4))).contains c then t.cutFreeList (c % 4) ((runsCells (s.cfs.quad (c % 4))).takeWhile (fun d => d != c)).length
      else
        match s.cfs.walks with
        | w :: _ => if w.contains c then t.walkStop (w.takeWhile (fun d => d != c)).length else s
        | [] => s
  | _ => s

/-- AUDIT_PASS_END (R161, R162): the pointer errors the pass met, struck or named by `x.errs`, then every cell left unmarked back to the pool: the orphans from before
the pass, and of those since the cells `x.late` that the walk had not yet marked, the cells moved in the pass being marked. -/
def execAuditPassEnd (x : AuditPass) (s : State) : Host.Outcome State Fault Refusal :=
  if !s.bit CFS.CTL 0 then .next s
  else
    let s := s.each s.cfs.upsets State.auditMeets
    let s := s.each x.errs (fun s e => match e with
      | .queue q => s.queueReset q
      | .free j keep => s.cutFreeList j keep
      | .walk n => s.walkStop n)
    let unmarked := fun (c : Nat) => x.late.contains c && !s.cfs.marks.contains c
    let back := s.cfs.orphans ++ s.cfs.orphansNew.filter unmarked
    let f := back.foldl CfsState.putCell s.cfs
    let s := { s with cfs := { f with orphans := s.cfs.orphansNew.filter (fun c => !unmarked c), orphansNew := [], marks := [] } }
    let s := (s.incBy CFS.ORPHAN_CNT back.length).when (!back.isEmpty) (·.setBit CFS.EVT 3)
    .next ((s.setBit CFS.EVT 9).putF CFS.AUDIT_STAT 0 16 (s.rd CFS.AUDIT_STAT + 1))

/-- SCRUB_READ (R163-R165): the next cell in index order, with `ce` corrected words and the uncorrectable words `ue`. -/
def execScrubRead (ce : Fin 33) (ue : List (Nat × Nat)) (s : State) : Host.Outcome State Fault Refusal :=
  if !s.bit CFS.CTL 1 then .next s
  else
    let c := s.cfs.scrubPos
    let s := s.readErrs (s.struck (fun d _ => d == c)) [c]
    let s := (s.corrected (List.replicate ce c)).uncorrectable (ue.map (fun w => (c, w.1, w.2)))
    .next { s with cfs := { s.cfs with scrubPos := (c + 1) % 196608 } }

/-- SCRUB_WRITEBACK (R163, R165): the corrected word is written back; the cell's content is what it read as. -/
def execScrubWriteback (c : Fin 196608) (s : State) : Host.Outcome State Fault Refusal :=
  let singles := s.cfs.upsets.filter (fun u => match u with
    | .single d _ => d == c.val
    | _ => false)
  .next (({ s with cfs := { s.cfs with scrubPend := s.cfs.scrubPend.filter (fun d => d != c.val) } } : State).mend singles)

/-- WATERMARK_WRITE (R168). -/
def execWatermarkWrite (q : Fin 1024) (high : Bool) (v : Word) (s : State) : Host.Outcome State Fault Refusal :=
  .next (s.served (if high then CFS.Q_WM_HI q else CFS.Q_WM_LO q) (·.writeWatermark q high v.toNat))

end Sys2Proof.Machine
end

