-- ==== Sys2Proof/Machine/Boot.lean ====
section
/-! DEFINITION. Wake, resets, boot and shutdown (spec/12_operating_modes_and_boot.md, spec/16_power_and_supervision.md), and
the flash operations that end within them. -/

namespace Sys2Proof.Machine

/-- A part of the power state changed by `f`. -/
def State.modPower (s : State) (f : PowerState → PowerState) : State := { s with power := f s.power }

/-! ### Front ends and links taken out of service (R344, R410) -/

/-- A write of FE.CTL (R93, R105): a port whose EN falls loses its presence. -/
def State.feCtl (s : State) (n v : Nat) : State :=
  let old := s.feAbsent n
  let s := s.plainWrite (FE.CTL n) v
  let s := if s.bit (FE.CTL n) 0 then s else s.modFe n (fun f => { f with ppPresent := false, ppFrame := false, ppVs := true, ppOpen := none })
  s.fePresence n old

/-- Front end `n` is taken out of service: its EN is cleared, and the mode follows (R344, R410). -/
def State.feTakeOut (s : State) (n : Nat) : State :=
  let s : State := if s.feOos.contains n then s else { s with feOos := s.feOos ++ [n] }
  let s := s.feCtl n (setFld (s.rd (FE.CTL n)) 0 1 0)
  s.when (s.mode == 4 && s.degraded) (·.setMode 5 4)

/-! ### The stored settings of a port (R286, R487) -/

/-- The settings of a lane: CTLE, taps 1 to 12, CM2, CM1, C0, CP1, precoding, a reserved byte. -/
def State.laneBytes (s : State) (p l : Nat) : List Byte :=
  let rx := s.rd (ETH.LANE_RXCFG p l)
  let tx := s.rd (ETH.LANE_TXEQ p l)
  leBytes 1 (fld rx 0 4) ++ (upto 3).flatMap (fun i => leBytes 4 (s.rd (ETH.LANE_DFE p l i)))
    ++ leBytes 1 (fld tx 24 6) ++ leBytes 1 (fld tx 8 6) ++ leBytes 1 (fld tx 16 6) ++ leBytes 1 (fld tx 0 6) ++ leBytes 1 (fld rx 4 2) ++ [0]

/-- The PORTS entry of port `p` (R487). -/
def State.portBytes (s : State) (p : Nat) : List Byte :=
  leBytes 1 1 ++ leBytes 1 (s.getF (ETH.PCFG p) 1 2) ++ [0, 0]
    ++ (upto 4).flatMap (fun l => if l < s.lanesUsed p then s.laneBytes p l else List.replicate 19 0)

/-- Step 2 of R415: the settings of every port in UP are captured; the others are not stored. -/
def State.capturePorts (s : State) : State :=
  let s := s.each (upto 2) (fun s p => s.settleLanes p)
  s.modAlm (fun a => { a with ports := (upto 2).foldl (fun m p => Map.set none m p (if (s.prt p).link = .up then some (s.portBytes p) else none)) [] })

/-- The stored settings are written to the lane registers of port `p`. -/
def State.loadPort (s : State) (p : Nat) (b : List Byte) : State :=
  s.each (upto 4) (fun s l =>
    let x := fun (o n : Nat) => le (slice b (4 + 19 * l + o) n)
    let s := s.laneWrite .rxcfg p l (x 0 1 % 16 + 16 * (x 17 1 % 4))
    let s := s.laneWrite .txeq p l (x 13 1 % 64 * 2 ^ 24 + x 15 1 % 64 * 2 ^ 16 + x 14 1 % 64 * 2 ^ 8 + x 16 1 % 64)
    s.each [0, 1, 2] (fun s (i : Fin 3) => s.laneWrite (.dfe i) p l (x (1 + 4 * i.val) 4)))

/-- The firmware enables port `p` with the mode of the image; with `fast` from the stored settings, where they are of this
mode (R286, R510). -/
def State.portBoot (s : State) (p : Nat) (fast : Bool) : State :=
  match s.nvm.config.portMode.find? (fun x => x.1 == p) with
  | none => s
  | some (_, mode) =>
    let stored := Map.get none s.alm.ports p
    let fr := fast && stored.any (fun b => (nth 0 b 1).toNat == mode)
    let s := if fr then s.loadPort p (stored.getD []) else s
    s.portCfg p (setFld (setFld (setFld (s.rd (ETH.PCFG p)) 1 2 mode) 4 1 (b2n fr)) 0 1 1)

/-! ### Steps of BOOT (R402) -/

/-- EN of every link of scene `n` is set, with the rest of LNK.CTL from the image (R402 step 6). -/
def State.enableLinks (s : State) (n : Nat) : State :=
  s.each (s.sceneLinks n) (fun s l => s.linkCtl l (setFld (((s.nvm.config.links.find? (fun p => p.1 == l)).map (·.2.toNat)).getD (s.rd (LNK.CTL l))) 0 1 1))

/-- Step 6 of R402, once the analogue phase has ended and the firmware runs. -/
def State.bootStep6 (s : State) : State :=
  if !s.fwActs || !s.power.journal || !s.bist.anaDone || s.power.step6 then s
  else
    let s := s.modPower (fun p => { p with step6 := true })
    let s := s.each (upto 2) (fun s p => s.portBoot p true)
    let s := s.each s.nvm.config.feCtl (fun s p => s.feCtl p.1 (if s.feOos.contains p.1 then setFld p.2.toNat 0 1 0 else p.2.toNat))
    s.enableLinks s.sched.wantScene

/-- The early-view scene: the lowest one whose table sets carry EARLY at this position (R403). -/
def State.earlyScene (s : State) : Option Nat :=
  (upto 8).find? (fun n => s.nvm.sections.any (fun x => x.type == 2 && x.id % 256 == n && x.id / 16777216 == s.position
    && (s.clearBytes x).any (fun b => (parseSet b {}).early)))

/-- The early section has data for memories that key-on tests. -/
def DeviceConfig.testedData (c : DeviceConfig) : Bool := !c.draw.isEmpty || !c.feTables.isEmpty

/-- At the end of the memory phase, the firmware that runs fetches the data again that waited for it (R454). -/
def State.refetch (s : State) : State := s.when (s.fwActs && s.nvm.config.testedData) (·.flashPush .refetch)

/-- That fetch is in progress. -/
def State.refetching (s : State) : Bool := s.nvm.ops.any (fun j => j.op == .refetch)

/-- Step 7 of R402, once the store is ready and the memory phase has ended: the variant and the front ends of R404, and the
early-view table set. The swap of a PREP that has come before takes the new variant, and follows the early-view set. -/
def State.bootStep7 (s : State) : State :=
  if !s.fwActs || !s.power.journal || !s.cfs.ready || !s.bist.memDone || s.alm.target.isSome || s.refetching || s.power.step7 then s
  else
    let s := s.modPower (fun p => { p with step7 := true })
    let s := s.each (s.journalOut.drop 1) (fun s _ => (s.inc SCHED.MULTI_OOS_CNT).setBit SCHED.EVT 6)
    let s := s.each ((upto 18).filter (fun n => (Map.get {} s.alm.units (8 + n)).oos)) (fun s n => s.feTakeOut n)
    let v := s.journalVariant
    let prep := s.sched.next.filter (fun (w : Swap) => w.kind == .boot)
    let s := s.modSched (fun x => { x with bootVariant := v })
    match s.earlyScene.filter (fun n => s.sceneHeld n && !s.power.earlyBad), prep with
    | some n, some w => (s.modSched (fun x => { x with waiting := some { w with variant := v } })).newSwap (Swap.from_ .early n s.alm.grade v s.time.dt)
    | some n, none => s.newSwap (Swap.from_ .early n s.alm.grade v s.time.dt)
    | none, some w => s.when (w.variant != v) (·.newSwap { w with variant := v })
    | none, none => s

/-- Garnet's draw memory is written from the image (R383). -/
def State.deliverDraw (s : State) (draw : List (Nat × List Byte)) : State :=
  { s with pres := { s.pres with draw := draw.foldl (fun m p => Memory.write m p.1 p.2) s.pres.draw, drawRdy := true } }

/-- The early-section data for memories that key-on tests is written (R384, R454). -/
def State.deliverTables (s : State) : State :=
  let c := s.nvm.config
  let s := s.each c.feTables (fun s p => s.imageWrite p.1 p.2.toNat)
  if c.draw.isEmpty then s else s.deliverDraw c.draw

/-- Key-on Collimation starts once every domain is up and the setpoint is restored (R402 steps 2 and 3, R448, R478). -/
def State.keyonGo (s : State) : State :=
  if s.bist.keyonDue && (upto 8).all s.domOn && s.alm.target.isNone then
    { (s.putF BIST.STAT 0 4 9) with bist := { s.bist with keyonDue := false, phaseAt := s.now } }
  else s

/-- What waits on several events of the boot sequence is taken up. -/
def State.bootAgain (s : State) : State := s.bootStep6.bootStep7.serviceRequest

/-! ### Wake and resets (R394-R400, R511, R512) -/

/-- PWR.MODE and its event at an entry to BOOT. -/
def State.bootMode (s : State) (prev reason : Nat) : State := (s.wr PWR.MODE (reason * 256 + prev * 16 + 2)).setBit PWR.MODE_EVT 0

/-- PWR_REQ rises (R500, R517). -/
def State.requestRails (s : State) : State :=
  (s.putF PWR.SUP_SET 0 10 750).modPower (fun p => { p with pwrReq := true, camPwrEn := true, phase := .rails })

/-- The source of a wake is recorded (R396, R416, R417), and MERGED counts from it (R523). -/
def State.recordWake (s : State) (src : Nat) (during : Bool) : State :=
  let s := ((s.wr PWR.WAKE_SRC (256 * b2n during + src)).inc PWR.WAKE_CNT).putBit PWR.SUP_STAT 1 false
  { s with power := { s.power with latched := none, hostAt := s.now } }

/-- A wake from STANDBY (R394, R396, R400, R491): `ago` is the core cycles since the wake. -/
def State.wake (s : State) (src : Nat) (during : Bool) (ago : Nat) : State :=
  let s := (s.recordWake src during).wr PWR.LIFE_KEY (min 0xFFFF (s.rd PWR.LIFE_KEY + 1))
  (({ s with wakeAt := s.now - ago } : State).requestRails.bootMode 1 1).modPower (fun p => { p with wokeAt := some s.aonCycle })

/-- Device time at the end of a reset (R309): the calendar plus the recorded UTC offset. -/
def State.startTime (s : State) : State :=
  let ofs := if s.bit PWR.UTC_OFS 31 then sx 16 (s.rd PWR.UTC_OFS) else 0
  s.modTime (fun _ => { dt := ((s.rtcSec : Int) + ofs).toNat * 1000000000 * 2 ^ 40 })

/-- The boot ROM powers up domain `d` (R402 step 2, R504, R508). -/
def State.bootDomain (s : State) (d : Nat) : State := (s.putBit PWR.DOM_REQ d true).setDom d .rising

/-- Steps 1 to 4 of R402, once the rails are good and the reference is stable: STORE powers up first (R28), the setpoint moves to that of
AVS_SHADOW (R478, R517), a bank is selected; key-on follows when both have ended. -/
def State.bootRun (s : State) (f : FlashInit) : State :=
  let s := s.modPower (fun p => { p with phase := .running, doms := .up :: .up :: List.replicate 6 .off })
  let s := ((s.wr PWR.DOM_REQ 0).bootDomain 2).modAlm (fun a => { a with lifeAt := some (a.lifeAt.getD s.now) })
  let s := ((s.wr ALM.AVS_STAT (s.getF PWR.SUP_SET 0 10)).restoreMv (s.getF PWR.AVS_SHADOW 0 10)).startTime
  let s := s.when (s.isAS && s.power.straps != 0) (·.setBit ETH.EVT 9)
  let s := s.when s.power.afterReset (fun s => (s.setBit PWR.EVT 5).fault 7)
  let s := s.modPower (fun p => { p with afterReset := false })
  ({ s with bist := { s.bist with keyonDue := true } } : State).bankSelect f

/-- The order of R511 in which the causes of one AON cycle stand: power-on, supply, PGOOD, pin, watchdog. -/
def causeRank (cause : Nat) : Nat := nth 5 [5, 0, 3, 4, 1, 2] cause

/-- The cause of a reset is recorded; of several in one AON cycle the first in the order of R511. -/
def State.recordCause (s : State) (cause : Nat) : State :=
  if s.power.causeAt = some s.aonCycle ∧ causeRank (s.rd PWR.RST_CAUSE) ≤ causeRank cause then s
  else (s.wr PWR.RST_CAUSE cause).modPower (fun p => { p with causeAt := some s.aonCycle })

/-- A reset that reaches every domain but AON (R511): what the flash does is cut off, the cause, and the entry to BOOT. -/
def State.resetAll (s : State) (cause : Nat) : State :=
  let prev := if s.power.phase = .standby then 1 else s.mode
  let s := s.flashCut.lifeUpdate.dropAll
  (((({ s with wakeAt := s.now } : State).recordWake 4 false).modPower (fun p => { p with wokeAt := none })).recordCause cause).bootMode prev 1

/-- The rails are cycled after a PGOOD or supply reset (R502, R519). -/
def State.cycleRails (s : State) (cause : Nat) : State :=
  let armed := s.power.monitor
  ((s.resetAll cause).fault 5).railsDown.modPower (fun p => { p with
    phase := .hold, afterReset := true, tripAt := if armed then some s.aonCycle else p.tripAt })

/-- The straps are sampled (R3, R296). -/
def State.sampleStraps (s : State) (straps : Nat) : State :=
  { s with position := if s.isAS then 0 else straps, power := { s.power with straps := straps } }

/-- VDD_AON has gone or come: nothing but the flash, the fuses and the commands that wait is kept (R511), and what the flash does is cut
off (R490). -/
def State.powerOff (s : State) : State :=
  let s := s.flashCut
  { State.reset with
    pending := s.pending, now := s.now, free := s.free, regs := s.regs.filter (fun p => p.1 == NVM.OTP_STAT || p.1 == SYS.DEV_ID),
    nvm := { flash := s.nvm.flash, erased := s.nvm.erased, keyoffUs := s.nvm.keyoffUs, keySlots := s.nvm.keySlots, deviceKey := s.nvm.deviceKey },
    bist := { fused := s.bist.fused }, alm := { rtcAt := s.aonCycle }, mgmt := { answer := s.mgmt.answer },
    power := { causeAt := some s.aonCycle } }

/-! ### SHUTDOWN_RECORD (R415, R416) -/

/-- An image-write session ends with `result`; what makes the bank WRITING stays queued (R390). -/
def State.endSession (s : State) (result : Nat) : State :=
  let s := (s.flashDrop (fun o => o.isImage && !o.opensBank)).modNvm (fun n => { n with session := none })
  (s.putF NVM.WR_STAT 28 3 result).putBit NVM.WR_STAT 31 false

/-- Step 3 of R415, at the period start, with the soundings of R493; a wake latched before skips the test (R416). A MAINTENANCE test that
still runs is ended as by ABORT. DESIGN CHOICE (log entry 206). -/
def State.shutTraffic (s : State) : State :=
  let s := (s.bistAbort.each (upto 26) (fun s u => s.wr (BIST.UNIT_RES u) 0)).shutStop
  if s.power.latched.isSome then s.keyoffStep5 else s.soundAll

/-- Entry to SHUTDOWN_RECORD, steps 1 and 2 of R415; without a table set in force the traffic ends at once. -/
def State.enterShutdown (s : State) (reason : Nat) : State :=
  let s := (s.setMode 7 reason).when (!s.power.served) (·.inc PWR.EARLY_ONLY_CNT)
  let s := (s.when s.nvm.session.isSome (·.endSession 4)).capturePorts
  let s := s.modPower (fun p => { p with shutStep := 3 })
  if s.sched.cur.period = 0 then s.shutTraffic else s

/-- The wake is latched in SHUTDOWN_RECORD (R416): soundings in progress stop (R493), and so does the test of step 4. -/
def State.latchWake (s : State) (src : Nat) : State :=
  let s := (s.inc PWR.SHUT_ABORT_CNT).modPower (fun p => { p with latched := some src, wokeAt := some s.aonCycle })
  let s := s.when (s.power.shutStep != 6) (·.soundStop)
  if s.power.shutStep = 4 then (s.stopTests (fun _ => true)).keyoffStep5 else s

/-- A wake is recorded or latched already in this AON cycle (R396). -/
def State.wokeNow (s : State) : Bool := s.power.wokeAt == some s.aonCycle

/-- A wake event of source `src` (R396, R398, R416); of two in one AON cycle the lowest source stands. -/
def State.wakeEvent (s : State) (src ago : Nat) : State :=
  if !s.bit PWR.WAKE_CFG (src - 1) then s
  else if s.power.phase = .standby then s.wake src false ago
  else
    match s.power.latched with
    | some x => s.when s.wokeNow (·.modPower (fun p => { p with latched := some (min x src) }))
    | none =>
      if s.wokeNow then s.putF PWR.WAKE_SRC 0 3 (min src (s.getF PWR.WAKE_SRC 0 3))
      else if s.power.phase = .running ∧ s.mode = 7 then s.latchWake src
      else s

/-- The next power-down of step 6 of R415: the highest domain that is not off; one whose change is in progress is waited for (R507), and
the channels of the DMA are dealt with first (R437, R505). -/
def State.shutNext (s : State) : State :=
  match [7, 6, 5, 4, 3, 2].find? (fun d => s.dom d != .off) with
  | none => s
  | some d => s.when (s.domOn d) (fun s => ((s.putBit PWR.DOM_REQ d false).setDom d .falling).dmaOff d)

/-- Step 5 of R415 has ended: BOOT after a latched wake (R416), else the power-down of step 6. -/
def State.shutRecorded (s : State) (f : FlashInit) : State :=
  let s := s.flashDrop (fun _ => true)
  match s.power.latched with
  | none => (s.modPower (fun p => { p with shutStep := 6 })).shutNext
  | some src =>
    let s := (({ s.lifeUpdate.dropAll with wakeAt := s.now } : State).recordWake src true)
    ((s.bootMode 7 9).setBit PWR.MODE_EVT 6).bootRun f

/-- The records that wait are written, the HOURLY one merged, then the KEYOFF record (R488, R491). -/
def State.writeKeyoff (s : State) : State :=
  let ks := s.nvm.ops.filterMap (fun j => match j.op with
    | .journal .hourly => none
    | .journal .keyoff => none
    | .journal k => some k
    | _ => none)
  (s.each ks (fun s k => s.writeRecord k)).writeRecord .keyoff

/-! ### Flash operations and image checks (R374, R386, R390, R391) -/

/-- NVM.BANK_STAT and BANK_VER follow a change of a bank's state sector; CAND stays as at the wake. -/
def State.refreshBank (s : State) (b : Nat) : State :=
  let cand := s.getF (NVM.BANK_STAT b) 12 1
  (s.showBank b).putF (NVM.BANK_STAT b) 12 1 cand

/-- A boot swap that a PREP has asked for is given up, when no service scene is left for the wake (R368, R386, R406). -/
def State.dropBoot (s : State) : State :=
  let s := s.modSched (fun x => { x with waiting := x.waiting.filter (fun (w : Swap) => w.kind != .boot) })
  match s.sched.next.filter (fun (n : Swap) => n.kind == .boot) with
  | none => s
  | some n => (s.when (n.seq != 0) (·.chainMissed n 0xF0)).dropSwap

/-- The main pass fails with `e` (R386, R406); a mismatch marks the bank FAILED. -/
def State.mainFail (s : State) (b : Nat) (e : ImageError) : State :=
  let s := if e.1 = 14 then s.flashError b 2 else (s.imageFails b e).bankState b 7
  ((s.putBit NVM.STAT 4 true).flashDrop (fun o => o == .mainPass)).earlyOnly.dropBoot

/-- A section is needed by the boot scene (R383, R384): its table sets, engine programs and draw memory at this position, and the
front-end tables and sensor scripts of its cameras. -/
def State.bootNeeds (s : State) (x : Section) : Bool :=
  let scene := x.id % 256 == s.sched.wantScene
  let cam := ((s.nvm.config.feCtl.map (·.1)).filter (fun n => decide (16 ≤ n)) ++ s.sceneLinks s.sched.wantScene).contains (x.id % 256)
  match x.type with
  | 2 => scene && x.id / 16777216 == s.position
  | 3 => scene && x.id / 256 % 256 == s.position
  | 4 => scene && x.id / 256 % 256 == s.position
  | 5 => cam
  | 6 => cam
  | _ => false

/-- A section of the boot scene is encrypted and no key is installed (R388, R456). -/
def State.bootNeedsKey (s : State) (secs : List Section) : Option Section :=
  if s.nvm.decryptKey.isSome then none else secs.find? (fun x => x.enc && s.bootNeeds x)

/-- The main sections of the boot scene are delivered (R384): draw memory, front-end tables and sensor scripts, those for which
the hash table `secs` has a section. What the memory test has still to pass waits for it (R454); a link in ACTIVE sends its script
now. -/
def State.deliverMain (s : State) (secs : List Section) : State :=
  let x := s.nvm.config.main
  let has := fun (type : Nat) (p : Section → Bool) => secs.any (fun y => y.type == type && s.bootNeeds y && p y)
  let draw := if has 4 (fun _ => true) then x.draw else []
  let tables := x.feTables.filter (fun p => (upto 18).any (fun c =>
    decide (FE.CTL c ≤ p.1) && decide (p.1 < FE.CTL c + 0x10000) && has 5 (fun y => y.id % 256 == c)))
  let scripts := x.scripts.filter (fun p => has 6 (fun y => y.id % 256 == p.1))
  let s := s.modNvm (fun n => { n with config := { n.config with draw := n.config.draw ++ draw, feTables := n.config.feTables ++ tables } })
  let s := if !s.bist.memDone then s
    else
      let s := s.each tables (fun s p => s.imageWrite p.1 p.2.toNat)
      if draw.isEmpty then s else s.deliverDraw draw
  s.each scripts (fun s p =>
    let s : State := { s with scripts := setNth (s.scripts ++ List.replicate (16 - s.scripts.length) []) p.1 p.2 }
    s.when (s.fwActs && (s.lnk p.1).training == .active) (·.sendScript p.1))

/-- With the main pass complete, the scene of a boot swap that is pending must be held whole (R341). -/
def State.heldAgain (s : State) : State :=
  match s.sched.next.filter (fun (n : Swap) => n.kind == .boot && !s.sceneHeld n.scene) with
  | none => s
  | some n => s.rejectSwap n 3

/-- The main pass ends (R384, R386, R388). -/
def State.mainDone (s : State) : State :=
  match s.nvm.bank with
  | none => s
  | some b =>
    let secs := s.mainSections b (s.imageHeader b)
    let key := s.bootNeedsKey secs
    if key.isSome && !s.nvm.keyWaitOver then s
    else
      match s.verifyMain b 2, key with
      | some e, _ => s.mainFail b e
      | none, some y => s.mainFail b (12, 2, y.index)
      | none, none =>
        let s := ((s.flashDrop (fun o => o == .mainPass)).modNvm (fun n => { n with sections := n.sections ++ secs })).deliverMain secs
        (((s.putBit NVM.STAT 3 true).setBit NVM.EVT 0).heldAgain).serviceRequest

/-- The record of a committed bank, bytes 4 to 31 (R377). -/
def commitRecord (h : List Byte) : List Byte :=
  let b := slice h 12 4 ++ slice h 11 1 ++ slice h 10 1 ++ [0xFF, 0xFF] ++ slice h 16 4 ++ (Config.sha256 h).take 12
  b ++ leBytes 4 (crc32c b)

/-- The session whose COMMIT is being read back: all its programs are done, and no verdict has been reached (R390). -/
def State.readsBack (s : State) : Option WriteSession :=
  s.nvm.session.filter (fun w => w.commit && w.verdict == 0 && !s.nvm.ops.any (fun j => j.op.isImage))

/-- The verdict on the image of session `w` is reached: 1 OK, 2 not; the session ends when the state sector is programmed (R390). -/
def State.judge (s : State) (w : WriteSession) (r : Nat) : State := s.modNvm (fun n => { n with session := some { w with verdict := r } })

/-- The COMMIT of session `w` fails: bit 7 of STATE is to be cleared (R390). -/
def State.commitFails (s : State) (w : WriteSession) : State := (s.judge w 2).flashPush (.program (stateSector w.bank) [0x7F])

/-- A read of the read-back of session `w` ends, after `fails` failed attempts; the third is a flash error, and the COMMIT fails with
it (R374). -/
def State.readBackRead (s : State) (w : WriteSession) (fails : Nat) : State :=
  let s := s.incBy NVM.RETRY_CNT (min 2 fails)
  if fails < 3 then s else (s.flashError w.bank 3).commitFails w

/-- The read-back of a COMMIT ends (R390, R391): the record and bit 1 of STATE, or bit 7, enter the queue. -/
def State.commitDone (s : State) : State :=
  match s.readsBack with
  | none => s
  | some w =>
    let b := w.bank
    let e := match s.verifyEarly b with
      | some e => some (e.1, 3, e.2.2)
      | none => s.verifyMain b 3
    match e with
    | some e => (s.imageFails b e).commitFails w
    | none => ((s.judge w 1).flashPush (.program (stateSector b + 4) (commitRecord (s.imageHeader b)))).flashPush (.program (stateSector b) [0xFD])

/-- The programs of a COMMIT are done: WR_DONE and the end of the session (R390). -/
def State.commitEnd (s : State) : State :=
  match s.nvm.session.filter (fun w => w.verdict != 0 && !s.nvm.ops.any (fun j => j.op.isImage)) with
  | none => s
  | some w =>
    let s := s.when (w.verdict == 1) (·.modAlm (fun a => { a with commits := setNth a.commits w.bank (nth 0 a.commits w.bank + 1) }))
    let s := (s.endSession w.verdict).setBit NVM.EVT 3
    s.report 4 (beBytes 4 (s.rd NVM.WR_STAT))

/-- The operation that the flash serves completes, after `fails` failed attempts of a read (R374, R391). -/
def State.flashDone (s : State) (fails : Nat) : State :=
  match s.flashRun with
  | none =>
    match s.readsBack with
    | none => s
    | some w => s.readBackRead w fails
  | some j =>
    let drop := fun (s : State) => s.flashChange (fun s => s.modNvm (fun n => { n with ops := n.ops.filter (fun x => x.id != j.id) }))
    match j.op with
    | .fetch =>
      let s := drop (s.incBy NVM.RETRY_CNT (min 2 fails))
      if fails < 3 then s
      else
        let s := s.flashError (s.nvm.bank.getD 0) 2
        match s.sched.next with
        | some n => if n.staging then s.rejectSwap n 1 else s
        | none => s
    | .mainPass =>
      let s := s.incBy NVM.RETRY_CNT (min 2 fails)
      if fails < 3 then s else s.mainFail (s.nvm.bank.getD 0) (14, 2, 0)
    | .journal .keyoff => s
    | .journalRead => s
    | .refetch => s
    | .dmaRead _ _ => s
    | .journal k => drop (s.writeRecord k)
    | .program a bs =>
      let s := drop (s.flashProgram a bs)
      if a < 0x06000000 then s.putF NVM.WR_STAT 0 26 (s.getF NVM.WR_STAT 0 26 + bs.length) else (s.refreshBank (if a < 0x06810000 then 0 else 1)).commitEnd
    | .erase a len =>
      let s := drop (s.flashErase a len)
      if a < 0x06000000 then s else s.refreshBank (if a < 0x06810000 then 0 else 1)

/-! ### Supply warnings (R516-R520) -/

/-- The packetiser's log with a new interval; at the 17th the two oldest merge (R520). -/
def State.logWarning (s : State) : State :=
  let l := s.pres.warnLog
  let full := decide (16 ≤ l.length)
  let old := match l.drop 14 with
    | a :: b :: _ => [(b.1, a.2)]
    | x => x
  let s : State := { s with pres := { s.pres with warnLog := (s.time.dt, none) :: (l.take 14 ++ old) } }
  s.when full (·.putBit PWR.SUP_STAT 1 true)

/-! ### Commands -/

/-- The setpoint goes on toward its target, and what waited for it is taken up (R472, R478). -/
def State.avsAgain (s : State) : State := s.avsGo.keyonGo.bootAgain

/-- AVS_SETTLE_DONE (R473, R478): the step is made; after a raise the monitor setpoint follows. -/
def execAvsSettleDone (s : State) : Host.Outcome State Fault Refusal :=
  match s.alm.step with
  | some x => .next (if x.phase = .settle ∧ s.coresRun then (s.stepMade x).avsAgain else s)
  | none => .next s

/-- AVS_ACK_TIMEOUT (R474): no acknowledgement in 100 µs, or an error status. -/
def execAvsAckTimeout (s : State) : Host.Outcome State Fault Refusal :=
  match s.alm.step with
  | none => .next s
  | some x =>
    if x.phase ≠ .ack ∨ !s.coresRun then .next s
    else
      let s := (s.inc ALM.AVS_ERR_CNT).setBit ALM.EVT 6
      if x.failed = 0 then .next (s.modAlm (fun a => { a with step := some { x with failed := 1 } }))
      else .next (((s.putBit ALM.STAT 2 true).fault 4).modAlm (fun a => { a with step := none, climb := 0, due := none, target := none, restoring := false })).avsAgain

/-- STORE_INIT_DONE (R166, R167, R402): the store is ready, at boot not before the key-on memory test has ended; queues of the table set in force come back with a reset marker. -/
def execStoreInitDone (s : State) : Host.Outcome State Fault Refusal :=
  if s.cfs.ready || !s.domOn 2 || (s.mode == 2 && !s.bist.memDone) then .next s else .next (s.storeInit s.sched.cur.store.queues).bootAgain

/-- BC_RESPONSE_PACKET (R50, R57, R67, R402). -/
def execBcResponsePacket (n : Fin 16) (p : RxPacket) (s : State) : Host.Outcome State Fault Refusal :=
  .next (match rxCheck p with
    | .packet _ _ _ => (s.rxPacket n p).serviceRequest
    | _ => s.rxPacket n p)

/-- BC_REQUEST_TIMEOUT (R67, R68, R402): the oldest request with TAG `tag` has waited too long. -/
def execBcRequestTimeout (n : Fin 16) (tag : Byte) (s : State) : Host.Outcome State Fault Refusal := .next (s.bcTimeout n tag.toNat).serviceRequest

/-- MAIN_PASS_DONE (R384, R386, R388, R402). -/
def execMainPassDone (s : State) : Host.Outcome State Fault Refusal :=
  .next (s.when (s.nvm.ops.any (fun j => j.op == .mainPass)) State.mainDone)

/-- COMMIT_DONE (R390): the read-back ends. -/
def execCommitDone (s : State) : Host.Outcome State Fault Refusal := .next s.commitDone

/-- POWER_ON_RESET (R296, R394, R511): VDD_AON rises, with the straps. -/
def execPowerOnReset (straps : Fin 4) (s : State) : Host.Outcome State Fault Refusal := .next (s.powerOff.sampleStraps straps)

/-- POWER_LOSS (R394, R511): VDD_AON is lost. -/
def execPowerLoss (s : State) : Host.Outcome State Fault Refusal :=
  .next (s.powerOff.modPower (fun p => { p with phase := .off, doms := List.replicate 8 .off }))

/-- WAKE_PIN_DECLARE (R396, R398, R399, R416): the 33rd sample, 1,007,080 ns after the level became active. -/
def execWakePinDeclare (s : State) : Host.Outcome State Fault Refusal := .next (s.wakeEvent 1 1007080)

/-- SPI_WAKE (R396-R398, R416): a falling SPI chip select. -/
def execSpiWake (s : State) : Host.Outcome State Fault Refusal := .next (s.wakeEvent 2 0)

/-- The alarm fires (R485): ALARM_EN clears, and it is wake source 3. -/
def State.alarmFires (s : State) : State := (s.putBit PWR.RTC_CTL 1 false).wakeEvent 3 0

/-- A write of PWR.RTC_CTL (R483, R485): a SET that moves the RTC past the alarm fires it. -/
def State.rtcCtl (s : State) (v : Nat) : State :=
  let s := s.wr PWR.RTC_CTL (v &&& 2)
  if !bitOf v 0 then s
  else
    let sec := s.getF PWR.RTC_SET_HI 0 8 * 2 ^ 32 + s.rd PWR.RTC_SET_LO
    let s := s.setRtc sec 1
    s.when (bitOf v 1 && decide (s.getF PWR.RTC_ALARM_HI 0 8 * 2 ^ 32 + s.rd PWR.RTC_ALARM_LO ≤ sec)) State.alarmFires

/-- RTC_SET (R483, R485): a write of PWR.RTC_CTL. -/
def execRtcSet (v : Word) (s : State) : Host.Outcome State Fault Refusal := .next (s.served (PWR.RTC_CTL) (·.rtcCtl v.toNat))

/-- RTC_ALARM (R396, R398, R416, R485): the RTC reaches the alarm time. -/
def execRtcAlarm (s : State) : Host.Outcome State Fault Refusal :=
  if s.power.phase = .off ∨ !s.bit PWR.RTC_CTL 1 then .next s else .next s.alarmFires

/-- RESET_PIN (R511, R512): RESET_N falls; everything but AON is held in reset. Rails that are asked for or held down go on as they
were (R501, R502). -/
def execResetPin (s : State) : Host.Outcome State Fault Refusal :=
  if s.power.phase = .off ∨ !s.power.resetN then .next s
  else
    .next (((s.resetAll 2).inc PWR.PIN_RST_CNT).modPower (fun p => { p with
      phase := if p.phase = .running ∨ p.phase = .standby then .pin else p.phase, resetN := false }))

/-- RESET_RELEASE (R296, R502, R512): RESET_N rises; the straps are sampled and BOOT starts: at once where the rails are up, else when
they are good; where they are neither up nor on their way they are requested. -/
def execResetRelease (straps : Fin 4) (f : FlashInit) (s : State) : Host.Outcome State Fault Refusal :=
  if s.power.phase = .off ∨ s.power.resetN then .next s
  else
    let s := ({ s with wakeAt := s.now } : State).sampleStraps straps |>.modPower (fun p => { p with resetN := true })
    .next (if s.power.phase ≠ .pin then s else if s.power.pwrReq && s.power.pgood then s.bootRun f else s.requestRails)

/-- PGOOD_RISE (R4, R402, R499, R512): the rails are good and the reference is stable. Rails that were asked for start BOOT, unless
RESET_N is held low. -/
def execPgoodRise (f : FlashInit) (s : State) : Host.Outcome State Fault Refusal :=
  if s.power.phase = .off then .next s
  else
    let s := s.modPower (fun p => { p with pgood := true })
    .next (if s.power.phase ≠ .rails then s else if s.power.resetN then s.bootRun f else s.modPower (fun p => { p with phase := .pin }))

/-- RAIL_TIMEOUT (R501). -/
def execRailTimeout (s : State) : Host.Outcome State Fault Refusal :=
  if s.power.phase ≠ .rails then .next s else .next (s.inc PWR.RAIL_FAIL_CNT).enterStandby

/-- PGOOD_FALL (R499, R502, R511): a PGOOD reset while PWR_REQ is high; else only the level falls. -/
def execPgoodFall (s : State) : Host.Outcome State Fault Refusal :=
  let was := s.power.pgood
  let s := s.modPower (fun p => { p with pgood := false })
  if was && s.power.pwrReq then .next ((s.inc PWR.PGOOD_RST_CNT).cycleRails 5) else .next s

/-- RAIL_RETRY (R502): the 10 ms have passed. -/
def execRailRetry (s : State) : Host.Outcome State Fault Refusal := .next (if s.power.phase = .hold then s.requestRails else s)

/-- SCRIPT_WAIT_TIMEOUT (R402 step 9). -/
def execScriptWaitTimeout (s : State) : Host.Outcome State Fault Refusal := .next (s.modPower (fun p => { p with scriptOver := true })).serviceRequest

/-- BOOT_PREP_TIMER (R402, R408). -/
def execBootPrepTimer (s : State) : Host.Outcome State Fault Refusal := .next (s.modPower (fun p => { p with prepOk := true })).serviceRequest

/-- NO_HOST_TIMEOUT (R401): after a wake by the pin or the RTC alarm. -/
def execNoHostTimeout (s : State) : Host.Outcome State Fault Refusal :=
  let src := s.getF PWR.WAKE_SRC 0 3
  if (src = 1 ∨ src = 3) ∧ s.getF PWR.SVC_POLICY 16 16 ≠ 0 ∧ s.fwActs ∧ s.mode ≠ 7 then .next (s.enterShutdown 7) else .next s

/-- FAULT_POLICY_SAMPLE (R411). -/
def execFaultPolicySample (s : State) : Host.Outcome State Fault Refusal :=
  let limit := s.getF PWR.SVC_POLICY 0 8
  if !s.fwActs || s.mode == 7 then .next s
  else
    .next (s.each ((upto 8).filter (fun k => s.domOn (cluDomain k))) (fun s k =>
      let n := s.rd (CLU.FAULT_CNT k) + s.rd (CLU.OVERRUN_CNT k)
      let last := Map.get 0 s.power.policyRead k
      let w := ((if n < last then n else n - last) :: Map.get [] s.power.policy k).take (10 * max 1 (s.getF PWR.SVC_POLICY 8 8))
      let hit := limit != 0 && (s.cl k).svc == 3 && decide (limit ≤ w.sum)
      let s := s.modPower (fun p => { p with policyRead := Map.set 0 p.policyRead k n, policy := Map.set [] p.policy k (if hit then [] else w) })
      if !hit then s
      else
        let (ok, s) := s.requestOos k
        let s := s.markUnit k (fun r => if ok then { r with oos := true } else { r with suspect := true })
        ((s.inc PWR.OOS_REQ_CNT).setBit PWR.MODE_EVT 4).when (!ok) (·.fault 2)))

/-- KEYOFF_RECORD_WRITTEN (R415, R416, R488, R491): with the start of the flash interface for the BOOT that follows a latched
wake. -/
def execKeyoffRecordWritten (f : FlashInit) (s : State) : Host.Outcome State Fault Refusal :=
  if s.power.shutStep ≠ 5 ∨ s.warning ∨ s.power.coresHalted then .next s else .next (s.writeKeyoff.shutRecorded f)

/-- JOURNAL_WRITE_TIMEOUT (R416, R490): a supply warning still in force 100 ms into step 5. -/
def execJournalWriteTimeout (f : FlashInit) (s : State) : Host.Outcome State Fault Refusal :=
  if s.power.shutStep ≠ 5 ∨ !s.warning ∨ s.power.coresHalted then .next s else .next ((s.putBit PWR.JRNL_PTR 30 true).shutRecorded f)

/-- SHUTDOWN_COMPLETE (R415, R416, R503): with every other domain off, CTRL powers down: STANDBY, and a wake at once where one was
latched. -/
def execShutdownComplete (s : State) : Host.Outcome State Fault Refusal :=
  if s.power.shutStep ≠ 6 ∨ [7, 6, 5, 4, 3, 2].any (fun d => s.dom d != .off) then .next s
  else
    let latched := s.power.latched
    let s := s.enterStandby
    .next (match latched with
      | none => s
      | some src => (s.wake src true 0).setBit PWR.MODE_EVT 6)

/-- The analogue phase ends and the memory phase begins (R448); `us` is its duration. -/
def State.analogueEnd (s : State) (us : Nat) : State :=
  { ((s.putF BIST.KEYON_TIME 0 16 us).putF BIST.STAT 0 3 2) with bist := { s.bist with anaDone := true, cut := [], phaseAt := s.now } }

/-- ANALOGUE_PHASE_DONE (R447-R450, R484, R402): the key-on analogue checks end. Those of links and lanes whose domain was reset
meanwhile are INCOMPLETE. -/
def execAnaloguePhaseDone (r : AnaResult) (s : State) : Host.Outcome State Fault Refusal :=
  if s.getF BIST.STAT 0 3 ≠ 1 then .next s
  else
    let cutLinks := (upto 16).filter (fun n => s.bist.cut.contains (camDomain n))
    let links := cutLinks.foldl (fun x n => setFld x n 1 0) r.links.val
    let lanes := if s.bist.cut.contains 7 then 0 else r.lanes.val
    let s := s.each (cutLinks ++ (if s.bist.cut.contains 7 then upto 8 else [])) (fun s _ => s.countVerdict 3)
    let s := s.wr BIST.ANA_LNK links
    let st := lanes * 65536 + r.sensors.val * 256 + 128 * b2n r.crystal + 64 * b2n r.supmon + 32 * b2n r.bandgap + r.plls.val
    let s := s.wr BIST.ANA_STAT st
    let s := s.when (st != 0 || links != 0) (·.setBit BIST.EVT 1)
    let s := s.when (lanes != 0 || r.sensors.val != 0) (·.fault 3)
    let s := s.when r.crystal (fun s => (s.putBit PWR.RTC_STAT 0 false).putBit PWR.RTC_STAT 1 true)
    let s := s.each ((upto 8).filter (bitOf r.sensors.val)) (fun s i => s.putBit (ALM.TEMP i) 31 true)
    let s := s.putBit BIST.STAT 7 (r.supmon || r.bandgap || r.plls.val != 0)
    let s := s.each ((upto 16).filter (bitOf links)) (fun s n => s.feTakeOut n)
    .next (s.analogueEnd r.us).bootAgain

/-- The domain that a memory macro lies in (R30, R451). -/
def MacroId.domain : MacroId → Nat
  | .cfs _ _ => 2
  | .ptr _ _ => 2
  | .cluster k _ => cluDomain k
  | .frontEnd n _ => camDomain n
  | .draw _ => 7
  | .mac _ => 7

/-- The key-on memory phase ends with the results `ts` of its macros after `us` microseconds (R171, R446-R448, R451-R454). -/
def State.memoryEnd (s : State) (ts : List MacroTest) (us : Nat) : State :=
  let vs := s.macroVerdicts true (fun m => s.bist.cut.contains m.domain) ts
  let ids := fun (v : Nat) => (vs.filter (fun p => p.2 == v)).map (fun p => p.1.id)
  let cfs := (ids 2).filterMap (fun m => match m with
    | .cfs b i => some (b.val, i)
    | _ => none)
  let ptr := (ids 2).filterMap (fun m => match m with
    | .ptr a n => some (a, n)
    | _ => none)
  let clus := (upto 8).filter (fun k => (ids 2).any (fun m => match m with
    | .cluster x _ => x.val == k
    | _ => false))
  let fes := (upto 18).filter (fun n => (ids 2).any (fun m => match m with
    | .frontEnd x _ => x.val == n
    | _ => false))
  let draw := (ids 2).any (fun m => match m with
    | .draw _ => true
    | _ => false)
  let mac := (ids 2).any (fun m => match m with
    | .mac _ => true
    | _ => false)
  let st := min 255 (cfs.eraseDups.length + ptr.length) * 2 ^ 24 + bitsOf 8 clus.contains * 65536 + min 255 (ids 4).length * 256 + 2 * b2n mac + b2n draw
  let s := (s.each ((vs.filter (fun p => p.2 != 3)).map (·.1)) State.softRepair).each (vs.map (·.2)) State.countVerdict
  let s := ((s.wr BIST.MEM_STAT st).wr BIST.MEM_FE (bitsOf 18 fes.contains)).putF BIST.KEYON_TIME 16 16 us
  let s := s.when (mac || draw) (·.fault 3)
  let s : State := { s with cfs := { s.cfs with retired := cfs.eraseDups, retiredPtr := ptr }, bist := { s.bist with memDone := true, cut := [] } }
  let s := ((s.putF BIST.STAT 0 4 0).setBit BIST.EVT 0).memMarks
  (s.each fes (fun s n => s.feTakeOut n)).refetch

/-- MEMORY_PHASE_DONE (R171, R446-R448, R451-R454, R402): the key-on memory test ends. -/
def execMemoryPhaseDone (r : MemResult) (s : State) : Host.Outcome State Fault Refusal :=
  if s.getF BIST.STAT 0 3 ≠ 2 then .next s else .next (s.memoryEnd r.macros r.us).bootAgain

/-- A write of BIST.RUN (R447, R464). An ABORT in key-on ends the phase that runs, with one verdict INCOMPLETE for it. DESIGN CHOICE (log
entry 205). -/
def State.bistWrite (s : State) (v : Nat) : State :=
  let phase := s.getF BIST.STAT 0 3
  let us := min 0xFFFF ((s.now - s.bist.phaseAt) / 1000)
  let s := s.bistRun v
  if bitOf v 9 && phase == 1 then ((s.countVerdict 3).analogueEnd us).bootAgain
  else if bitOf v 9 && phase == 2 then ((s.countVerdict 3).memoryEnd [] us).bootAgain
  else s

/-- BIST_RUN (R464): a write of BIST.RUN. -/
def execBistRun (v : Word) (s : State) : Host.Outcome State Fault Refusal := .next (s.served (BIST.RUN) (·.bistWrite v.toNat))

/-- BIST_ABORT (R447): a write of BIST.RUN. -/
def execBistAbort (v : Word) (s : State) : Host.Outcome State Fault Refusal := .next (s.served (BIST.RUN) (·.bistWrite v.toNat))

/-- LOCKSTEP_MISMATCH (R24-R26): the cores restart, or stay halted after a second mismatch within 1 s of a restart. A mismatch exactly
1 s after it, 10^9 core cycles, is not within 1 s. DESIGN CHOICE (log entry 163). -/
def execLockstepMismatch (s : State) : Host.Outcome State Fault Refusal :=
  if s.power.phase ≠ .running ∨ s.power.coresHalted then .next s
  else
    let again := s.power.restartAt.any (fun t => decide (s.now - t < 1000000000))
    let s := (s.inc SYS.LOCKSTEP_CNT).setBit SYS.EVT 0
    .next (s.modPower (fun p => if again then { p with coresHalted := true } else { p with restartAt := some s.now }))

/-- DOMAIN_POWER_UP_DONE (R402, R504, R507, R167): at boot the other domains follow STORE, and key-on follows them. -/
def execDomainPowerUpDone (d : Fin 8) (s : State) : Host.Outcome State Fault Refusal :=
  if s.dom d ≠ .rising then .next s
  else
    let s := ((s.setDom d .up).setBit PWR.EVT 3).when (d.val == 2) (·.storeOut)
    let s := s.each (domClus d) (fun s k => s.modCl k (fun c => { c with svc := s.cluService k }))
    let s := s.when (s.bist.keyonDue && d.val == 2) (fun s => s.each [3, 4, 5, 6, 7] State.bootDomain)
    let s := (s.domWaiters d).keyonGo
    .next (if s.power.shutStep = 6 then s.shutNext else s)

/-- DOMAIN_POWER_DOWN_DONE (R415, R437, R505, R507, R508): not before every DMA channel that uses the domain has stopped. In
SHUTDOWN_RECORD the next domain of step 6 follows. -/
def execDomainPowerDownDone (d : Fin 8) (s : State) : Host.Outcome State Fault Refusal :=
  if s.dom d ≠ .falling ∨ s.dmaHolds d then .next s
  else
    let s := ((s.domainFlush d).domainState d).domainRegs d true
    let s := s.each (domClus d) (fun s k => s.modCl k (fun c => { c with svc := 0 }))
    let s := (((s.setDom d .off).putBit PWR.DOM_REQ d false).setBit PWR.EVT 3).domWaiters d
    .next (if s.power.shutStep = 6 then s.shutNext else s)

/-- A write of PWR.DOM_RST (R31, R167, R447, R510). -/
def State.domReset (s : State) (v : Nat) : State :=
  s.each ((upto 8).filter (fun d => decide (2 ≤ d) && bitOf v d && s.domOn d)) (fun s d =>
    let ts := s.bist.testing.filter (fun t => unitDomain t.unit == d)
    let s := s.stopTests (fun u => unitDomain u == d)
    let s := if s.power.shutStep = 4 then s.when (!ts.isEmpty && s.bist.testing.isEmpty) State.nextTests else s.stoppedEnd ts
    let s : State := { s with bist := { s.bist with cut := s.bist.cut ++ [d] } }
    (((s.inc PWR.DOM_RST_CNT).domainFlush d).domainState d).domainRegs d false)

/-- DOMAIN_RESET (R31, R510): a write of PWR.DOM_RST. -/
def execDomainReset (v : Word) (s : State) : Host.Outcome State Fault Refusal := .next (s.served (PWR.DOM_RST) (·.domReset v.toNat))

/-- The firmware restores domain `d` after its reset (R510). -/
def State.domRestore (s : State) (d : Nat) : State :=
  let t := s.sched.cur
  let c := s.nvm.config
  let s := s.each (domCams d) (fun s n =>
    let s := (s.feStatics n).switchFe n t
    let s := match c.feCtl.find? (fun p => p.1 == n) with
      | some p => s.feCtl n (if s.feOos.contains n then setFld p.2.toNat 0 1 0 else p.2.toNat)
      | none => s
    match c.links.find? (fun p => p.1 == n) with
    | some p => if s.linkUsed n && !s.feOos.contains n then s.linkCtl n (setFld p.2.toNat 0 1 1) else s
    | none => s)
  let s := (s.loadPrograms { t with cluster := (upto 8).map (fun k => if cluDomain k = d then nth [] t.cluster k else []) }).each (domClus d) (fun s k => s.switchClu k t)
  if d = 2 then s.loadWatermarks t.store.queues
  else if d = 7 then
    let s := s.switchPres t
    let s := (s.loadRegs t 0x10080000 0x10090000).loadRegs t 0x10070000 0x10080000
    let s := s.when (s.bist.memDone && !c.draw.isEmpty) (·.deliverDraw c.draw)
    s.each (upto 2) (fun s p => s.portBoot p false)
  else s

/-- DOMAIN_RESTORE (R129, R510). -/
def execDomainRestore (d : Fin 8) (s : State) : Host.Outcome State Fault Refusal :=
  if s.fwActs && s.domOn d && decide (2 ≤ d.val) then .next (s.domRestore d) else .next s

/-- A write of PWR.DOM_REQ (R506-R508): only bits that differ request anything. -/
def State.domReqWrite (s : State) (v : Nat) : State :=
  let old := s.rd PWR.DOM_REQ
  s.each ((upto 8).filter (fun d => decide (2 ≤ d) && bitOf v d != bitOf old d)) (fun s d => s.domRequest d (bitOf v d))

/-- DOMAIN_REQUEST (R28, R29, R506-R508): a write of PWR.DOM_REQ. SCHED's own requests run inside the commands that make them. -/
def execDomainRequest (v : Word) (s : State) : Host.Outcome State Fault Refusal := .next (s.served (PWR.DOM_REQ) (·.domReqWrite v.toNat))

/-- A write of PWR.WDT_CFG by a management core (R513). -/
def State.wdtWrite (s : State) (v : Nat) : State :=
  if s.bit PWR.WDT_CFG 31 then s
  else s.wr PWR.WDT_CFG (b2n (bitOf v 31) * 2 ^ 31 + s.getF PWR.WDT_CFG 16 1 * 65536 + max 100 (min 10000 (fld v 0 14)))

/-- A write of PWR.WDT_KICK by a management core (R514). -/
def State.wdtKick (s : State) (v : Nat) : State :=
  if fld v 0 16 = 0xA5A5 then s.modPower (fun p => { p with wdtFrom := s.now, wdtWarned := false }) else s

/-- The watchdog counts (R513, R515). -/
def State.wdtRuns (s : State) : Bool := s.power.phase == .running && s.bit PWR.WDT_CFG 16 && !s.power.coresHalted

/-- WDT_CONFIG_WRITE (R513). -/
def execWdtConfigWrite (v : Word) (s : State) : Host.Outcome State Fault Refusal := .next (s.served (PWR.WDT_CFG) (·.wdtWrite v.toNat))

/-- WATCHDOG_KICK (R514). -/
def execWatchdogKick (v : Word) (s : State) : Host.Outcome State Fault Refusal := .next (s.served (PWR.WDT_KICK) (·.wdtKick v.toNat))

/-- WATCHDOG_WARNING (R514, R521). -/
def execWatchdogWarning (s : State) : Host.Outcome State Fault Refusal :=
  if !s.wdtRuns || s.power.wdtWarned then .next s
  else .next ((((s.setBit PWR.EVT 4).inc PWR.WDT_WARN_CNT).fault 6).modPower (fun p => { p with wdtWarned := true }))

/-- WATCHDOG_EXPIRY (R511, R514): a watchdog reset; the rails stay up and BOOT starts. -/
def execWatchdogExpiry (f : FlashInit) (s : State) : Host.Outcome State Fault Refusal :=
  if !s.wdtRuns then .next s
  else .next ((((s.inc PWR.WDT_RST_CNT).resetAll 3).modPower (fun p => { p with afterReset := true })).bootRun f)

/-- SUPPLY_WARNING_ASSERT (R391, R447, R516, R518-R521). -/
def execSupplyWarningAssert (s : State) : Host.Outcome State Fault Refusal :=
  if !s.power.monitor || s.warning then .next s
  else
    let s := s.flashChange (fun s => s.modPower (fun p => { p with warnAt := some s.now }))
    let s := ((s.setBit PWR.EVT 0).fault 5).wr PWR.DIP_TIME (s.time.dt / 2 ^ 40)
    .next ({ s with bist := { s.bist with testing := s.bist.testing.map (fun t => { t with supply := true }) } } : State).logWarning

/-- SUPPLY_WARNING_RELEASE (R391, R519, R520). -/
def execSupplyWarningRelease (s : State) : Host.Outcome State Fault Refusal :=
  match s.power.warnAt with
  | none => .next s
  | some a =>
    let us := min 0xFFFF ((s.now - a) / 1000)
    let s := s.flashChange (fun s => s.modPower (fun p => { p with warnAt := none }))
    let s := ((s.inc PWR.DIP_CNT).setBit PWR.EVT 1).wr PWR.DIP_DUR (max us (s.getF PWR.DIP_DUR 16 16) * 65536 + us)
    let log := match s.pres.warnLog with
      | (t, none) :: rest => (t, some s.time.dt) :: rest
      | l => l
    .next ({ s with pres := { s.pres with warnLog := log } } : State).avsAgain

/-- SUPPLY_RESET_TRIP (R511, R519); in the AON cycle of a PGOOD reset, which the comparators were still active in, it is a cause too. -/
def execSupplyResetTrip (s : State) : Host.Outcome State Fault Refusal :=
  if s.power.monitor then .next ((s.inc PWR.SUP_RST_CNT).cycleRails 4)
  else if s.power.tripAt = some s.aonCycle ∧ s.rd PWR.RST_CAUSE = 5 then .next (((s.inc PWR.SUP_RST_CNT).fault 5).recordCause 4)
  else .next s

/-- SUPPLY_MONITOR_ARM (R516): 100 µs after PGOOD rises. -/
def execSupplyMonitorArm (s : State) : Host.Outcome State Fault Refusal :=
  .next (s.when (s.power.pgood && s.power.pwrReq) (·.modPower (fun p => { p with monitor := true })))

/-- SPI_TARGET_READY (R397): 10 ms after a wake. -/
def execSpiTargetReady (s : State) : Host.Outcome State Fault Refusal :=
  .next (s.when (s.power.phase == .running) (·.modPower (fun p => { p with spiReady := true })))

/-- PERIOD_START (R25, R311, R345, R347, R363, R364, R402, R415, R469): with the cores halted the present tables go on. -/
def execPeriodStart (s : State) : Host.Outcome State Fault Refusal :=
  if s.power.shutStep = 3 ∧ !s.power.coresHalted then .next s.shutTraffic else .next s.periodStart.serviceRequest.lateSample

end Sys2Proof.Machine
end

