-- ==== Sys2Proof/Machine/Chain.lean ====
section
/-! DEFINITION. Management frames (R530-R532) and the chain swap (R367, R368). -/

namespace Sys2Proof.Machine

/-! ### Management frames (R530-R534) -/

/-- A management frame from the device: header and body (R530). -/
def State.mgmtFrame (s : State) (dst op seq status pos : Nat) (body : List Byte) : List Byte :=
  ethFrame dst s.uplAddress none (s.getF ETH.MGMT_ETYPE 0 16)
    (beBytes 1 1 ++ beBytes 1 op ++ beBytes 2 seq ++ beBytes 2 body.length ++ beBytes 1 status ++ beBytes 1 pos ++ body)

/-- A received management frame, read by its header (R530). -/
structure MgmtReq where
  src : List Byte
  broadcast : Bool
  version : Nat
  op : Nat
  seq : Nat
  body : List Byte
  /-- LENGTH agrees with what the frame carries; a frame of the shortest MAC client data carries padding. -/
  sized : Bool
deriving DecidableEq, Repr

/-- A received frame read as a management frame. -/
def readMgmt (f : List Byte) : MgmtReq :=
  let d := f.drop (frameType f).2
  let n := be (slice d 4 2)
  { src := slice f 6 6, broadcast := be (f.take 6) == 0xFFFFFFFFFFFF, version := be (slice d 0 1), op := be (slice d 1 1), seq := be (slice d 2 2),
    body := slice d 8 n, sized := decide (n ≤ 8192) && (d.length == 8 + n || (d.length == 46 && decide (8 + n < 46))) }

/-- The management path's state changed by `f`. -/
def State.modMgmt (s : State) (f : MgmtState → MgmtState) : State := { s with mgmt := f s.mgmt }

/-- The oldest management frame that waits (R533). -/
def State.mgmtHead (s : State) : Option MgmtReq := s.mgmt.frames.head?.map readMgmt

/-- The oldest management frame has been handled. -/
def State.mgmtPop (s : State) : State := s.modMgmt (fun m => { m with frames := m.frames.drop 1 })

/-- An EVENT frame to the host (R534): none while HOST_ADDR is 0. Its SEQ is a free value (log entry 1). -/
def State.sendEvent (s : State) (code : Nat) (data : List Byte) : State :=
  let host := s.getF MGMT.HOST_ADDR_HI 0 16 * 2 ^ 32 + s.rd MGMT.HOST_ADDR_LO
  if host = 0 then s
  else
    let (seq, s) := s.fresh
    s.offer 0 (s.mgmtFrame host 4 (seq % 65536) 0 0 (beBytes 1 code ++ [0, 0, 0] ++ data))

/-! ### Chain swap messages (R367) -/

/-- The 20 bytes of a chain swap message. -/
def ChainMsg.bytes (m : ChainMsg) : List Byte :=
  beBytes 1 m.cmd ++ beBytes 1 m.seq ++ beBytes 1 m.scene ++ beBytes 1 m.code ++ stampBytes m.swapNs ++ beBytes 4 m.planId ++ beBytes 1 m.position ++ [0]

/-- A chain swap message from its 20 bytes. -/
def ChainMsg.read (b : List Byte) : ChainMsg :=
  { cmd := be (slice b 0 1), seq := be (slice b 1 1), scene := be (slice b 2 1), code := be (slice b 3 1),
    swapNs := be (slice b 4 6) * 1000000000 + be (slice b 10 4), planId := be (slice b 14 4), position := be (slice b 18 1) }

/-- The chain swap message in the oldest management frame: a broadcast CHAIN frame (R532). -/
def State.chainHead (s : State) : Option ChainMsg :=
  match s.mgmtHead with
  | none => none
  | some r => if r.broadcast && r.version == 1 && r.op == 5 && r.sized && r.body.length == 20 then some (ChainMsg.read r.body) else none

/-- A chain swap message is sent: a broadcast on CAS in queue 7 (R367). Its header's SEQ is a free value (log entry 1). -/
def State.sendChain (s : State) (m : ChainMsg) : State :=
  let (seq, s) := s.fresh
  s.when (s.hasPort 1) (fun s => s.offer 1 (s.mgmtFrame 0xFFFFFFFFFFFF 5 (seq % 65536) 0 0 m.bytes))

/-! ### Commands -/

/-- CHAIN_PREP_SEND (R367): the next of the three copies. -/
def execChainPrepSend (s : State) : Host.Outcome State Fault Refusal :=
  match s.sched.chainOut with
  | none => .next s
  | some m =>
    if s.sched.prepLeft = 0 then .next s
    else .next ((s.sendChain m).modSched (fun x => { x with prepLeft := x.prepLeft - 1 }))

/-- CHAIN_CANCEL_SEND (R368): the next of the three copies of the CANCEL. -/
def execChainCancelSend (s : State) : Host.Outcome State Fault Refusal :=
  match s.sched.chainOut with
  | none => .next s
  | some m =>
    if s.sched.cancelLeft = 0 then .next s
    else .next ((s.sendChain { m with cmd := 2 }).modSched (fun x => { x with cancelLeft := x.cancelLeft - 1 }))

/-- A PREP with a new SEQ (R368): staging at this device's own grade and variant, or the report of a late one. In BOOT and
EARLY_VIEW it names the service scene (R403). It is missed with EARLY_ONLY, which leaves no service scene for the wake (R406), and where
the image lacks a set of the scene (R341): codes 0xF0 and 3, DEDUCED (log entry 173). -/
def State.prepReceive (s : State) (m : ChainMsg) : State :=
  let s := s.modSched (fun x => { x with seenSeq := m.seq + 1 })
  let seq := if m.seq = 0 then 256 else m.seq
  let boot := decide (s.mode = 2 ∨ s.mode = 3)
  let kind : SwapKind := if boot then .boot else .scene
  let at_ := m.swapNs * 2 ^ 40
  let miss : Swap := { kind := kind, scene := m.scene, grade := 0, variant := 0, after := at_, at_ := at_, seq := seq, planId := some m.planId }
  if at_ < s.time.dt + msTime (s.getF SCHED.SWAP_CFG 16 8) then
    s.chainMissed miss 0xF2
  else if boot ∧ s.bit PWR.MODE 16 then
    s.chainMissed miss 0xF0
  else if s.bit NVM.STAT 3 ∧ !s.sceneHeld m.scene then
    s.chainMissed miss 3
  else
    let s := if boot then (s.modSched (fun x => { x with wantScene := m.scene })).modPower (fun p => { p with asked := true }) else s
    let s := s.when (boot && s.power.step6) (·.enableLinks m.scene)
    let own := fun (x : Nat) => if boot then some x else none
    s.requestSwap kind (some m.scene) (own s.alm.grade) (own s.sched.bootVariant) at_ seq (some m.planId)

/-- CHAIN_PREP_RECEIVE (R368): positions 1 to 3 act on the first copy of each SEQ. -/
def execChainPrepReceive (s : State) : Host.Outcome State Fault Refusal :=
  match s.chainHead with
  | none => .next s
  | some m =>
    if m.cmd ≠ 1 then .next s
    else
      let s := s.mgmtPop
      if s.position = 0 ∨ !s.fwActs ∨ s.mode = 7 ∨ s.sched.seenSeq = m.seq + 1 then .next s else .next (s.prepReceive m)

/-- CHAIN_READINESS_CHECK (R368): at S minus twice GO_GUARD_MS position 0 checks itself, and cancels if it is not ready. -/
def execChainReadinessCheck (s : State) : Host.Outcome State Fault Refusal :=
  match s.sched.chainOut with
  | none => .next s
  | some m =>
    let pend := s.sched.next.filter (fun n => n.seq != 0 && n.seq % 256 == m.seq)
    if s.position ≠ 0 ∨ !s.fwActs ∨ m.swapNs * 2 ^ 40 ≤ s.time.dt ∨ pend.any s.swapReady then .next s
    else
      let s := s.modSched (fun x => { x with cancelLeft := 3, prepLeft := 0 })
      match pend with
      | some n => .next (s.chainMissed n 0xF0).dropSwap
      | none => .next s

/-- CHAIN_CANCEL_RECEIVE (R368): a CANCEL with the same SEQ before S. The swap is missed; its CODE is a free value, since the
table of R367 gives none for it (log entry 1). -/
def execChainCancelReceive (s : State) : Host.Outcome State Fault Refusal :=
  match s.chainHead with
  | none => .next s
  | some m =>
    if m.cmd ≠ 2 then .next s
    else
      let s := s.mgmtPop
      let same := fun (n : Swap) => n.seq != 0 && n.seq % 256 == m.seq
      if s.position = 0 then .next s
      else
        let (code, s) := s.fresh
        let s := match s.sched.waiting.filter same with
          | some n => (s.chainMissed n (code % 256)).modSched (fun x => { x with waiting := none })
          | none => s
        match s.sched.next.filter same with
        | some n => .next (s.chainMissed n (code % 256)).dropSwap
        | none => .next s

/-- SWAP_REPORT (R368, R534): DONE or MISSED becomes an event report of code 2. -/
def execSwapReport (s : State) : Host.Outcome State Fault Refusal :=
  match s.sched.report with
  | none => .next s
  | some m => .next ((s.report 2 m.bytes).modSched (fun x => { x with report := none }))

end Sys2Proof.Machine
end

