-- ==== Sys2Proof/Machine/Mailbox.lean ====
section
/-! DEFINITION. The mailbox and its commands (R537-R543, R390, R395, R413-R415). -/

namespace Sys2Proof.Machine

/-! ### Taking commands and giving replies (R537, R538, R540, R542) -/

/-- A command as the firmware takes it (R538): CMD, TAG, body words, the management frame it came in, and the device time at
its last word (R539). -/
structure MbxCmd where
  cmd : Nat
  tag : Nat
  body : List Word
  from_ : Option FrameCmd := none
  at_ : Nat := 0
deriving DecidableEq, Repr

/-- The words of the first command in the host-to-device FIFO, once its last body word has arrived. -/
def State.fifoCmd (s : State) : Option (List Word) :=
  match s.mgmt.h2d with
  | [] => none
  | h :: rest => let n := fld h.toNat 0 12
    if n ≤ rest.length then some (h :: rest.take n) else none

/-- A command from its words. -/
def readCmd (ws : List Word) (f : Option FrameCmd) (at_ : Nat) : MbxCmd :=
  let h := (nth 0 ws 0).toNat
  { cmd := fld h 24 8, tag := fld h 16 8, body := ws.drop 1, from_ := f, at_ := at_ }

/-- The command that is taken next: from the two queues alternately when both hold one (R542). -/
def State.nextCmd (s : State) : Option MbxCmd :=
  let last := fun (ws : List Word) => nth 0 s.mgmt.h2dAt (ws.length - 1)
  match s.fifoCmd, s.mgmt.cmds.head? with
  | none, none => none
  | some ws, none => some (readCmd ws none (last ws))
  | none, some f => some (readCmd f.words (some f) f.at_)
  | some ws, some f => if s.mgmt.lastFrame then some (readCmd ws none (last ws)) else some (readCmd f.words (some f) f.at_)

/-- The device is in recovery, where the boot ROM serves the mailbox (R389). -/
def State.recovery (s : State) : Bool := s.bit NVM.STAT 7 && s.power.phase == .running

/-- Commands are taken: by the firmware, or in recovery by the boot ROM; not after an overflow, and not while a reply waits
for room (R24, R389, R540). -/
def State.mbxServes (s : State) : Bool := (s.fwActs || (s.recovery && !s.power.coresHalted)) && !s.bit MGMT.STAT 2 && s.mgmt.reply.isNone

/-- The command leaves its queue. -/
def State.mbxTaken (s : State) (c : MbxCmd) : State :=
  match c.from_ with
  | some _ => s.modMgmt (fun m => { m with cmds := m.cmds.drop 1, lastFrame := true })
  | none => s.modMgmt (fun m => { m with h2d := m.h2d.drop (1 + c.body.length), h2dAt := m.h2dAt.drop (1 + c.body.length), lastFrame := false })

/-- The next command, if it is one that `p` names, is taken and executed by `f`. -/
def State.mbxRun (s : State) (p : Nat → Bool) (f : MbxCmd → State → State) : State :=
  match s.nextCmd with
  | none => s
  | some c => if s.mbxServes && p c.cmd then f c (s.mbxTaken c) else s

/-- A response to a management request (R530, R533): sent to its source in queue 7 of UPL. -/
def State.respond (s : State) (src : List Byte) (op seq status : Nat) (body : List Byte) : State :=
  s.offer 0 (s.mgmtFrame (be src) (op ||| 128) seq status s.position body)

/-- The response of the last request executed is kept and sent (R533). -/
def State.respondStored (s : State) (src : List Byte) (op seq status : Nat) (body : List Byte) : State :=
  let s := s.modMgmt (fun m => { m with stored := some (src, seq, s.mgmtFrame (be src) (op ||| 128) seq status s.position body) })
  s.respond src op seq status body

/-- The reply to a command (R538, R540, R542). -/
def State.mbxReply (s : State) (c : MbxCmd) (status : Nat) (body : List Word) : State :=
  let ws := BitVec.ofNat 32 ((c.cmd ||| 128) * 2 ^ 24 + c.tag * 65536 + status * 4096 + body.length) :: body
  match c.from_ with
  | some f => s.respondStored f.src 3 f.seq 0 (ws.flatMap (fun w => beBytes 4 w.toNat))
  | none => s.modMgmt (fun m => { m with reply := some ws })

/-- A refusal by mode, position or state under R395. -/
def State.mbxRefuse (s : State) (c : MbxCmd) : State := ((s.inc PWR.CMD_REF_CNT).setBit PWR.MODE_EVT 5).mbxReply c 1 []

/-- A refusal of an image-write operation (R390), with its status. -/
def State.writeRefuse (s : State) (c : MbxCmd) (status : Nat) : State := ((s.inc NVM.WR_REF_CNT).setBit NVM.EVT 4).mbxReply c status []

/-! ### Scene selection (R341, R361, R367, R539) -/

/-- The sets of a scene are all in the image (R341), and the one to be staged is not marked bad. -/
def State.sceneUsable (s : State) (n : Nat) : Bool :=
  let (g, v) := match s.sched.next with
    | some x => (x.grade, x.variant)
    | none => (s.sched.cur.grade, s.sched.cur.variant)
  s.sceneHeld n && !s.bit (SCHED.SET_BAD n) (9 * g + v)

/-- SCENE_SELECT. -/
def State.sceneSelect (c : MbxCmd) (s : State) : State :=
  if !(s.mode == 4 || s.mode == 5 || s.mode == 6) || s.position != 0 then s.mbxRefuse c
  else
    match c.body with
    | [w] =>
      let n := w.toNat
      if 8 ≤ n then s.mbxReply c 2 []
      else if s.sched.cur.period ≠ 0 ∧ s.sched.cur.scene = n then s.mbxReply c 0 []
      else if !s.sceneUsable n then s.mbxReply c 2 []
      else (s.requestSwap .scene (some n) none none s.leadTime (if 1 < s.nvm.chainLen then 1 else 0) none).mbxReply c 0 []
    | _ => s.mbxReply c 2 []

/-! ### Image-write operations (R390, R539) -/

/-- Image-write operations are accepted in every mode from BOOT to MAINTENANCE (R395). -/
def State.imageMode (s : State) : Bool := decide (2 ≤ s.mode) && decide (s.mode ≤ 6)

/-- BEGIN on `bank` of an image of `len` bytes. -/
def State.imgStart (s : State) (bank len : Nat) : State :=
  let s := ((s.flashPush (.erase (stateSector bank) 0x10000)).flashPush (.program (stateSector bank) [0xFE])).flashPush
    (.erase (bankAddr bank) ((len + 65535) / 65536 * 65536))
  (s.modNvm (fun n => { n with session := some { bank := bank, len := len } })).wr NVM.WR_STAT (2 ^ 31 + bank * 2 ^ 27)

/-- IMG_BEGIN. -/
def State.imgBegin (c : MbxCmd) (s : State) : State :=
  let target := match s.nvm.bank, c.body with
    | some b, [len] => some (1 - b, len.toNat)
    | none, [len, b] => if b.toNat < 2 then some (b.toNat, len.toNat) else none
    | _, _ => none
  if s.mode = 7 then ((s.inc NVM.WR_REF_CNT).setBit NVM.EVT 4).mbxRefuse c
  else if !s.imageMode then s.mbxRefuse c
  else
    match target with
    | none => s.mbxReply c 2 []
    | some (b, len) =>
      if s.nvm.session.isSome then s.writeRefuse c 3
      else if 50331648 < len then s.writeRefuse c 1
      else (s.imgStart b len).mbxReply c 0 [BitVec.ofNat 32 b]

/-- IMG_DATA. -/
def State.imgData (c : MbxCmd) (s : State) : State :=
  let bytes := 4 * (c.body.length - 1)
  let ofs := (nth 0 c.body 0).toNat
  if !s.imageMode then s.mbxRefuse c
  else if bytes = 0 ∨ 4096 < bytes then s.mbxReply c 2 []
  else
    match s.nvm.session with
    | none => s.writeRefuse c 1
    | some w =>
      let last := decide (w.len ≤ ofs + bytes) && decide (ofs + bytes < w.len + 4)
      if !last && decide (bytes < 256) then s.mbxReply c 2 []
      else if ofs ≠ w.next ∨ w.commit then s.writeRefuse c 1
      else if !last && bytes % 256 != 0 then s.writeRefuse c 1
      else if !last && decide (w.len < ofs + bytes) then s.mbxReply c 2 []
      else
        let data := ((c.body.drop 1).flatMap (fun x => beBytes 4 x.toNat)).take (w.len - ofs)
        let s := s.flashPush (.program (bankAddr w.bank + ofs) data)
        (s.modNvm (fun n => { n with session := some { w with next := ofs + data.length } })).mbxReply c 0 []

/-- IMG_COMMIT. -/
def State.imgCommit (c : MbxCmd) (s : State) : State :=
  if !s.imageMode then s.mbxRefuse c
  else if !c.body.isEmpty then s.mbxReply c 2 []
  else
    match s.nvm.session with
    | none => s.writeRefuse c 1
    | some w =>
      if w.commit then s.mbxReply c 3 []
      else if w.next < w.len then s.writeRefuse c 1
      else (s.modNvm (fun n => { n with session := some { w with commit := true } })).mbxReply c 0 []

/-- IMG_ABORT. -/
def State.imgAbort (c : MbxCmd) (s : State) : State :=
  if !s.imageMode then s.mbxRefuse c
  else if !c.body.isEmpty then s.mbxReply c 2 []
  else if s.nvm.session.isNone then s.writeRefuse c 1
  else (s.endSession 3).mbxReply c 0 []

/-! ### Keys (R455-R457, R543) -/

/-- A transmit key is installed: used at once, or as the next association. -/
def State.txKey (s : State) (an pn : Nat) (key : List Byte) : State :=
  let s := s.modMs (fun m => { m with txKeys := Map.set none m.txKeys an (some key) })
  if (s.eth.ms.txKeys.filter (fun p => p.1 != an)).isEmpty then s.modMs (fun m => { m with txAn := an, pn := pn - 1, next := none })
  else s.modMs (fun m => { m with next := some an, nextPn := pn - 1 })

/-- KEY_PROV. -/
def State.keyProv (c : MbxCmd) (s : State) : State :=
  let w0 := (nth 0 c.body 0).toNat
  let kind := fld w0 24 8
  let an := fld w0 0 2
  let pn := (nth 0 c.body 1).toNat
  let short := !s.bit ETH.MS_CTL 1 && kind != 3
  let key := ((c.body.drop 2).flatMap (fun x => beBytes 4 x.toNat)).take (if short then 16 else 32)
  let active := (Map.get none s.eth.ms.txKeys s.eth.ms.txAn).isSome && s.eth.ms.txAn == an
  if !(s.imageMode && s.fwActs) then s.mbxRefuse c
  else if s.scanActive ∨ ((kind = 1 ∨ kind = 2) ∧ s.position ≠ 0) then s.mbxReply c 1 []
  else if c.body.length ≠ 10 ∨ kind = 0 ∨ 4 ≤ kind ∨ (kind = 1 ∧ active) ∨ (short ∧ !(c.body.drop 6).all (· == 0)) then s.mbxReply c 2 []
  else
    let s := s.putBit BIST.STAT 5 false
    if kind = 1 then (s.txKey an pn key).mbxReply c 0 []
    else if kind = 2 then (s.modMs (fun m => { m with rxKeys := Map.set none m.rxKeys an (some key), rxNext := Map.set 0 m.rxNext an pn })).mbxReply c 0 []
    else
      let wrapped := Config.keyWrap s.nvm.deviceKey key
      let s := (s.modNvm (fun n => { n with decryptKey := some key })).modAlm (fun a => { a with wrapped := some wrapped })
      (s.askRecord (.key wrapped)).mbxReply c 0 []

/-! ### Time and modes (R310, R394, R412-R415) -/

/-- TIME_SET: an acquisition step by the host's time minus device time at the command's last word. -/
def State.timeSet (c : MbxCmd) (s : State) : State :=
  if !s.imageMode || !s.fwActs || s.time.dtState != .free then s.mbxRefuse c
  else
    match c.body with
    | [hi, lo, ns] =>
      if 65536 ≤ hi.toNat ∨ 1000000000 ≤ ns.toNat then s.mbxReply c 2 []
      else
        let t := (hi.toNat * 2 ^ 32 + lo.toNat) * 1000000000 + ns.toNat
        ((s.modTime (fun x => { x with stepPend := some (((16 * t : Nat) : Int) - ((c.at_ / 2 ^ 36 : Nat) : Int)) })).askStep).mbxReply c 0 []
    | _ => s.mbxReply c 2 []

/-- MAINT_ENTER. -/
def State.maintEnter (c : MbxCmd) (s : State) : State :=
  if s.mode ≠ 4 ∧ s.mode ≠ 5 then s.mbxRefuse c
  else if !c.body.isEmpty then s.mbxReply c 2 []
  else (s.setMode 6 5).mbxReply c 0 []

/-- A maintenance action is in progress that refuses the exit (R414). -/
def State.maintBusy (s : State) : Bool :=
  (upto 16).any (fun n => s.getF (LNK.LOOP_CTL n) 0 2 != 0 || (s.lnk n).sounding == .running) || (upto 2).any (fun p => (s.prt p).link == .loop)
    || (upto 8).any (fun k => s.bit (CLU.CTL k) 0) || !s.bist.testing.isEmpty

/-- MAINT_EXIT, with the request for variant 0 once the cluster out of service has passed a full Collimation (R412). -/
def State.maintExit (c : MbxCmd) (s : State) : State :=
  if s.mode ≠ 6 then s.mbxRefuse c
  else if !c.body.isEmpty then s.mbxReply c 2 []
  else if s.maintBusy then s.mbxRefuse c
  else
    let s := s.setMode (if s.degraded then 5 else 4) 5
    (s.when (s.sched.cur.variant != 0 && s.sched.oos.all s.bist.fullPass.contains) (·.requestVariant 0)).mbxReply c 0 []

/-- The reply that waits enters the device-to-host FIFO once there is room (R538, R540). -/
def State.replyWrite (s : State) : State :=
  match s.mgmt.reply with
  | none => s
  | some ws =>
    if 256 < s.mgmt.d2h.length + ws.length then s
    else (s.modMgmt (fun m => { m with d2h := m.d2h ++ ws, reply := none })).setBit MGMT.EVT 0

/-- SHUTDOWN: OK is sent before step 1 of R415; with the FIFO full, the firmware waits until it is (R540). -/
def State.shutdown (c : MbxCmd) (s : State) : State :=
  if !(s.imageMode && s.fwActs) then s.mbxRefuse c
  else if !c.body.isEmpty then s.mbxReply c 2 []
  else
    let s := (s.mbxReply c 0 []).replyWrite
    if s.mgmt.reply.isSome then s.modMgmt (fun m => { m with shutAfter := true }) else s.enterShutdown 6

/-! ### The FIFOs (R537, R540, R541) -/

/-- A word for MGMT.MBX_PUSH from the SPI target or from a management WRITE (R537, R540). -/
def State.mbxPush (s : State) (v : Word) : State :=
  if 1040 ≤ s.mgmt.h2d.length then ((s.inc MGMT.MBX_OVF_CNT).setBit MGMT.EVT 1).setBit MGMT.STAT 2
  else s.modMgmt (fun m => { m with h2d := m.h2d ++ [v], h2dAt := m.h2dAt ++ [s.time.dt] })

/-- MGMT.CTL.MBX_RESET (R540). -/
def State.mbxReset (s : State) : State := (s.modMgmt (fun m => { m with h2d := [], h2dAt := [], d2h := [] })).clrBit MGMT.STAT 2

/-- A write of MGMT.CTL (R550). HOLDOFF_MS keeps a written 0, which the hold-off takes as 1 (R10, R534). -/
def State.mgmtCtl (s : State) (v : Nat) : State :=
  (s.wr MGMT.CTL (fld v 8 8 * 256 + v % 4)).when (bitOf v 2) (·.mbxReset)

/-- A pop of the device-to-host FIFO (R541). -/
def State.mbxPop (s : State) : Word × State :=
  match s.mgmt.d2h with
  | w :: rest => (w, (s.modMgmt (fun m => { m with d2h := rest })).putBit MGMT.MBX_LEVEL 31 false)
  | [] => (0, (s.inc MGMT.MBX_EMPTY_CNT).putBit MGMT.MBX_LEVEL 31 true)

/-! ### Interrupt summaries (R546, R547) -/

/-- A block's event summary. -/
def State.evtSum (s : State) (evt en : Nat) : Bool := s.rd evt &&& s.rd en != 0

/-- DMA.IRQ_SUM (R433). -/
def State.dmaIrqSum (s : State) : Nat :=
  (upto 32).foldl (fun x c => x + 2 ^ c * b2n (s.evtSum (DMA.CH_EVT c) (DMA.CH_EVT_EN c))) 0

/-- The blocks of SYS.IRQ_STAT[0] (true) or [1], from bit 0 up: the address of EVT and of EVT_EN. -/
def irqBlocks (first : Bool) : List (Nat × Nat) :=
  if first then
    (upto 16).map (fun n => (LNK.EVT n, LNK.EVT_EN n)) ++ (upto 8).map (fun k => (CLU.EVT k, CLU.EVT_EN k))
      ++ [(PWR.EVT, PWR.EVT_EN), (NVM.EVT, NVM.EVT_EN), (SCHED.EVT, SCHED.EVT_EN), (CFS.EVT, CFS.EVT_EN), (DMA.EVT, DMA.EVT_EN),
          (BRG.EVT, BRG.EVT_EN), (TIME.EVT, TIME.EVT_EN), (ETH.EVT, ETH.EVT_EN)]
  else
    (upto 18).map (fun n => (FE.EVT n, FE.EVT_EN n))
      ++ [(PRES.EVT, PRES.EVT_EN), (BIST.EVT, BIST.EVT_EN), (ALM.EVT, ALM.EVT_EN), (MGMT.EVT, MGMT.EVT_EN), (SYS.EVT, SYS.EVT_EN)]

/-- SYS.IRQ_STAT[i] (R546). -/
def State.irqStat (s : State) (i : Nat) : Nat :=
  let bs := irqBlocks (i == 0)
  let v := (bs.zip (upto bs.length)).foldl (fun x p => x + 2 ^ p.2 * b2n (s.evtSum p.1.1 p.1.2)) 0
  if i = 0 then v ||| (2 ^ 24 * b2n (s.evtSum PWR.MODE_EVT PWR.MODE_EVT_EN)) ||| (2 ^ 28 * b2n (s.dmaIrqSum != 0)) else v

/-- IRQ_N is driven low (R547). -/
def State.irqLow (s : State) : Bool := (upto 2).any (fun i => s.irqStat i &&& s.rd (SYS.IRQ_EN i) != 0)

/-- The data of an IRQ event: both words, masked (R534). -/
def State.irqData (s : State) : List Byte := (upto 2).flatMap (fun i => beBytes 4 (s.irqStat i &&& s.rd (SYS.IRQ_EN i)))

/-- An IRQ event is sent and the hold-off starts (R534). -/
def State.sendIrq (s : State) : State := (s.sendEvent 1 s.irqData).modMgmt (fun m => { m with irqHold := true, irqPend := false })

/-! ### Commands -/

/-- EVENT_REPORT (R534): the masked interrupt words went from 0 to non-zero (`irq`), or the oldest waiting report is sent. -/
def execEventReport (irq : Bool) (s : State) : Host.Outcome State Fault Refusal :=
  if irq then
    if !s.bit MGMT.CTL 0 || !s.irqLow then .next s
    else if s.mgmt.irqHold then .next (s.modMgmt (fun m => { m with irqPend := true }))
    else .next s.sendIrq
  else
    match s.mgmt.events with
    | [] => .next s
    | (code, data) :: rest => .next ((s.modMgmt (fun m => { m with events := rest })).sendEvent code data)

/-- IRQ_EVENT_HOLDOFF_END (R534). -/
def execIrqEventHoldoffEnd (s : State) : Host.Outcome State Fault Refusal :=
  if s.mgmt.irqPend && s.irqLow && s.bit MGMT.CTL 0 then .next s.sendIrq
  else .next (s.modMgmt (fun m => { m with irqHold := false, irqPend := false }))

/-- MAILBOX_PUSH (R537, R540): a write of MGMT.MBX_PUSH by the host. -/
def execMailboxPush (v : Word) (s : State) : Host.Outcome State Fault Refusal := .next (s.served (MGMT.MBX_PUSH) (·.mbxPush v))

/-- MAILBOX_RESET (R540): a write of MGMT.CTL. -/
def execMailboxReset (v : Word) (s : State) : Host.Outcome State Fault Refusal := .next (s.served (MGMT.CTL) (·.mgmtCtl v.toNat))

/-- MAILBOX_POP (R441, R541): a read of MGMT.MBX_POP. -/
def execMailboxPop (s : State) : Host.Outcome State Fault Refusal :=
  if !s.domOn 1 then .next s
  else
    let (w, s) := s.mbxPop
    .next (s.modMgmt (fun m => { m with answer := { words := [w] } }))

/-- MAILBOX_REPLY_WRITE (R26, R538, R540): the reply enters the device-to-host FIFO once there is room; a SHUTDOWN that waited for that
begins (R539). -/
def execMailboxReplyWrite (s : State) : Host.Outcome State Fault Refusal :=
  if s.power.coresHalted then .next s
  else
    let s := s.replyWrite
    if s.mgmt.shutAfter ∧ s.mgmt.reply.isNone then .next ((s.modMgmt (fun m => { m with shutAfter := false })).enterShutdown 6) else .next s

/-- NOP (R539). -/
def execNop (s : State) : Host.Outcome State Fault Refusal :=
  .next (s.mbxRun (· == 0x00) (fun c s => s.mbxReply c (if c.body.isEmpty then 0 else 2) []))

/-- SCENE_SELECT (R341, R361, R367, R395, R539). -/
def execSceneSelect (s : State) : Host.Outcome State Fault Refusal := .next (s.mbxRun (· == 0x01) State.sceneSelect)

/-- IMG_BEGIN (R390, R395, R539). -/
def execImgBegin (s : State) : Host.Outcome State Fault Refusal := .next (s.mbxRun (· == 0x10) State.imgBegin)

/-- IMG_DATA (R390, R395, R539). -/
def execImgData (s : State) : Host.Outcome State Fault Refusal := .next (s.mbxRun (· == 0x11) State.imgData)

/-- IMG_COMMIT (R390, R395, R539). -/
def execImgCommit (s : State) : Host.Outcome State Fault Refusal := .next (s.mbxRun (· == 0x12) State.imgCommit)

/-- IMG_ABORT (R390, R395, R539). -/
def execImgAbort (s : State) : Host.Outcome State Fault Refusal := .next (s.mbxRun (· == 0x13) State.imgAbort)

/-- KEY_PROV (R395, R456, R543). -/
def execKeyProv (s : State) : Host.Outcome State Fault Refusal := .next (s.mbxRun (· == 0x20) State.keyProv)

/-- TIME_SET (R310, R395, R539). -/
def execTimeSet (s : State) : Host.Outcome State Fault Refusal := .next (s.mbxRun (· == 0x30) State.timeSet)

/-- MAINT_ENTER (R394, R395, R413). -/
def execMaintEnter (s : State) : Host.Outcome State Fault Refusal := .next (s.mbxRun (· == 0x40) State.maintEnter)

/-- MAINT_EXIT (R394, R395, R412, R414). -/
def execMaintExit (s : State) : Host.Outcome State Fault Refusal := .next (s.mbxRun (· == 0x41) State.maintExit)

/-- SHUTDOWN (R394, R395, R415). -/
def execShutdown (s : State) : Host.Outcome State Fault Refusal := .next (s.mbxRun (· == 0x50) State.shutdown)

/-- The commands of R539. -/
def mbxCommands : List Nat := [0x00, 0x01, 0x10, 0x11, 0x12, 0x13, 0x20, 0x30, 0x40, 0x41, 0x50]

/-- MBX_INVALID_COMMAND (R539). -/
def execMbxInvalidCommand (s : State) : Host.Outcome State Fault Refusal :=
  .next (s.mbxRun (fun n => !mbxCommands.contains n) (fun c s => s.mbxReply c 2 []))

end Sys2Proof.Machine
end

