-- ==== Sys2Proof/Machine/BusRead.lean ====
section
/-! DEFINITION. What a read of a control-bus address returns (R10, R14, R27, R465, R551): the stored value of a register,
the live values of read-only registers, the side effects of the registers that have one (R441, R482). -/

namespace Sys2Proof.Machine

/-! ### Live registers, block by block -/

/-- SYS (R544, R546, R549). -/
def State.sysRead (s : State) (a o : Nat) : Nat :=
  match o with
  | 0x020 => s.irqStat 0
  | 0x024 => s.irqStat 1
  | _ => s.rd a

/-- PWR.FAULT_STAT (R521): the event bits, and the conditions of the level categories. -/
def State.faultStat (s : State) : Nat :=
  s.rd PWR.FAULT_STAT ||| b2n s.power.coresHalted ||| (2 * b2n (s.recovery || s.bit PWR.MODE 16))
    ||| (8 * b2n (s.power.phase != .standby && (s.bit BIST.STAT 7 || s.bit BIST.STAT 6))) ||| (16 * b2n (s.bit ALM.STAT 3))

/-- The level of the open-drain output FAULT_N: low while an enabled category of PWR.FAULT_STAT is set, in every mode except OFF (R26,
R522). -/
def State.faultN (s : State) : Bool := s.power.phase == .off || (s.faultStat &&& s.rd PWR.FAULT_EN) == 0

/-- PWR (R417, R482, R491, R497, R503, R506, R513, R516, R523). -/
def State.pwrRead (s : State) (a o : Nat) : Nat :=
  match o with
  | 0x000 => 8 * b2n s.power.pwrReq + 4 * b2n s.power.pgood + 2 * b2n s.power.camPwrEn + b2n s.power.monitor
  | 0x004 => (s.rd a / 2 % 2) * 2 + b2n s.warning
  | 0x020 => (upto 8).foldl (fun x d => x + 4 ^ d * (s.dom d).code) 0
  | 0x04C => if s.wdtRuns then s.getF PWR.WDT_CFG 0 14 - (s.now - s.power.wdtFrom) / 1000000 else 0
  | 0x050 => s.faultStat
  | 0xA0C => s.rtcSec % 2 ^ 32
  | 0xA28 => s.lifeSec
  | _ => s.rd a

/-- NVM (R391, R392). -/
def State.nvmRead (s : State) (a o : Nat) : Nat :=
  match o with
  | 0x004 => setFld (setFld (s.rd a) 6 1 (b2n s.nvm.session.isSome)) 5 1 (b2n s.flashSuspended)
  | _ => s.rd a

/-- The fields VARIANT, GRADE and SCENE of SCHED.CUR and SCHED.NEXT (R369). -/
def setFields (scene grade variant : Nat) : Nat := 4096 * variant + 256 * grade + scene

/-- SCHED (R343, R361-R363, R369). -/
def State.schedRead (s : State) (a o : Nat) : Nat :=
  let x := s.sched
  let ns := (x.next.map (·.at_)).getD 0 / 2 ^ 40
  match o with
  | 0x004 =>
    match x.next with
    | none => 32 * b2n (x.draining && !x.stepping) + 16 * b2n x.overlap
    | some n => 32 * b2n (n.drain || (x.draining && !x.stepping)) + 16 * b2n x.overlap + 8 * b2n (s.swapReady n) + 4 * b2n n.staging + 2 * b2n (n.at_ != 0)
  | 0x010 => s.getF a 16 16 * 65536 + setFields x.cur.scene x.cur.grade x.cur.variant
  | 0x014 =>
    match x.next.filter (fun n => n.kind != .acquisition) with
    | none => 0
    | some n => 2 ^ 31 + 65536 * (n.seq % 256) + setFields n.scene n.grade n.variant
  | 0x018 => ns / 1000000000 / 2 ^ 32 % 2 ^ 16
  | 0x01C => ns / 1000000000 % 2 ^ 32
  | 0x020 => ns % 1000000000
  | 0x02C => bitsOf 8 x.oos.contains
  | _ => s.rd a

/-- The per-queue registers of the CFS (R168, R174). -/
def State.queueRead (s : State) (a q o : Nat) : Nat :=
  let x := s.q q
  match o with
  | 0x00 => 2 ^ 31 * b2n x.en + 2 ^ 30 * b2n x.sched + 2 ^ 25 * x.prod + 2 ^ 20 * x.cons + x.marker
  | 0x04 => x.reserve
  | 0x08 => x.quota
  | 0x14 => 2 ^ 18 * min 0x3FFF x.depth + x.occ
  | 0x18 => 2 ^ 31 * b2n x.armed + 2 ^ 30 * b2n x.markerBusy + 2 ^ 29 * b2n (x.stall != 0) + 2 ^ 24 * b2n x.hwm + 256 * x.pend + x.xcnt
  | _ => s.rd a

/-- CFS (R142, R161, R168-R174). -/
def State.cfsRead (s : State) (a o : Nat) : Nat :=
  if 0x8000 ≤ o then s.queueRead a ((o - 0x8000) / 32) (o % 32)
  else if 0x040 ≤ o ∧ o < 0x0C0 then bitsOf 32 (fun i => (s.q (8 * (o - 0x040) + i)).hwm)
  else
    match o with
    | 0x004 => 4 * b2n (!s.cfs.walks.isEmpty) + 2 * b2n (s.cfs.ready && s.bit CFS.CTL 0) + b2n s.cfs.ready
    | 0x010 => s.cfs.freeCells
    | 0x014 => s.cfs.unres.toNat
    | 0x018 => 2 ^ 24 * min 255 (s.cfs.retired.length + s.cfs.retiredPtr.length) + s.cfs.retiredCells
    | 0x030 => s.cfsCycle
    | _ => s.rd a

/-- The level of request line `i` of the DMA (R429, R431). -/
def State.reqLine (s : State) (i : Nat) : Bool :=
  if i < 16 then bitOf s.dmaReq i
  else if i < 32 then
    let r := s.rd (DMA.QREQ (i - 16))
    let x := s.q (fld r 20 10)
    bitOf r 31 && (if bitOf r 30 then decide (x.occ ≤ fld r 0 18) else decide (1 ≤ x.depth))
  else if i = 32 then !s.mgmt.h2d.isEmpty
  else if i = 33 then decide (s.mgmt.d2h.length < 256)
  else decide (48 ≤ i) && decide (i < 56) && bitOf s.dmaReq i

/-- DMA (R429, R433, R443). -/
def State.dmaRead (s : State) (a o : Nat) : Nat :=
  if 0x1000 ≤ o ∧ o < 0x1800 ∧ o % 64 = 8 then
    let x := s.chan ((o - 0x1000) / 64)
    s.getF a 28 4 * 2 ^ 28 + x.phase.code * 2 ^ 24 + x.cur
  else
    match o with
    | 0x004 => bitsOf 32 (fun c => (s.chan c).phase != .idle)
    | 0x010 => s.dmaIrqSum
    | 0x018 => bitsOf 32 s.reqLine
    | 0x01C => bitsOf 32 (fun i => s.reqLine (32 + i))
    | _ => s.rd a

/-- BRG (R440, R444). An access that was given a retry and is not yet served waits for port 31. DEDUCED (log entry 31). -/
def State.brgRead (s : State) (a o : Nat) : Nat :=
  match o with
  | 0x000 => 256 * b2n (!s.dma.retries.isEmpty) + s.d2cLevel
  | 0x010 => bitsOf 16 (fun i => (Map.get none s.dma.sems i).isSome)
  | _ => s.rd a

/-- TIME.DOM_STAT[d] (R315, R340). -/
def State.domStat (s : State) (d : Nat) : Nat :=
  let x := s.gdom d
  let st := if !s.domEnabled d then 0 else match x.phase with
    | .listen => 1
    | .qualified => 2
    | .suspect => 3
  256 * (x.logSync % 256) + 8 * b2n (s.asCapable d) + 4 * b2n (s.time.dtState != .free && s.time.drive == d) + st

/-- TIME (R305-R308, R321, R340). -/
def State.timeRead (s : State) (a o : Nat) : Nat :=
  let t := s.time
  match o with
  | 0x004 => 128 * b2n s.gm + 64 * b2n t.switchTo.isSome + 32 * b2n t.stepPend.isSome + 16 * b2n s.synced + 8 * t.drive + t.dtState.code
  | 0x024 => tc 32 t.y
  | 0x040 => s.sched.cur.periodNs
  | 0x044 => s.sched.cur.periodFrac
  | 0x04C =>
    let (seq, hold, sel) := if s.position = 0 then t.selSent else (t.selSeq, t.selHold, t.selSel)
    2 ^ 24 * (seq % 256) + 2 ^ 17 * b2n hold + 2 ^ 16 * (sel % 2)
  | 0x064 => s.domStat 0
  | 0x074 => s.domStat 1
  | 0x068 => tc 32 (clampInt (-(2 ^ 31)) (2 ^ 31 - 1) (s.gdom 0).ofs)
  | 0x078 => tc 32 (clampInt (-(2 ^ 31)) (2 ^ 31 - 1) (s.gdom 1).ofs)
  | _ => s.rd a

/-- ETH.PSTAT[p] (R280-R284, R303). Lane lock, alignment and codeword lock hold in UP; `openBits` leaves them open while a
port trains or loops. -/
def State.portStat (s : State) (p : Nat) : Nat :=
  let x := s.prt p
  let up := x.link == .up
  let cdr := if up then 2 ^ s.lanesUsed p - 1 else 0
  s.getF (ETH.PSTAT p) 16 16 * 65536 + s.getF (ETH.PSTAT p) 11 1 * 2048 + 1024 * b2n x.fault + 512 * b2n up + 256 * b2n up + 16 * cdr + x.link.code

/-- ETH (R293, R296, R299, R303). A KVA-1628-AS has no CAS (R3). -/
def State.ethRead (s : State) (a o : Nat) : Nat :=
  if 0x400 ≤ o ∧ o < 0x600 ∧ o % 64 = 0 then (if (s.prt ((o - 0x400) / 256)).link = .up then s.rd a else 0)
  else
    match o with
    | 0x000 => 16 * b2n (s.isAS && s.power.straps != 0) + 4 * s.power.straps + s.position
    | 0x014 => s.uplAddress % 65536
    | 0x024 => s.portStat 0
    | 0x030 => if s.isAS then 0 else s.rd a
    | 0x034 => s.portStat 1
    | 0x044 =>
      let m := s.eth.ms
      16 * bitsOf 4 (fun i => (Map.get none m.rxKeys i).isSome) + 4 * b2n m.next.isSome + m.txAn
    | 0x04C => s.eth.ms.pn
    | _ => s.rd a

/-- The PRES registers with a shadow copy (R276, R277). -/
def presShadowedAddr (o : Nat) : Bool := (decide (0x040 ≤ o) && decide (o < 0x0A0)) || (decide (0x2000 ≤ o) && decide (o < 0x4000))

/-- Some shadow set of PRES differs from its active set (PRES.STAT.PEND). -/
def State.presPend (s : State) : Bool :=
  ((s.regs.map (·.1)) ++ (s.shadow.map (·.1))).any (fun a =>
    decide (0x10090000 ≤ a) && decide (a < 0x100A0000) && presShadowedAddr (a - 0x10090000) && s.sh a != s.rd a)

/-- PRES (R247, R271-R277). -/
def State.presRead (s : State) (a o : Nat) : Nat :=
  if 0x8000 ≤ o then Memory.readWord s.pres.sample (o - 0x8000)
  else if presShadowedAddr o then (if s.bit PRES.CTL 1 then s.sh a else s.rd a)
  else if 0x1000 ≤ o ∧ o < 0x1800 then
    let c := (s.sched.cur.stream ((o - 0x1000) / 32)).getD {}
    let g := s.grn ((o - 0x1000) / 32)
    match o % 32 with
    | 0x00 => c.cfg &&& 0xFFDFFF07
    | 0x04 => c.dstHi &&& 0x0FFFFFFF
    | 0x08 => c.dstLo
    | 0x0C => c.latency
    | 0x14 => 2 ^ 31 * b2n g.prev.isSome + 2 ^ 30 * b2n g.frozen + g.run % 256
    | _ => s.rd a
  else
    match o with
    | 0x004 => 256 * b2n s.presPend + 128 * b2n s.pres.drawRdy + (s.sched.cur.loads.streams.filter (fun c => bitOf c.cfg 31)).length % 128
    | _ => s.rd a

/-- BIST.STAT.SCAN_ACTIVE (R457). -/
def State.bistRead (s : State) (a o : Nat) : Nat :=
  match o with
  | 0x004 => setFld (s.rd a) 4 1 (b2n s.scanActive)
  | _ => s.rd a

/-- ALM (R490, R491, R493, R496). -/
def State.almRead (s : State) (a o : Nat) : Nat :=
  let jobs := s.nvm.ops.filter (fun j => match j.op with
    | .journal _ => true
    | _ => false)
  match o with
  | 0x004 => setFld (s.rd a) 0 2 (2 * b2n (s.warning && !jobs.isEmpty) + b2n (jobs.any (·.started)))
  | 0x028 => bitsOf 16 s.soundDue
  | 0x038 => s.powerSec / 3600
  | 0x03C => s.alm.keyCyc + s.getF PWR.LIFE_KEY 0 16
  | _ => s.rd a

/-- MGMT (R537, R540, R541, R550). SPI_ACTIVE reads 1 to the SPI target alone: its own chip select is low then. -/
def State.mgmtRead (s : State) (m : Master) (a o : Nat) : Nat :=
  match o with
  | 0x004 => 4 * s.getF a 2 1 + 2 * b2n s.fwActs + b2n (m == .spi)
  | 0x01C => s.getF a 31 1 * 2 ^ 31 + (1040 - s.mgmt.h2d.length) * 65536 + s.mgmt.d2h.length
  | _ => s.rd a

/-- Tap `t` of link `n` as a code of 8 bits. -/
def State.tapCode (s : State) (n t : Nat) : Nat := tc 8 (nth 0 (s.lnk n).taps t)

/-- LNK[n] (R69, R75, R76, R86). -/
def State.lnkRead (s : State) (a n o : Nat) : Nat :=
  let l := s.lnk n
  match o with
  | 0x004 => 128 * b2n (l.sounding == .running) + 64 * b2n (s.getF (LNK.LOOP_CTL n) 0 2 != 0) + 32 * b2n (s.eqFrozen n) + 16 * b2n l.sigDet
      + 8 * b2n l.eidle + l.training.code
  | 0x014 => 256 * l.eye + (if s.bit (LNK.EQ_CTL n) 4 then s.getF (LNK.EQ_CTL n) 8 4 else l.ctle)
  | 0x018 => 2 ^ 24 * s.tapCode n 3 + 65536 * s.tapCode n 2 + 256 * s.tapCode n 1 + s.tapCode n 0
  | 0x01C => 256 * s.tapCode n 5 + s.tapCode n 4
  | 0x030 => setFld (s.rd a) 17 1 (b2n l.hostBusy)
  | 0x094 => setFld (s.rd a) 2 1 (b2n (l.sounding == .running))
  | _ => s.rd a

/-- FE[n] (R105, R124, R131). PP_CFG and PP_TIMING belong to FE[16] and FE[17]. STAT.ABSENT reads its reset value while EN is 0.
DEDUCED (log entry 168). -/
def State.feRead (s : State) (a n o : Nat) : Nat :=
  if (o = 0x030 ∨ o = 0x034) ∧ n < 16 then 0
  else if o = 0x004 then 8 * b2n (s.fePend n) + 4 * b2n (s.statAbsent n) + 2 * b2n (s.fes n).frame.isSome + b2n (s.fes n).inScene
  else if s.bit (FE.SHADOW_CTL n) 1 && (feShadowed n).contains a then s.sh a
  else s.rd a

/-- CLU[k] (R183, R209, R211, R212). -/
def State.cluRead (s : State) (a k o : Nat) : Nat :=
  let c := s.cl k
  if 0x80000 ≤ o then Memory.readWord c.ctx (o - 0x80000)
  else if 0x040 ≤ o ∧ o < 0x080 then
    let e := s.eng k ((o - 0x040) / 4)
    e.phase.code * 2 ^ 30 + e.task % 1024 * 2 ^ 20 + e.pc % 4096
  else if o = 0x004 then 64 * b2n c.halted + 32 * b2n c.imemRdy + 16 * c.imemAct + c.svc
  else s.rd a

/-- The value that a read of the register at `a` returns, in a block that serves it (R10, R14). -/
def State.readVal (s : State) (m : Master) (a : Nat) : Nat :=
  if a < 0x100D0000 then
    let o := a % 0x10000
    match (a - 0x10000000) / 0x10000 with
    | 0 => s.sysRead a o
    | 1 => s.pwrRead a o
    | 2 => s.nvmRead a o
    | 3 => s.schedRead a o
    | 4 => s.cfsRead a o
    | 5 => s.dmaRead a o
    | 6 => s.brgRead a o
    | 7 => s.timeRead a o
    | 8 => s.ethRead a o
    | 9 => s.presRead a o
    | 10 => s.bistRead a o
    | 11 => s.almRead a o
    | _ => s.mgmtRead m a o
  else if a < 0x10200000 then s.lnkRead a ((a - 0x10100000) / 0x10000) (a % 0x10000)
  else if a < 0x10400000 then s.feRead a ((a - 0x10200000) / 0x10000) (a % 0x10000)
  else s.cluRead a ((a - 0x10400000) / 0x100000) (a % 0x100000)

/-- The bits of the register at `a` whose value the spec leaves open at this moment (log entry 1): lane and codeword lock
while a port trains or loops (R282-R285), what adapts in its lanes (R281, R286), the errors of a loopback (R288), and the
equaliser of a link before it settles, and of one in near-end serial loopback (R75, R81). -/
def State.openBits (s : State) (a : Nat) : Nat :=
  if 0x10080000 ≤ a ∧ a < 0x10090000 then
    let o := a % 0x10000
    let loose := fun (p : Nat) => (s.prt p).link != .up && (s.prt p).link != .off
    if o = 0x024 ∨ o = 0x034 then
      let p := (o - 0x024) / 16
      if loose p then 0x300 + 16 * (2 ^ s.lanesUsed p - 1) else 0
    else if o = 0x12C ∨ o = 0x15C then (if s.lbRuns ((o - 0x12C) / 48) then 0xFFFFFFFF else 0)
    else if 0x400 ≤ o ∧ o < 0x600 ∧ o % 64 = 0 then
      let p := (o - 0x400) / 256
      if loose p && decide ((o - 0x400) % 256 / 64 < s.lanesUsed p) then 0xFF01 else 0
    else
      match laneReg? o with
      | some (p, l, r) => s.laneOpen p l r
      | none => 0
  else if 0x10100000 ≤ a ∧ a < 0x10200000 then
    let l := s.lnk ((a - 0x10100000) / 0x10000)
    let n := (a - 0x10100000) / 0x10000
    let adapting := ((l.training == .fwTrain && !l.bts2) || s.getF (LNK.LOOP_CTL n) 0 2 == 1) && !s.eqFrozen n
    match a % 0x10000 with
    | 0x014 => if adapting && !s.bit (LNK.EQ_CTL n) 4 then 0xF else 0
    | 0x018 => if adapting then 0xFFFFFFFF else 0
    | 0x01C => if adapting then 0xFFFF else 0
    | _ => 0
  else 0

/-- A read of a register some of whose bits are open now (log entry 1): they take a free value. A read of LB_ERR_CNT while it
counts brings it up to date (R288). -/
def State.openRead (s : State) (m : Master) (a : Nat) : Nat × State :=
  let v := s.readVal m a
  if a = ETH.LB_ERR_CNT 0 then ((s.lbCount 0).rd a, s.lbCount 0)
  else if a = ETH.LB_ERR_CNT 1 then ((s.lbCount 1).rd a, s.lbCount 1)
  else
    match (if 0x10080000 ≤ a ∧ a < 0x10090000 then laneReg? (a % 0x10000) else none) with
    | some (_, _, r) => (laneTake r v (s.openBits a) s.fresh.1, s.fresh.2)
    | none => (v - (v &&& s.openBits a) + (s.fresh.1 &&& s.openBits a), s.fresh.2)

/-- A read of the register at `a`, a multiple of 4, with its side effect: a read of MGMT.MBX_POP pops (R441), a read of
PWR.RTC_SEC_LO latches the words beside it (R482). -/
def State.regRead (s : State) (m : Master) (a : Nat) : Nat × State :=
  if a = MGMT.MBX_POP then (s.mbxPop.1.toNat, s.mbxPop.2)
  else if a = PWR.RTC_SEC_LO then
    (s.readVal m a, (s.wr PWR.RTC_SEC_HI (s.rtcSec / 2 ^ 32)).wr PWR.RTC_SUB (s.rtcTicks % 32768))
  else if s.openBits a = 0 then (s.readVal m a, s)
  else s.openRead m a

/-- Address `a` lies in the control-bus map (R551): control RAM, a block window, or the CFS aperture. -/
def busMapped (a : Nat) : Bool := decide (a < 0x40000) || (windowDomain a).isSome || (decide (0x20000000 ≤ a) && decide (a < 0x23000000))

/-- A read of the word at `a` by master `m` (R27, R172, R465, R551): the word, or none for a bus error. Nothing answers
while CTRL is unpowered. -/
def State.busRead (s : State) (m : Master) (addr : Nat) : Option Nat × State :=
  let a := addr / 4 * 4
  if !busMapped a then (none, s)
  else if !s.domOn 1 then (some 0, s)
  else if a < 0x40000 then (some (Memory.readWord s.dma.ram a), s)
  else if 0x20000000 ≤ a then (if s.domOn 2 then
    let s := s.apertureMeets (a - 0x20000000)
    (some (s.apertureRead (a - 0x20000000)), s) else (some 0, s.offAccess))
  else if !s.domOn ((windowDomain a).getD 1) then (some 0, s.offAccess)
  else if s.windowTest a then (some 0, s.testAccess)
  else let r := s.regRead m a; (some r.1, r.2)

end Sys2Proof.Machine
end

