-- ==== Sys2Proof/Machine/BusWrite.lean ====
section
/-! DEFINITION. What a write to a control-bus address does (R10-R14, R27, R440, R465, R551), the counter snapshot (R544),
and the commands for plain register accesses. -/

namespace Sys2Proof.Machine

/-! ### Clear bits and snapshots (R12, R544, R545) -/

/-- The first counter and the number of counters that the clear register at `a` clears: bit i clears counter i. -/
def cntClear (a : Nat) : Option (Nat × Nat) :=
  if a < 0x10000000 then none
  else if a < 0x100D0000 then
    match a - 0x10000000 with
    | 0x00048 => some (SYS.LOCKSTEP_CNT, 2)
    | 0x1013C => some (PWR.DIP_CNT, 9)
    | 0x1087C => some (PWR.WAKE_CNT, 5)
    | 0x2013C => some (NVM.RETRY_CNT, 7)
    | 0x301F8 => some (SCHED.DEV_CNT 0, 32)
    | 0x301FC => some (SCHED.DEV_CNT 32, 22)
    | 0x4013C => some (CFS.DROP_CNT, 11)
    | 0x5013C => some (DMA.BUS_ERR_CNT, 6)
    | 0x6013C => some (BRG.RETRY_CNT, 3)
    | 0x7017C => some (0x10070100, 15)
    | 0x8017C => some (0x10080100, 28)
    | 0x9017C => some (0x10090100, 16)
    | 0xA013C => some (BIST.FAIL_CNT, 7)
    | 0xB013C => some (ALM.AVS_UP_CNT, 10)
    | 0xC013C => some (MGMT.SPI_ERR_CNT, 5)
    | _ => none
  else if 0x10100000 ≤ a ∧ a < 0x10200000 then (if a % 0x10000 = 0x13C then some (a - 0x3C, 12) else none)
  else if 0x10200000 ≤ a ∧ a < 0x10320000 then (if a % 0x10000 = 0x17C then some (a - 0x7C, 19) else none)
  else if 0x10400000 ≤ a ∧ a < 0x10C00000 then (if a % 0x100000 = 0x13C then some (a - 0x3C, 14) else none)
  else none

/-- The counters that a write of `v` to the clear register of `c` names are cleared (R12). -/
def State.clearCounters (s : State) (c : Nat × Nat) (v : Nat) : State :=
  s.each ((upto c.2).filter (bitOf v)) (fun s i => s.wr (c.1 + 4 * i) 0)

/-- A write of 1 to SYS.SNAP.GO (R544): every counter of every powered domain is copied; ignored while a snapshot is being
written. -/
def State.snapGo (s : State) : State :=
  if s.bit SYS.SNAP_STAT 31 then s
  else
    let s := s.when (s.domOn 7) (fun s => (s.lbCount 0).lbCount 1)
    let s := s.each (counterRuns.filter (fun r => s.domOn r.dom)) (fun s r =>
      s.each (upto r.count) (fun s i => s.wr (r.first + r.snap + 4 * i) (s.rd (r.first + 4 * i))))
    let s := s.when (s.domOn 2) (fun s => s.each (upto 1024) (fun s q =>
      (s.wr (CFS.Q_DROP_SNAP q) (s.rd (CFS.Q_DROP_CNT q))).wr (CFS.Q_XCNT_SNAP q) (s.q q).xcnt))
    s.wr SYS.SNAP_STAT (2 ^ 31 + 65536 * bitsOf 8 (fun d => !s.domOn d) + (s.rd SYS.SNAP_STAT + 1) % 65536)

/-! ### The DMA's own registers (R421, R430, R434) -/

/-- A write to a channel register is refused (R421). -/
def State.dmaRefuse (s : State) : State := (s.inc DMA.REFUSED_CNT).setBit DMA.EVT 0

/-- The chain of channel `c` starts: the fetch of its first descriptor (R421). -/
def State.chanGo (s : State) (c : Nat) : State :=
  s.modChan c (fun _ => { phase := .fetch, cur := s.rd (DMA.CH_DESC c) / 32 * 32 % 0x40000 })

/-- CH_CTL[c].ABORT (R434): in WAIT the descriptor ends at once; in a burst or a fetch, at its end. -/
def State.chanAbort (s : State) (c : Nat) : State :=
  match (s.chan c).phase with
  | .idle => s
  | .wait => s.chanStop c 5
  | _ => s.modChan c (fun x => { x with abort := true })

/-- A write of CH_CTL[c] (R421, R434, R443): LOCK is written by the cores only; a GO that is ignored writes nothing. -/
def State.chanCtl (s : State) (m : Master) (c v : Nat) : State :=
  if bitOf v 0 && (bitOf v 1 || (s.chan c).phase != .idle) then s.dmaRefuse
  else
    let s := s.wr (DMA.CH_CTL c) (if m = .core then v &&& 0x1F8 else (v &&& 0xF8) + (s.rd (DMA.CH_CTL c) &&& 0x100))
    if bitOf v 0 then s.chanGo c else s.when (bitOf v 1) (·.chanAbort c)

/-- A write of a register of channel `c` at offset `o` of its group (R421): a host write to a locked channel is refused. -/
def State.chanWrite (s : State) (m : Master) (a c o v : Nat) : State :=
  if s.bit (DMA.CH_CTL c) 8 && (m == .spi || m == .frame) then s.dmaRefuse
  else if o = 0 then s.chanCtl m c v
  else s.plainWrite a v

/-- A write of DMA.SW_REQ (R430). -/
def State.swReq (s : State) (v : Nat) : State := { s with dmaReq := s.dmaReq ||| (v &&& 0xFFFF) }

/-- A write of BRG.SEM_REL, accepted from the cores only (R444). -/
def State.semRel (s : State) (m : Master) (v : Nat) : State :=
  if m = .core then { s with dma := { s.dma with sems := s.dma.sems.filter (fun p => !bitOf v p.1) } } else s

/-! ### Registers that do more than hold what is written, block by block -/

/-- `v` with the field of `w` bits at `lo` clamped to `mn` to `mx`. -/
def clampAt (v lo w mn mx : Nat) : Nat := setFld v lo w (max mn (min mx (fld v lo w)))

/-- PWR (R411, R483, R506, R510, R513, R514, R517, R523). -/
def State.pwrWrite (s : State) (m : Master) (a o v : Nat) : State :=
  match o with
  | 0x010 => if m = .core then s.plainWrite a v else s
  | 0x024 => s.domReqWrite v
  | 0x028 => s.domReset v
  | 0x044 => if m = .core then s.wdtWrite v else s
  | 0x048 => if m = .core then s.wdtKick v else s
  | 0xA00 => s.rtcCtl v
  | _ => s.plainWrite a v

/-- SCHED (R369). -/
def State.schedWrite (s : State) (a o v : Nat) : State :=
  match o with
  | 0x024 => s.plainWrite a (clampAt (clampAt v 0 16 20 5000) 16 8 1 20)
  | _ => s.plainWrite a v

/-- CFS (R157, R161, R165, R168-R170). -/
def State.cfsWrite (s : State) (a o v : Nat) : State :=
  if 0x8000 ≤ o then
    let q := (o - 0x8000) / 32
    match o % 32 with
    | 0x0C => s.writeWatermark q true v
    | 0x10 => s.writeWatermark q false v
    | 0x18 => s.when (bitOf v 24) (·.modQ q (fun x => { x with hwm := false }))
    | _ => s
  else
    match o with
    | 0x000 =>
      let off := !s.bit CFS.CTL 0
      let s := s.plainWrite a v
      s.when (off && s.bit CFS.CTL 0) (·.auditBegin)
    | 0x020 => s.flush (fld v 0 10) false
    | 0x024 => s.queueCntClear v
    | 0x028 => s.plainWrite a (clampAt v 0 16 1 0xFFFF)
    | _ => s.plainWrite a v

/-- TIME (R307, R318, R326, R335, R340). -/
def State.timeWrite (s : State) (a o v : Nat) : State :=
  match o with
  | 0x000 => s.timeCtl v
  | 0x010 => s.when (bitOf v 0) (·.captureNow)
  | 0x028 => s.plainWrite a (clampAt v 0 16 50 0xFFFF)
  | 0x02C => s.plainWrite a (clampAt v 0 16 100 60000)
  | 0x030 => s.plainWrite a (clampAt v 0 16 0 10000)
  | 0x034 => s.plainWrite a (clampAt v 0 16 100 5000)
  | 0x038 => s.plainWrite a (clampAt v 0 8 20 100)
  | 0x060 => s.domCfgWrite 0 v
  | 0x070 => s.domCfgWrite 1 v
  | 0x06C => s.asymWrite 0 v
  | 0x07C => s.asymWrite 1 v
  | _ => s.plainWrite a v

/-- ETH (R282, R286, R287, R293, R303, R304). SUITE is written only while EN is 0. -/
def State.ethWrite (s : State) (a o v : Nat) : State :=
  match laneReg? o with
  | some (p, l, r) => s.laneWrite r p l v
  | none =>
    match o with
    | 0x020 => s.portCfg 0 v
    | 0x028 => s.portLoop 0 v
    | 0x030 => s.portCfg 1 v
    | 0x038 => s.portLoop 1 v
    | 0x040 => s.plainWrite a (if s.bit a 0 then setFld v 1 1 (s.getF a 1 1) else v)
    | _ => s.plainWrite a v

/-- PRES (R276, R277). -/
def State.presWrite (s : State) (a o v : Nat) : State :=
  if presShadowedAddr o then s.presShadowWrite a v else s.plainWrite a v

/-- ALM (R472, R494, R496). -/
def State.almWrite (s : State) (a o v : Nat) : State :=
  match o with
  | 0x018 =>
    let five := fun (x : Nat) => max 700 (min 850 x) / 5 * 5
    let ceil := five (fld v 10 10)
    let s := s.plainWrite a (setFld (setFld v 10 10 ceil) 0 10 (min ceil (five (fld v 0 10))))
    let goal := s.alm.target.getD s.setMv
    let lim := max (s.getF ALM.AVS_CFG 0 10) (min ceil goal)
    if lim = goal then s else (s.modAlm (fun a => { a with target := some lim })).avsGo
  | 0x02C => s.rebaseWrite v
  | _ => s.plainWrite a v

/-- MGMT (R537, R540, R550). -/
def State.mgmtWrite (s : State) (m : Master) (a o v : Nat) : State :=
  match o with
  | 0x000 => s.mgmtCtl v
  | 0x010 => if m = .spi ∨ m = .frame then s.mbxPush (BitVec.ofNat 32 v) else s
  | _ => s.plainWrite a v

/-- LNK[n] (R65, R70-R72, R81, R83, R86). -/
def State.lnkWrite (s : State) (a n o v : Nat) : State :=
  match o with
  | 0x000 => s.linkCtl n v
  | 0x024 => s.plainWrite a (clampAt v 0 8 1 255)
  | 0x030 => s.bcReqCtl n v
  | 0x080 => s.loopSelect n v
  | 0x090 => s.soundCtl n v
  | _ => s.plainWrite a v

/-- FE[n] (R93, R124-R126, R129, R131). -/
def State.feWrite (s : State) (a n o v : Nat) : State :=
  if (o = 0x030 ∨ o = 0x034) ∧ n < 16 then s
  else if o = 0x000 then s.feCtl n v
  else if o = 0x010 then s.feShadowCtl n v
  else if (0x1000 ≤ o ∧ o < 0x1908) ∨ (0x8000 ≤ o ∧ o < 0xC000) then s.feTableWrite n a v
  else if (feShadowed n).contains a then s.shadowWrite a v
  else s.plainWrite a v

/-- CLU[k] (R184, R186, R212). -/
def State.cluWrite (s : State) (a k o v : Nat) : State :=
  if 0x80000 ≤ o then s.ctxHostWrite k ((o - 0x80000) / 0x10000) ((o - 0x80000) % 0x10000) v
  else if o = 0x000 then s.cluCtl k v
  else if o = 0x020 then s.ctxCommit k v
  else s.plainWrite a v

/-- A write of `v` by master `m` to the register at `a`, in a block that serves it. -/
def State.regWrite (s : State) (m : Master) (a v : Nat) : State :=
  match cntClear a with
  | some c =>
    let s := s.clearCounters c v
    if a = PWR.CNT_CLR ∧ bitOf v 9 then s.putF PWR.DIP_DUR 16 16 0 else s
  | none =>
    if a < 0x100D0000 then
      let o := a % 0x10000
      match (a - 0x10000000) / 0x10000 with
      | 0 => if a = SYS.SNAP then s.when (bitOf v 0) (·.snapGo) else s.plainWrite a v
      | 1 => s.pwrWrite m a o v
      | 2 => s.plainWrite a v
      | 3 => s.schedWrite a o v
      | 4 => s.cfsWrite a o v
      | 5 =>
        if o = 0 then s.swReq v
        else if 0x1000 ≤ o ∧ o < 0x1800 then s.chanWrite m a ((o - 0x1000) / 64) (o % 64) v
        else s.plainWrite a v
      | 6 => if a = BRG.SEM_REL then s.semRel m v else s.plainWrite a v
      | 7 => s.timeWrite a o v
      | 8 => s.ethWrite a o v
      | 9 => s.presWrite a o v
      | 10 => if a = BIST.RUN then s.bistWrite v else s.plainWrite a v
      | 11 => s.almWrite a o v
      | _ => s.mgmtWrite m a o v
    else if a < 0x10200000 then s.lnkWrite a ((a - 0x10100000) / 0x10000) (a % 0x10000) v
    else if a < 0x10400000 then s.feWrite a ((a - 0x10200000) / 0x10000) (a % 0x10000) v
    else s.cluWrite a ((a - 0x10400000) / 0x100000) (a % 0x100000) v

/-- The semaphore that address `a` maps to (R440). -/
def semOf (a : Nat) : Nat := fld a 2 4 ^^^ fld a 6 4 ^^^ fld a 10 4 ^^^ fld a 14 4

/-- A plain write by master `m` to `a` clears the reservation of a semaphore that another master holds (R440). -/
def State.semWrite (s : State) (m : Master) (a : Nat) : State :=
  match Map.get none s.dma.sems (semOf a) with
  | none => s
  | some (h, _) => if h = m then s else { s with dma := { s.dma with sems := Map.set none s.dma.sems (semOf a) none } }

/-- A write of the word `v` at `addr` by master `m`, without its effect on semaphores: false for a bus error (R27, R173, R419,
R465, R551). The code region of control RAM is protected. Nothing answers while CTRL is unpowered. -/
def State.storeWord (s : State) (m : Master) (addr v : Nat) : Bool × State :=
  let a := addr / 4 * 4
  if !busMapped a then (false, s)
  else if !s.domOn 1 then (true, s)
  else if a < 0x40000 then
    if a < s.dma.codeEnd then (false, s)
    else (true, { s with dma := { s.dma with ram := Memory.writeWord s.dma.ram a v } })
  else if 0x20000000 ≤ a then (true, if s.domOn 2 then s.apertureWrite (a - 0x20000000) v else s.offAccess)
  else (true, s.served a (·.regWrite m a v))

/-- A plain write of the word `v` at `addr` by master `m` (R440). -/
def State.busWrite (s : State) (m : Master) (addr v : Nat) : Bool × State :=
  let r := s.storeWord m addr v
  if r.1 then (true, r.2.semWrite m (addr / 4 * 4)) else r

/-! ### Commands -/

/-- REGISTER_WRITE (R10, R13, R14): a write of `v` to `addr` by master `m`. -/
def execRegisterWrite (m : Master) (addr v : Word) (s : State) : Host.Outcome State Fault Refusal :=
  let r := s.busWrite m addr.toNat v.toNat
  .next (r.2.answer (if r.1 then 0 else 5) [])

/-- Hardware sets the write-1-to-clear bits of `hw` in the register at `a` (R11). -/
def State.eventSet (s : State) (a hw : Nat) : State :=
  if 0x10048000 ≤ a ∧ a < 0x10050000 ∧ a % 32 = 24 then
    s.when (bitOf hw 24) (·.modQ ((a - 0x10048000) / 32) (fun x => { x with hwm := true }))
  else match regDefAt a with
    | none => s
    | some d => s.wr a (s.rd a ||| (hw &&& d.w1c))

/-- EVENT_CLEAR (R10, R11): a write of `v` to a W1C register, in the cycle in which hardware sets the bits of `hw`. -/
def execEventClear (m : Master) (addr v hw : Word) (s : State) : Host.Outcome State Fault Refusal :=
  let r := s.busWrite m addr.toNat v.toNat
  .next ((r.2.eventSet (addr.toNat / 4 * 4) hw.toNat).answer (if r.1 then 0 else 5) [])

/-- The counters of the queue that a write of `v` to CFS.Q_CNT_CLR names count the events of bits 16 and 17 of `ev` (R12, R170). -/
def State.queueCntEvents (s : State) (v ev : Nat) : State :=
  let q := fld v 0 10
  let s := if bitOf ev 16 then s.inc (CFS.Q_DROP_CNT q) else s
  if bitOf ev 17 then s.modQ q (fun x => { x with xcnt := min 255 (x.xcnt + 1) }) else s

/-- COUNTER_CLEAR (R12, R170, R545): a write of `v` to a clear register, in the cycle in which the counters of the bits of `events`
count an event: a counter both cleared and counted reads 1. -/
def execCounterClear (m : Master) (addr v events : Word) (s : State) : Host.Outcome State Fault Refusal :=
  let r := s.busWrite m addr.toNat v.toNat
  match cntClear (addr.toNat / 4 * 4) with
  | none => .next ((r.2.when (addr.toNat / 4 * 4 == CFS.Q_CNT_CLR) (·.queueCntEvents v.toNat events.toNat)).answer (if r.1 then 0 else 5) [])
  | some c => .next ((r.2.each ((upto c.2).filter (fun i => bitOf events.toNat i && isCounter (c.1 + 4 * i))) (fun s i =>
      s.inc (c.1 + 4 * i))).answer (if r.1 then 0 else 5) [])

/-- OFF_DOMAIN_ACCESS (R27): an access by master `m` to a register, a read or a write of `v`; one to a block agent in a
powered-down domain reads 0, discards the write and is counted. -/
def execOffDomainAccess (m : Master) (addr : Word) (v : Option Word) (s : State) : Host.Outcome State Fault Refusal :=
  match v with
  | none =>
    match s.busRead m addr.toNat with
    | (none, s) => .next (s.answer 5 [])
    | (some x, s) => .next (s.answer 0 [BitVec.ofNat 32 x])
  | some v =>
    let r := s.busWrite m addr.toNat v.toNat
    .next (r.2.answer (if r.1 then 0 else 5) [])

/-- APERTURE_READ (R163, R164, R172, R173): a read of the word at byte offset `x.o` of the CFS aperture by master `m`, which meets those of
the errors `x.err` that lie in the 64-bit word it reads. -/
def execApertureRead (m : Master) (x : ApertureWord) (s : State) : Host.Outcome State Fault Refusal :=
  let here : ReadErrs := { ce := (x.err.ce.filter (fun c => c == x.o.val / 256)).take 1, ue := x.err.ue.filter (fun w => w.2.1 == x.o.val / 8 % 32) }
  let s := s.when (s.domOn 2) (·.readErrs here [x.o.val / 256])
  match s.busRead m (0x20000000 + x.o) with
  | (none, s) => .next (s.answer 5 [])
  | (some v, s) => .next (s.answer 0 [BitVec.ofNat 32 v])

/-- APERTURE_WRITE (R173): a write of the word at byte offset `o` of the CFS aperture by master `m`. -/
def execApertureWrite (m : Master) (o : Fin 0x3000000) (v : Word) (s : State) : Host.Outcome State Fault Refusal :=
  let r := s.busWrite m (0x20000000 + o) v.toNat
  .next (r.2.answer (if r.1 then 0 else 5) [])

/-- SNAPSHOT (R544): a write of SYS.SNAP by master `m`. -/
def execSnapshot (m : Master) (v : Word) (s : State) : Host.Outcome State Fault Refusal :=
  let r := s.busWrite m SYS.SNAP v.toNat
  .next (r.2.answer (if r.1 then 0 else 5) [])

/-- SNAPSHOT_DONE (R544): every snapshot register is written. -/
def execSnapshotDone (s : State) : Host.Outcome State Fault Refusal :=
  .next (if s.domOn 1 then s.clrBit SYS.SNAP_STAT 31 else s)

end Sys2Proof.Machine
end

