-- ==== Sys2Proof/Machine/Dma.lean ====
section
/-! DEFINITION. The service DMA and the commands of the bridge (R418-R444). -/

namespace Sys2Proof.Machine

/-! ### Accesses (R418-R420, R426, R439) -/

/-- The `n` bytes from `a`, cut at 32-bit words; at most `k` parts (R439). -/
def splitWords : Nat → Nat → Nat → List (Nat × Nat)
  | 0, _, _ => []
  | k + 1, a, n => if n = 0 then [] else
    let m := min n (4 - a % 4)
    (a, m) :: splitWords k (a + m) (n - m)

/-- The accesses of `n` bytes from `a`: in ascending order, or once per element of `e` bytes at a fixed address (R426). -/
def accesses (fixed : Bool) (a n e : Nat) : List (Nat × Nat) :=
  if fixed then (List.replicate (n / e) (splitWords 8 a e)).flatten else splitWords n a n

/-- The bytes `bs` put over the word `w` from byte `i`. -/
def patchWord (w i : Nat) (bs : List Byte) : Nat :=
  le ((leBytes 4 w).take i ++ bs ++ (leBytes 4 w).drop (i + bs.length))

/-- A cluster serves the fabric (R419, R465). -/
def State.cluServes (s : State) (k : Nat) : Bool := s.domOn (cluDomain k) && !s.underTest k

/-- One read access of the DMA, inside a 32-bit word of target `t` (R418-R420): none for a bus error. -/
def State.dmaLoad (s : State) (t : DmaTarget) (a n : Nat) : Option (List Byte) × State :=
  if dmaTarget a ≠ t then (none, s)
  else
    let bus := fun (s : State) => match s.busRead .dma a with
      | (some w, s) => (some (slice (leBytes 4 w) (a % 4) n), s)
      | (none, s) => (none, s)
    match t with
    | .ram => bus s
    | .window => bus s
    | .cells => bus s
    | .lmem k e => (if s.cluServes k then some (Memory.read (s.cl k).lmem (0x20000 * e + a % 0x20000) n) else none, s)
    | .smem k => (if s.cluServes k then some (Memory.read (s.cl k).smem (a % 0x100000) n) else none, s)
    | .imem k e => (if s.cluServes k then some (Memory.read (s.cl k).imem (0x8000 * e + a % 0x8000) n) else none, s)
    | .draw => (if s.domOn 7 then some (Memory.read s.pres.draw (a - 0x50000000) n) else none, s)
    | .flash => (some (s.flashRead (a - 0x60000000) n), s)
    | .load _ _ => (none, s)
    | .queue _ => (none, s)
    | .outside => (none, s)

/-- One write access of the DMA, inside a 32-bit word of target `t` (R173, R179, R263, R418-R420): false for a bus error.
Bytes of a register that the access does not write reach it as free values (log entry 32). -/
def State.dmaStore (s : State) (t : DmaTarget) (locked : Bool) (a : Nat) (bs : List Byte) : Bool × State :=
  let merged := fun (s : State) => s.busWrite .dma a (if bs.length = 4 then le bs else patchWord ((s.busRead .dma a).1.getD 0) (a % 4) bs)
  let mem := fun (k : Nat) (f : CluState → CluState) => if s.cluServes k && (s.cl k).svc != 3 then (true, s.modCl k f) else (false, s)
  if dmaTarget a ≠ t then (false, s)
  else
    match t with
    | .ram => merged s
    | .cells => merged s
    | .window =>
      if bs.length = 4 then s.busWrite .dma a (le bs)
      else s.fresh.2.busWrite .dma a (patchWord s.fresh.1 (a % 4) bs)
    | .lmem k e => mem k (fun c => { c with lmem := Memory.write c.lmem (0x20000 * e + a % 0x20000) bs })
    | .smem k => mem k (fun c => { c with smem := Memory.write c.smem (a % 0x100000) bs })
    | .imem k e => mem k (fun c => { c with imem := Memory.write c.imem (0x8000 * e + a % 0x8000) bs })
    | .load k e =>
      if locked && s.cluServes k then
        (true, s.modCl k (fun c => { c with imem := Memory.write c.imem (0x8000 * e + 0x4000 * (1 - c.imemAct) + a % 0x4000) bs }))
      else (false, s)
    | .draw =>
      let o := a - 0x50000000
      if s.domOn 7 then s.drawWrite o (patchWord (Memory.readWord s.pres.draw (o / 4 * 4)) (o % 4) bs) else (false, s)
    | .queue _ => (false, s)
    | .flash => (false, s)
    | .outside => (false, s)

/-! ### Descriptors (R422, R423) -/

/-- Word 0 bit `i` of the descriptor. -/
def Channel.flag (x : Channel) (i : Nat) : Bool := bitOf (nth 0 x.words 0) i

/-- BURST in bytes. -/
def Channel.burst (x : Channel) : Nat := 64 * 2 ^ fld (nth 0 x.words 0) 23 3

/-- The address is a queue window (R418). -/
def isQueue (a : Nat) : Bool :=
  match dmaTarget a with
  | .queue _ => true
  | _ => false

/-- The descriptor breaks a rule of R423: the code MISALIGNED (2) or INVALID (3). -/
def Channel.programError (x : Channel) : Option Nat :=
  let e := x.esize
  let sq := isQueue x.src
  let dq := isQueue x.dst
  if (x.mode ≠ 1 ∧ x.src % e ≠ 0) ∨ x.dst % e ≠ 0 ∨ x.len % e ≠ 0 then some 2
  else if x.mode = 3 ∨ fld (nth 0 x.words 0) 23 3 = 7 ∨ x.len = 0 ∨ fld (nth 0 x.words 0) 0 15 ≠ 0 ∨ fld (nth 0 x.words 3) 24 8 ≠ 0
      ∨ nth 0 x.words 4 % 32 ≠ 0 ∨ 0x40000 ≤ nth 0 x.words 4 then some 3
  else if (sq && x.mode != 1 && (!x.flag 27 || e != 8)) || (dq && (!x.flag 26 || e != 8)) then some 3
  else if (sq && dq) || ((sq || dq) && x.mode == 2) || (sq && x.mode == 1) then some 3
  else if dq && decide (65535 < x.len) then some 3
  else none

/-- Word 5 of the descriptor (R422). -/
def Channel.status (x : Channel) : Nat :=
  x.code * 2 ^ 28 + 2 ^ 27 * b2n x.ue + 2 ^ 26 * b2n x.trunc + 2 ^ 24 * x.kind + (x.len - x.done)

/-- MISMATCH: the elements that differed, 0 but in a compare (R422). -/
def Channel.mismatchWord (x : Channel) : Nat := if x.mode = 2 then x.mismatch else 0

/-- AUX (R422). -/
def Channel.aux (x : Channel) : Nat :=
  if x.mode = 2 then x.firstDiff.getD 0xFFFFFFFF
  else
    match x.item with
    | some bs => bs.length
    | none => 0

/-- The control side reads the next word of the descriptor of channel `c`, or takes the next of words 5 to 7 (R422, R432, R438): a plain
write by the DMA (R440). -/
def State.ctlWord (s : State) (c : Nat) : State :=
  let x := s.chan c
  match x.phase with
  | .fetch =>
    let w := Memory.readWord s.dma.ram (x.cur + 4 * x.fetched)
    s.modChan c (fun x => { x with fetched := x.fetched + 1, words := if x.fetched < 5 then x.words ++ [w] else x.words })
  | .drain =>
    let v := nth 0 [x.status, x.mismatchWord, x.aux] x.wrote
    ((s.busWrite .dma (x.cur + 20 + 4 * x.wrote) v).2).modChan c (fun x => { x with wrote := x.wrote + 1 })
  | _ => s

/-- `n` more words of the descriptor of channel `c`. -/
def State.ctlWords (s : State) (c : Nat) : Nat → State
  | 0 => s
  | n + 1 => (s.ctlWord c).ctlWords c n

/-- DESCRIPTOR_FETCH_DONE: the descriptor is read, and words 0 to 4 are checked (R422, R423, R434, R437). -/
def State.fetchDone (s : State) (c : Nat) : State :=
  let s := s.ctlWords c (s.chan c).ctlLeft
  let abort := (s.chan c).abort
  let s := s.modChan c (fun x => { phase := .wait, cur := x.cur, words := x.words })
  if abort then s.chanStop c 5
  else
    match (s.chan c).programError with
    | some code =>
      (((s.inc DMA.PROG_ERR_CNT).setBit DMA.EVT 1).setBit (DMA.CH_EVT c) 3).modChan c (fun x => { x with phase := .drain, code := code })
    | none => if (upto 8).any (fun d => s.dom d == .falling && (s.chan c).uses d) then s.chanOff c else s

/-! ### Bursts (R425-R430, R435, R436) -/

/-- The bytes that the descriptor transfers: LEN, or of an item popped min(its length rounded up to 8, LEN) (R428). -/
def Channel.total (x : Channel) : Nat :=
  match x.item with
  | some bs => min x.len ((bs.length + 7) / 8 * 8)
  | none => x.len

/-- The channel's descriptor works on queue `q` (R428). -/
def Channel.holdsQueue (x : Channel) (q : Nat) : Bool :=
  (x.phase == .burst || x.phase == .drain || (x.phase == .wait && (x.done != 0 || x.stalled || x.item.isSome)))
    && (x.srcQ == some q || x.dstQ == some q)

/-- The stalled pop of the channel has been served (R153, R428). -/
def State.popServed (s : State) (q : Nat) : Bool := (s.q q).items.any (·.claimed) || !(s.delivered q).isEmpty

/-- Channel `c` is eligible for a burst (R425, R428, R430). -/
def State.eligible (s : State) (c : Nat) : Bool :=
  let x := s.chan c
  let ready := if x.stalled then (match x.srcQ with
      | some q => s.popServed q
      | none => true) else !x.flag 22 || s.reqLine (fld (nth 0 x.words 0) 16 6)
  let free := (upto 32).all (fun d => d == c || !(match x.srcQ, x.dstQ with
    | some q, _ => (s.chan d).holdsQueue q
    | none, some q => (s.chan d).holdsQueue q
    | none, none => false))
  x.phase == .wait && ready && free

/-- The channel that the arbiter grants: highest priority, then round-robin (R425); none while a burst has still to issue accesses, held by
a full data-to-control queue (R438). -/
def State.arbiter (s : State) : Option Nat :=
  let cs := (upto 32).filter s.eligible
  let p := (upto 4).find? (fun p => cs.any (fun c => s.getF (DMA.CH_CTL c) 3 2 == p))
  if 16 < s.burstLeft then none
  else
  match p with
  | none => none
  | some p =>
    let last := nth 31 s.dma.last p
    ((upto 32).map (fun i => (last + 1 + i) % 32)).find? (fun c => cs.contains c && s.getF (DMA.CH_CTL c) 3 2 == p)

/-- The bus error of an access (R435): nothing of the burst is issued any more, and the bytes before the failing access count as
transferred. -/
def State.chanBusErr (s : State) (c : Nat) : State :=
  (((s.inc DMA.BUS_ERR_CNT).setBit DMA.EVT 2).setBit (DMA.CH_EVT c) 3).modChan c (fun x => { x with code := 4, todo := [], buf := [], buf2 := [] })

/-- UE data is read (R436). -/
def State.chanUe (s : State) (c n : Nat) : State :=
  ((s.incBy DMA.UE_CNT n).setBit DMA.EVT 4).modChan c (fun x => { x with ue := true })

/-- The bytes of the item that a pop of queue `q` has claimed, and what the channel notes of it; of one that a flush or reset has cut
meanwhile nothing is delivered (R159, R428, R436). -/
def State.chanTakes (s : State) (c q : Nat) : State :=
  let d : Delivered := match s.delivered q with
    | d :: _ => d
    | [] => match (s.q q).items.find? (·.claimed) with
      | some i => { kind := i.kind, bytes := cfsReadCells s.cfs.mem i.cells i.len, ue := i.ue }
      | none => { cut := true }
  let s := s.when (!(s.delivered q).isEmpty) (fun s => s.setDelivered q ((s.delivered q).drop 1))
  let s := s.modChan c (fun x => { x with item := some d.bytes, kind := d.kind.code, trunc := decide (x.len < d.bytes.length) && !d.cut,
                                          stalled := false, code := if d.cut then 1 else 0 })
  s.when (d.ue != 0) (·.chanUe c d.ue)

/-- The first burst of a queue source claims the head item, or stalls (R146, R153, R159, R428): false where the queue
refuses the pop. -/
def State.chanPop (s : State) (c q : Nat) (err : ReadErrs) : Bool × State :=
  if (s.chan c).stalled then (true, s.chanTakes c q)
  else if !s.popAllowed q 31 then (false, s.opErr)
  else
    let s := (s.when err.ptr (·.queueReset q)).claimRead q 0 err
    (true, if s.popServed q then s.chanTakes c q else s.modChan c (fun x => { x with stalled := true }))

/-- The item of queue `q` being read has been cut by a flush or reset (R159, R428). -/
def State.popCut (s : State) (q : Nat) : Bool := !(s.q q).items.any (·.claimed) && ((s.delivered q).head?.map (·.cut)).getD false

/-- The bytes of a burst pushed to queue `q` (R143, R149, R428): the push is decided with the first bytes; later ones fill the
item's cells. False where the queue refuses the push. -/
def State.chanPush (s : State) (c q : Nat) (bs : List Byte) : Bool × State :=
  let x := s.chan c
  if x.done = 0 then (s.pushAllowed q 31 x.len, s.pushPart q 31 x.len bs)
  else (true, s.when ((s.q q).items.any (·.part)) (·.pushMore q bs))

/-- The fill constant as the bytes of one element (R427). -/
def Channel.fillBytes (x : Channel) : List Byte := if x.esize = 8 then leBytes 4 x.src ++ leBytes 4 x.src else leBytes x.esize x.src

/-- The elements of `e` bytes. -/
def elements (e : Nat) (bs : List Byte) : List (List Byte) := (upto (bs.length / e)).map (fun i => slice bs (e * i) e)

/-- The accesses of a burst of `n` bytes: to each unit read, an element or a word of it, its writes or the reads of the second range
(R426, R427, R439). A queue takes a unit whole. -/
def Channel.program (x : Channel) (n : Nat) : List DmaAccess :=
  let sf := x.flag 27
  let df := x.flag 26
  let at_ := fun (fixed : Bool) (base o : Nat) => if fixed then base else base + x.done + o
  let acc := fun (k : DmaStep) (ps : List (Nat × Nat)) => ps.map (fun p => ({ step := k, addr := p.1, len := p.2 } : DmaAccess))
  let out := fun (k : DmaStep) (o m : Nat) => if x.dstQ.isSome then [{ step := k, addr := x.dst, len := m }] else acc k (accesses df (at_ df x.dst o) m x.esize)
  let units := if sf || x.esize == 8 then (upto (n / x.esize)).map (fun i => (x.esize * i, x.esize))
    else (splitWords n (at_ sf x.src 0) n).map (fun p => (p.1 - at_ sf x.src 0, p.2))
  if x.mode = 1 ∨ x.item.isSome then out .write 0 n
  else units.flatMap (fun u => acc .read (accesses sf (at_ sf x.src u.1) u.2 x.esize) ++ out (if x.mode = 2 then .second else .write) u.1 u.2)

/-- What has been read of both ranges is compared (R427). -/
def State.chanCompare (s : State) (c : Nat) : State :=
  let x := s.chan c
  if x.buf.length ≠ x.buf2.length then s
  else
    let es := (elements x.esize x.buf).zip (elements x.esize x.buf2)
    let diff := ((upto es.length).zip es).filter (fun p => p.2.1 != p.2.2)
    s.modChan c (fun y => { y with
      mismatch := min 0xFFFFFFFF (y.mismatch + diff.length),
      firstDiff := match y.firstDiff with
        | some o => some o
        | none => diff.head?.map (fun p => x.done + x.esize * p.1),
      done := y.done + y.buf.length, buf := [], buf2 := [] })

/-- A read access of channel `c`, with the errors that its word of the CFS meets (R163, R164, R436). -/
def State.chanLoad (s : State) (c : Nat) (t : DmaTarget) (a n : Nat) : Option (List Byte) × State :=
  if t = .cells then
    let cell := (a - 0x20000000) / 256
    let w := a % 256 / 8
    let mine := fun (u : Nat × Nat × Nat) => u.1 == cell && u.2.1 == w
    let x := s.chan c
    let e : ReadErrs := { ce := x.err.ce.filter (· == cell), ue := x.err.ue.filter mine }
    let k := e.ue.length + (s.struck (fun i j => i == cell && j == w)).ue.length
    let s := ((s.readErrs e [cell]).when (k != 0) (·.chanUe c k)).modChan c (fun x => { x with
      err := { x.err with ce := x.err.ce.filter (· != cell), ue := x.err.ue.filter (fun u => !mine u) } })
    s.dmaLoad t a n
  else s.dmaLoad t a n

/-- The next access of the burst of channel `c` (R426-R428, R435). -/
def State.chanAccess (s : State) (c : Nat) : State :=
  let x := s.chan c
  match x.todo with
  | [] => s
  | a :: rest =>
    let s := s.modChan c (fun x => { x with todo := rest })
    let wrote := fun (s : State) => s.modChan c (fun x => { x with done := x.done + a.len, buf := x.buf.drop a.len })
    match a.step with
    | .read =>
      match s.chanLoad c (dmaTarget x.src) a.addr a.len with
      | (none, s) => s.chanBusErr c
      | (some bs, s) => s.modChan c (fun x => { x with buf := x.buf ++ bs })
    | .second =>
      match s.chanLoad c (dmaTarget x.dst) a.addr a.len with
      | (none, s) => s.chanBusErr c
      | (some bs, s) => (s.modChan c (fun x => { x with buf2 := x.buf2 ++ bs })).chanCompare c
    | .write =>
      match x.dstQ with
      | some q =>
        match s.chanPush c q (x.buf.take a.len) with
        | (false, s) => s.chanBusErr c
        | (true, s) => wrote s
      | none =>
        match s.dmaStore (dmaTarget x.dst) (s.bit (DMA.CH_CTL c) 8) a.addr (x.buf.take a.len) with
        | (false, s) => s.chanBusErr c
        | (true, s) => wrote s

/-- `n` accesses of the burst of channel `c`. -/
def State.chanRun (s : State) (c : Nat) : Nat → State
  | 0 => s
  | n + 1 => (s.chanAccess c).chanRun c n

/-- The accesses of the burst of channel `c` that are still to be made. -/
def State.chanRest (s : State) (c : Nat) : State := s.chanRun c (s.chan c).todo.length

/-- The accesses of channel `c` that the next on the control side waits for, and that one; a read of MGMT.MBX_POP takes the word above it
in the same stroke (R441). -/
def Channel.stroke (x : Channel) : Nat :=
  let lead := (x.todo.takeWhile (fun a => !x.onControl a)).length
  let pair : Bool := match x.todo.drop lead with
    | a :: b :: _ => decide (a.addr / 4 * 4 = MGMT.MBX_POP) && b.addr == MGMT.MBX_LEVEL && a.step != .write && b.step == a.step
    | _ => false
  lead + (if pair then 2 else 1)

/-- The channels with words of descriptors to read or write, those that have waited longest first. -/
def State.ctlOrder (s : State) : List Nat :=
  let waits := fun c => (s.chan c).ctlLeft != 0
  s.dma.ctl.filter waits ++ (upto 32).filter (fun c => waits c && !s.dma.ctl.contains c)

/-- A control cycle of the data-to-control queue (R438, R439): one access is served, descriptor fetches and write-backs ahead of burst
data. -/
def State.d2cCycle (s : State) : State :=
  let o := s.ctlOrder
  let s : State := { s with dma := { s.dma with ctl := o, order := s.dma.order.filter (fun c => !(s.chan c).todo.isEmpty) } }
  match o, s.dma.order.find? (fun c => !(s.chan c).flash) with
  | c :: _, _ => s.ctlWord c
  | [], some c => s.chanRun c (s.chan c).stroke
  | [], none => s

/-- The burst that channel `c` has been granted is set up: its accesses, in the order of grants where one lies on the control side, and the
flash's reads for it (R391, R420, R425-R428). -/
def State.chanBurst (s : State) (c : Nat) (err : ReadErrs) : State :=
  let x := s.chan c
  let n := min x.burst (x.total - x.done)
  let cut : Bool := match x.srcQ with
    | some q => x.item.isSome && x.done != 0 && s.popCut q
    | none => false
  if cut ∨ x.code = 1 then
    (match x.srcQ with
      | some q => s.when cut (fun s => s.setDelivered q ((s.delivered q).drop 1))
      | none => s).modChan c (fun x => { x with phase := .burst, code := 1 })
  else
    let buf := if x.mode = 1 then (List.replicate (n / x.esize) x.fillBytes).flatten else match x.item with
      | some bs => slice (bs ++ List.replicate 7 0) x.done n
      | none => []
    let flash := (x.mode != 1 && dmaTarget x.src == .flash) || (x.mode == 2 && dmaTarget x.dst == .flash)
    let s := s.modChan c (fun x => { x with phase := .burst, todo := x.program n, buf := buf, buf2 := [], err := err, flash := flash })
    let s := s.when flash (·.flashPush (.dmaRead c (s.bit (DMA.CH_CTL c) 8)))
    s.when ((s.chan c).todo.any (s.chan c).onControl) (fun s => { s with dma := { s.dma with order := s.dma.order ++ [c] } })

/-- A burst granted to channel `c` (R425, R428, R430): its pulse line drops, and a queue source claims its item first. -/
def State.chanGrant (s : State) (c : Nat) (err : ReadErrs) : State :=
  let x := s.chan c
  let p := s.getF (DMA.CH_CTL c) 3 2
  let line := fld (nth 0 x.words 0) 16 6
  let s : State := { s with dma := { s.dma with last := setNth s.dma.last p c } }
  let s : State := if x.flag 22 && !x.stalled then { s with dmaReq := s.dmaReq - fld s.dmaReq line 1 * 2 ^ line } else s
  match x.srcQ, x.item with
  | some q, none =>
    match s.chanPop c q err with
    | (false, s) => (s.chanBusErr c).modChan c (fun x => { x with phase := .burst })
    | (true, s) => if (s.chan c).stalled then s else s.chanBurst c {}
  | _, _ => s.chanBurst c err

/-! ### Completion (R432-R437) -/

/-- What the bursts of channel `c` and those granted before it have still to do is done (R432, R438). -/
def State.burstsTo (s : State) (c : Nat) : State :=
  let before := if s.dma.order.contains c then s.dma.order.takeWhile (· != c) else []
  let s := (s.each (before.filter (fun d => !(s.chan d).flash)) State.chanRest).chanRest c
  { s with dma := { s.dma with order := s.dma.order.filter (fun d => !(s.chan d).todo.isEmpty) } }

/-- The item that channel `c` has delivered whole is released (R145, R428). -/
def State.itemDone (s : State) (c : Nat) : State :=
  let x := s.chan c
  match x.srcQ with
  | some q => if x.item.isSome ∧ x.done = x.total ∧ (s.q q).items.any (·.claimed) then (match s.takeItem q with
      | some r => r.2
      | none => s) else s
  | none => s

/-- The write responses of the burst of channel `c` are in: the half event, then the next state (R432, R434, R437). -/
def State.burstDone (s : State) (c : Nat) : State :=
  let s := (s.burstsTo c).itemDone c
  let x := s.chan c
  let half := !x.halfRaised && decide (x.len / 2 ≤ x.done)
  let s := s.modChan c (fun x => { x with halfRaised := x.halfRaised || half })
  let s := s.when (half && s.bit (DMA.CH_CTL c) 5) (·.setBit (DMA.CH_EVT c) 0)
  if x.code = 4 then (s.chanItem c).modChan c (fun x => { x with phase := .drain })
  else if x.abort && x.code == 6 then s.chanOff c
  else if x.abort then s.chanStop c 5
  else if x.code = 1 ∨ x.done = x.total then s.modChan c (fun x => { x with phase := .drain, code := 1 })
  else s.modChan c (fun x => { x with phase := .wait })

/-- Event line `c` pulses (R433): the enabled sample slots that name channel `c` take it (R273). -/
def State.eventLine (s : State) (c : Nat) : State :=
  let js := (upto 8).filter (fun j => s.bit (PRES.FRZ_CFG j) 31 && s.getF (PRES.FRZ_CFG j) 0 5 == c)
  { s with pres := { s.pres with compared := s.pres.compared ++ js.filter (fun j => !s.pres.compared.contains j) } }

/-- The descriptor of channel `c` ends: its status, the channel registers, the events, and NEXT (R421, R432-R435). The pulse on event line c
reaches the sample slots that name the channel (R273, R433). -/
def State.descriptorDone (s : State) (c : Nat) : State :=
  let s := s.ctlWords c (s.chan c).ctlLeft
  let x := s.chan c
  let s := ((s.putF (DMA.CH_STAT c) 28 4 x.code).wr (DMA.CH_RESIDUE c) (x.len - x.done)).wr (DMA.CH_MISMATCH c) x.mismatchWord
  let s := s.wr (DMA.CH_AUX c) x.aux
  let s := s.when (x.code == 1 && s.bit (DMA.CH_CTL c) 6) (·.setBit (DMA.CH_EVT c) 1)
  let s := s.when (x.code == 1 && s.bit (DMA.CH_CTL c) 7) (·.eventLine c)
  let s := s.when (x.code == 5) (·.inc DMA.ABORT_CNT)
  let s := s.when (x.code == 5 || x.code == 6 || x.abort) (·.setBit (DMA.CH_EVT c) 2)
  if (x.code = 1 ∨ x.code = 4) ∧ !x.flag 15 ∧ !x.abort then
    s.modChan c (fun _ => { phase := .fetch, cur := nth 0 x.words 4 })
  else s.modChan c (fun x => { cur := x.cur })

/-! ### Commands -/

/-- DMA_GO (R421): a write of `v` to CH_CTL[c] by master `m`. -/
def execDmaGo (c : Fin 32) (m : Master) (v : Word) (s : State) : Host.Outcome State Fault Refusal :=
  .next (s.busWrite m (DMA.CH_CTL c) v.toNat).2

/-- DMA_ABORT (R434): a write of `v` to CH_CTL[c] by master `m`. -/
def execDmaAbort (c : Fin 32) (m : Master) (v : Word) (s : State) : Host.Outcome State Fault Refusal :=
  .next (s.busWrite m (DMA.CH_CTL c) v.toNat).2

/-- DESCRIPTOR_FETCH_DONE (R422, R423). -/
def execDescriptorFetchDone (c : Fin 32) (s : State) : Host.Outcome State Fault Refusal :=
  .next (if (s.chan c).phase = .fetch then s.fetchDone c else s)

/-- DMA_BURST_GRANT (R425): the arbiter grants the next burst, whose reads of the CFS meet the errors `err`. -/
def execDmaBurstGrant (err : ReadErrs) (s : State) : Host.Outcome State Fault Refusal :=
  match s.arbiter with
  | none => .next s
  | some c => .next (s.chanGrant c err)

/-- DMA_BURST_DONE (R432): not before the flash has served the burst (R391). -/
def execDmaBurstDone (c : Fin 32) (s : State) : Host.Outcome State Fault Refusal :=
  .next (if (s.chan c).phase = .burst ∧ !(s.chan c).flash then s.burstDone c else s)

/-- DESCRIPTOR_COMPLETE (R432-R435). -/
def execDescriptorComplete (c : Fin 32) (s : State) : Host.Outcome State Fault Refusal :=
  .next (if (s.chan c).phase = .drain then s.descriptorDone c else s)

/-- DMA_SW_REQUEST (R430): a write of DMA.SW_REQ by master `m`. -/
def execDmaSwRequest (m : Master) (v : Word) (s : State) : Host.Outcome State Fault Refusal := .next (s.busWrite m DMA.SW_REQ v.toNat).2

/-- The bytes that the burst of channel `c` has still to write up to `n` of LEN, as accesses (R437). -/
def Channel.confirmed (x : Channel) (n : Nat) : Nat :=
  let ends := x.todo.foldl (fun (l : List (Nat × Nat)) a =>
    let p := (l.head?.getD (0, x.done)).2 + (if a.step = .read then 0 else a.len)
    ((l.length + 1, p) :: l)) []
  ((ends.find? (fun e => decide (e.2 ≤ n))).map (·.1)).getD 0

/-- DMA_DOMAIN_OFF_TIMEOUT (R437): 50 µs have passed within a burst of channel `c`, of whose bytes `confirmed` are known to be
written; the other accesses have no effect. -/
def execDmaDomainOffTimeout (c : Fin 32) (confirmed : Nat) (s : State) : Host.Outcome State Fault Refusal :=
  let x := s.chan c
  if x.phase = .burst ∧ x.abort ∧ x.code = 6 then .next ((s.chanRun c (x.confirmed confirmed)).chanOff c)
  else .next s

/-- BRIDGE_RETRY_TIMEOUT (R442): the aperture access `x` has waited 2 µs for port 31. -/
def execBridgeRetryTimeout (x : C2dAccess) (s : State) : Host.Outcome State Fault Refusal :=
  if !s.domOn 1 ∨ x.addr < 0x20000000 ∨ 0x23000000 ≤ x.addr ∨ x.master = .dma then .next s
  else
    let s := (s.inc BRG.RETRY_CNT).setBit BRG.EVT 0
    .next (if s.dma.retries.contains x then s else { s with dma := { s.dma with retries := s.dma.retries ++ [x] } })

/-- BRIDGE_ACCESS_REPEAT (R442): the oldest access that was given a retry is repeated and served. -/
def execBridgeAccessRepeat (s : State) : Host.Outcome State Fault Refusal :=
  match s.dma.retries with
  | [] => .next s
  | x :: rest =>
    let s : State := { s with dma := { s.dma with retries := rest } }
    match x.write with
    | some v => .next ((s.busWrite x.master x.addr v.toNat).2.answer 0 [])
    | none =>
      match s.busRead x.master x.addr with
      | (some w, s) => .next (s.answer 0 [BitVec.ofNat 32 w])
      | (none, s) => .next (s.answer 5 [])

/-- An exclusive read by master `m` (R440): the semaphore is taken if it is free. -/
def State.exRead (s : State) (m : Master) (addr : Nat) : Option Nat × State :=
  let a := addr / 4 * 4
  match s.busRead m a with
  | (none, s) => (none, s)
  | (some w, s) =>
    if s.domOn 1 && (Map.get none s.dma.sems (semOf a)).isNone then
      (some w, { s with dma := { s.dma with sems := Map.set none s.dma.sems (semOf a) (some (m, a)) } })
    else (some w, s)

/-- An exclusive write by master `m` (R440): performed where `m` holds the semaphore with this address; the status of R536. -/
def State.exWrite (s : State) (m : Master) (addr v : Nat) : Nat × State :=
  let a := addr / 4 * 4
  if !s.domOn 1 then (0, s)
  else if Map.get none s.dma.sems (semOf a) = some (m, a) then
    let r := s.storeWord m a v
    (if r.1 then 0 else 5, { r.2 with dma := { r.2.dma with sems := Map.set none r.2.dma.sems (semOf a) none } })
  else (6, (s.inc BRG.EXFAIL_CNT).setBit BRG.EVT 1)

/-- The master of an exclusive access outside SPI transactions' own commands: the cores or the SPI target (R440). -/
def exMaster (core : Bool) : Master := if core then .core else .spi

/-- EXCLUSIVE_READ (R440). -/
def execExclusiveRead (core : Bool) (addr : Word) (s : State) : Host.Outcome State Fault Refusal :=
  match s.exRead (exMaster core) addr.toNat with
  | (some w, s) => .next (s.answer 0 [BitVec.ofNat 32 w])
  | (none, s) => .next (s.answer 5 [])

/-- EXCLUSIVE_WRITE (R440). -/
def execExclusiveWrite (core : Bool) (addr v : Word) (s : State) : Host.Outcome State Fault Refusal :=
  let r := s.exWrite (exMaster core) addr.toNat v.toNat
  .next (r.2.answer r.1 [])

/-- SEMAPHORE_TIMEOUT (R440): semaphore `i` has been held for 256 control cycles without its write. -/
def execSemaphoreTimeout (i : Fin 16) (s : State) : Host.Outcome State Fault Refusal :=
  if (Map.get none s.dma.sems i).isNone then .next s
  else .next ((({ s with dma := { s.dma with sems := Map.set none s.dma.sems i none } } : State).inc BRG.SEM_TO_CNT).setBit BRG.EVT 2)

/-- SEMAPHORE_RELEASE (R444): a write of BRG.SEM_REL by master `m`. -/
def execSemaphoreRelease (m : Master) (v : Word) (s : State) : Host.Outcome State Fault Refusal := .next (s.busWrite m BRG.SEM_REL v.toNat).2

end Sys2Proof.Machine
end

