-- ==== Sys2Proof/Machine/Firmware.lean ====
section
/-! DEFINITION. The start of the firmware when the early section is verified (R384, R402 step 5). -/

namespace Sys2Proof.Machine

/-- The boot scene (R403): at position 0 LAST_SCENE where it is VALID and the image holds that scene there, else the
default scene of the device configuration. -/
def State.bootScene (s : State) (b : Nat) (cfg : DeviceConfig) : Nat :=
  let all := s.earlySections b ++ s.mainSections b (s.imageHeader b)
  let n := s.getF PWR.LAST_SCENE 0 3
  if s.position == 0 && s.bit PWR.LAST_SCENE 31 && all.any (fun x => x.type == 2 && x.id % 256 == n && x.id / 16777216 == 0) then n else cfg.defaultScene

/-- The early section takes effect (R384, R392): its sections, the device configuration (log entry 20), the firmware in control
RAM under write protection, the registers the configuration names. -/
def State.loadEarly (s : State) (b : Nat) (cfg : DeviceConfig) : State :=
  let secs := s.earlySections b
  let h := s.imageHeader b
  let code := match secs.find? (fun x => x.type == 1) with
    | some x => s.flashRead (s.bankBase + x.offset) x.length
    | none => []
  let s := s.modNvm (fun n => { n with sections := secs, config := cfg, chainLen := leAt h 32 1, keyWaitOver := false })
  let s := ((s.wr NVM.IMAGE_VER (leAt h 12 4)).setBit NVM.STAT 2).modPower (fun p => { p with firmware := true })
  let s : State := { s with scripts := cfg.scripts, dma := { s.dma with ram := Memory.write s.dma.ram 0 (code.take 0x40000), codeEnd := cfg.codeEnd } }
  let s := s.each cfg.regs (fun s p => if imageOnly p.1 then s.imageWrite p.1 p.2.toNat else (s.busWrite .core p.1 p.2.toNat).2)
  s.each cfg.locked (fun s c => s.putBit (DMA.CH_CTL c) 8 true)

/-- The watchdog as the boot ROM enables it and the firmware sets it (R513). -/
def State.startWatchdog (s : State) (cfg : DeviceConfig) : State :=
  (s.wr PWR.WDT_CFG (2 ^ 31 + 65536 + max 100 (min 10000 cfg.wdtMs))).modPower (fun p => { p with wdtFrom := s.now, wdtWarned := false })

/-- What the firmware takes from the life journal (R404, R456, R466, R467, R478, R489): the marks of R451, the results of the last key-off,
the key, and, after a power-on reset, the setpoint. -/
def State.useJournal (s : State) : State :=
  let s := s.memMarks
  let s := s.each (upto 26) (fun s u =>
    s.wr (BIST.UNIT_RES u) (match s.alm.keyoffRes with
      | [] => 0
      | vs => 2 ^ 31 + nth 0 vs u))
  let s := (s.wr BIST.KEYOFF_TIME s.nvm.keyoffUs).putF ALM.STAT 8 2 s.alm.grade
  let s := s.when s.power.fresh (fun s => (s.modPower (fun p => { p with fresh := false })).restoreMv s.alm.jrnlMv)
  s.unwrapKey

/-- The firmware's read of the journal ends, after `fails` failed attempts (R374, R402 step 5, R404): the third is a flash error, and the
firmware goes on without records. -/
def State.journalIn (s : State) (fails : Nat) : State :=
  let s := (s.incBy NVM.RETRY_CNT (min 2 fails)).flashDrop (fun o => o == .journalRead)
  let s := if fails < 3 then s.readJournal else (s.flashError (s.nvm.bank.getD 0) 2).modAlm (fun a => a.load [] [])
  let s := (s.modPower (fun p => { p with journal := true })).useJournal
  (s.modSched (fun x => { x with bootVariant := s.journalVariant })).bootAgain

/-- The early section as it lies in the flash has the digest it was verified with (R385). -/
def State.earlyAgrees (s : State) : Bool :=
  match s.nvm.bank with
  | none => false
  | some b =>
    let h := s.imageHeader b
    Config.sha256 (s.flashRead (bankAddr b + 4096) (le (slice h 20 4))) == slice h 40 32

/-- The fetch of R454 ends, after `fails` failed attempts (R374, R385): with a digest that does not match, twice, or a flash error, its
data is not used, and neither is the early-view set it belongs to. -/
def State.refetchIn (s : State) (fails : Nat) : State :=
  let s := (s.incBy NVM.RETRY_CNT (min 2 fails)).flashDrop (fun o => o == .refetch)
  let s :=
    if 3 ≤ fails then (s.flashError (s.nvm.bank.getD 0) 2).modPower (fun p => { p with earlyBad := true })
    else if s.earlyAgrees then s.deliverTables
    else ((s.inc NVM.FETCH_ERR_CNT).setBit NVM.EVT 2).modPower (fun p => { p with earlyBad := true })
  s.bootAgain

/-- EARLY_SECTION_VERIFIED (R384, R392, R402 step 5, R403, R450): the firmware starts, and reads the journal; data for memories whose test
has ended is written as it is read (R454). `cfg` is the device configuration of the early section, whose layout the spec does not give
(log entry 20). After a fatal key-on failure no firmware starts. It comes when step 2 of R402 has ended. -/
def execEarlySectionVerified (cfg : DeviceConfig) (s : State) : Host.Outcome State Fault Refusal :=
  match s.nvm.bank with
  | none => .next s
  | some b =>
    if s.power.phase ≠ .running ∨ s.power.firmware ∨ s.power.coresHalted ∨ !(upto 8).all s.domOn then .next s
    else if s.bit BIST.STAT 7 then .next (s.setBit NVM.STAT 2)
    else
      let scene := s.bootScene b cfg
      let s := ((s.loadEarly b cfg).bootMark 0).startWatchdog cfg
      let s := ((s.flashPush .mainPass).flashPush .journalRead).modSched (fun x => { x with wantScene := scene })
      .next (s.when s.bist.memDone State.deliverTables)

/-- The flash has served a burst of channel `c`, after `fails` failed attempts (R374, R420): the third is a flash error, with which the reads
end as in a bus error. DEDUCED (log entry 214). -/
def State.dmaReadIn (s : State) (c fails : Nat) : State :=
  let s := (s.incBy NVM.RETRY_CNT (min 2 fails)).flashChange (fun s => match s.flashRun with
    | some j => s.modNvm (fun n => { n with ops := n.ops.filter (fun x => x.id != j.id) })
    | none => s)
  let s := s.modChan c (fun x => { x with flash := false })
  if fails < 3 then s
  else
    let s := s.flashError (s.nvm.bank.getD 0) 2
    if (s.chan c).phase = .burst then s.chanBusErr c else s

/-- FLASH_OP_DONE (R374, R391): the operation being served completes, after `fails` failed attempts of a read; while a COMMIT is
read back and nothing else is served, a read of the read-back. -/
def execFlashOpDone (fails : Fin 4) (s : State) : Host.Outcome State Fault Refusal :=
  match (s.flashRun.map FlashJob.op : Option FlashOp) with
  | some .journalRead => .next (s.journalIn fails)
  | some .refetch => .next (s.refetchIn fails)
  | some (.dmaRead c _) => .next (s.dmaReadIn c fails)
  | _ => .next (s.flashDone fails)

end Sys2Proof.Machine
end

