-- ==== Sys2Proof/Machine/Host.lean ====
section
/-! DEFINITION. The SPI target (R524-R529) and management requests (R530-R535). -/

namespace Sys2Proof.Machine

/-! ### Runs of words -/

/-- The address of the word after the one at `a`: the same one where the address is held (R525, R531). -/
def nextAddr (fixed : Bool) (a : Nat) : Nat := if fixed then a else (a + 4) % 2 ^ 32

/-- Up to `n` words read by master `m` from `a` on, and whether every one was read: the first failing word ends it (R527, R533). -/
def State.readWords (s : State) (m : Master) (fixed : Bool) (a : Nat) : Nat → List Word × Bool × State
  | 0 => ([], true, s)
  | n + 1 =>
    match s.busRead m a with
    | (none, s) => ([], false, s)
    | (some w, s) =>
      let r := s.readWords m fixed (nextAddr fixed a) n
      (BitVec.ofNat 32 w :: r.1, r.2)

/-- Words written by master `m` from `a` on: how many were performed before the first failing one, and whether all were
(R533). -/
def State.writeWords (s : State) (m : Master) (fixed : Bool) (a : Nat) : List Word → Nat × Bool × State
  | [] => (0, true, s)
  | v :: vs =>
    match s.busWrite m a v.toNat with
    | (false, s) => (0, false, s)
    | (true, s) =>
      let r := s.writeWords m fixed (nextAddr fixed a) vs
      (r.1 + 1, r.2)

/-! ### The SPI target (R524-R529) -/

/-- Every SPI transaction is a host access (R401). -/
def State.spiSeen (s : State) : State := s.modPower (fun p => { p with hostAt := s.now })

/-- The SPI target answers (R397, R529). -/
def State.spiServes (s : State) : Bool := s.power.phase == .running && s.power.spiReady

/-- The SPI transaction changed by `f`. -/
def State.modSpi (s : State) (f : SpiLine → SpiLine) : State := s.modMgmt (fun m => { m with spi := f m.spi })

/-- An SPI transaction served by `f`; one that is not served returns `n` words of 0 (R397). -/
def State.spiRun (s : State) (n : Nat) (f : State → State) : State :=
  let s := s.spiSeen.modSpi (fun _ => {})
  if s.spiServes then f s else s.answer 0 (List.replicate n 0)

/-- An SPI error is counted (R525, R527, R528). -/
def State.spiErr (s : State) : State := (s.inc MGMT.SPI_ERR_CNT).setBit MGMT.EVT 2

/-- The target drives a word `w` behind the token `tok` (R526, R527): the wait bytes before it, from 1 to 255, are a free number (log
entry 1). -/
def State.drive (s : State) (tok w : Nat) : State :=
  let (v, s) := s.fresh
  s.modSpi (fun x => { x with miso := x.miso ++ List.replicate (1 + v % 255) 0 ++ [BitVec.ofNat 8 tok] ++ beBytes 4 w })

/-- A read ends in a bus error: its token, and 0xFF from then on (R527). -/
def State.spiBusErr (s : State) : State := (s.spiErr.drive 0x5A 5).modSpi (fun x => { x with fill := 0xFF })

/-- The oldest posted write is performed, and its status is kept (R528, R529). -/
def State.postedDone (s : State) : State :=
  match s.mgmt.posted with
  | [] => s
  | w :: rest =>
    let s := s.modMgmt (fun m => { m with posted := rest })
    let r : Nat × State := if w.exclusive then s.exWrite .spi w.addr w.value.toNat
      else let r := s.busWrite .spi w.addr w.value.toNat
        (if r.1 then 0 else 5, r.2)
    r.2.modMgmt (fun m => { m with spiLast := r.1 })

/-- `n` posted writes are performed. -/
def State.postedDones (s : State) : Nat → State
  | 0 => s
  | n + 1 => s.postedDone.postedDones n

/-- A write word has been received: held, or discarded while four are held (R528). -/
def State.post (s : State) (w : PostedWrite) : State :=
  if 4 ≤ s.mgmt.posted.length then s.spiErr else s.modMgmt (fun m => { m with posted := m.posted ++ [w] })

/-- The words of a write, each after so many posted writes have been performed (R528). -/
def State.postAll (s : State) (fixed : Bool) (a : Nat) : List (Fin 5 × Word) → State
  | [] => s
  | (n, v) :: ws => ((s.postedDones n).post { addr := a, value := v }).postAll fixed (nextAddr fixed a) ws

/-- A write: a word that the end of the transaction cuts off is discarded (R528). -/
def State.spiWrite (s : State) (fixed : Bool) (a : Nat) (ws : List (Fin 5 × Word)) (cut : Bool) : State :=
  s.spiRun 0 (fun s => (s.postAll fixed a ws).when cut (·.spiErr))

/-- A read of which the host clocks `n` words: the first bus error ends it (R526, R527). -/
def State.spiRead (s : State) (fixed : Bool) (a n : Nat) : State :=
  s.spiRun n (fun s =>
    let r := s.readWords .spi fixed a n
    let s := (r.1.foldl (fun s w => s.drive 0xA5 w.toNat) r.2.2).modSpi (fun x => { x with reads := true, words := r.1 })
    if r.2.1 then s.answer 0 r.1 else s.spiBusErr.answer 5 r.1)

/-- The status byte (R529). -/
def State.spiStatus (s : State) : Nat :=
  128 * b2n s.spiServes + 8 * b2n (!s.mgmt.posted.isEmpty) + s.mgmt.spiLast

/-- SPI_WRITE (R525, R528): the words, each with the number of posted writes that are performed before it has arrived, and
whether a word is cut off. -/
def execSpiWrite (addr : Word) (ws : List (Fin 5 × Word)) (cut : Bool) (s : State) : Host.Outcome State Fault Refusal :=
  .next (s.spiWrite false (addr.toNat / 4 * 4) ws cut)

/-- SPI_READ (R525-R527): the host clocks for `n` words. -/
def execSpiRead (addr : Word) (n : Nat) (s : State) : Host.Outcome State Fault Refusal := .next (s.spiRead false (addr.toNat / 4 * 4) n)

/-- SPI_STATUS (R529): the status byte, over and over. -/
def execSpiStatus (s : State) : Host.Outcome State Fault Refusal :=
  .next (s.spiRun 1 (fun s => (s.answer 0 [BitVec.ofNat 32 s.spiStatus]).modSpi (fun x => { x with
    miso := [BitVec.ofNat 8 s.spiStatus], fill := BitVec.ofNat 8 s.spiStatus })))

/-- SPI_WRITE_FIXED (R525, R528). -/
def execSpiWriteFixed (addr : Word) (ws : List (Fin 5 × Word)) (cut : Bool) (s : State) : Host.Outcome State Fault Refusal :=
  .next (s.spiWrite true (addr.toNat / 4 * 4) ws cut)

/-- SPI_READ_FIXED (R525-R527). -/
def execSpiReadFixed (addr : Word) (n : Nat) (s : State) : Host.Outcome State Fault Refusal := .next (s.spiRead true (addr.toNat / 4 * 4) n)

/-- SPI_EXCL_WRITE (R440, R528, R529): its word, or none where the end of the transaction cuts it off. -/
def execSpiExclWrite (addr : Word) (v : Option Word) (s : State) : Host.Outcome State Fault Refusal :=
  .next (s.spiRun 0 (fun s => match v with
    | some v => s.post { addr := addr.toNat / 4 * 4, value := v, exclusive := true }
    | none => s.spiErr))

/-- SPI_EXCL_READ (R440, R526, R527, R529). -/
def execSpiExclRead (addr : Word) (s : State) : Host.Outcome State Fault Refusal :=
  .next (s.spiRun 1 (fun s => match s.exRead .spi addr.toNat with
    | (some w, s) => ((s.drive 0xA5 w).answer 0 [BitVec.ofNat 32 w]).modMgmt (fun m => { m with spiLast := 0 })
    | (none, s) => (s.spiBusErr.answer 5 []).modMgmt (fun m => { m with spiLast := 5 })))

/-- SPI_RESERVED_COMMAND (R525). -/
def execSpiReservedCommand (s : State) : Host.Outcome State Fault Refusal := .next (s.spiRun 0 State.spiErr)

/-- SPI_READ_TIMEOUT (R527): a word is not ready after 255 wait bytes. Where the last transaction was a read, it is that read's next word.
DESIGN CHOICE (log entry 216). -/
def execSpiReadTimeout (s : State) : Host.Outcome State Fault Refusal :=
  let x : SpiLine := if s.mgmt.spi.reads && s.mgmt.spi.fill == 0 then s.mgmt.spi else {}
  .next (s.spiRun 0 (fun s => (s.spiErr.answer 4 x.words).modSpi (fun _ =>
    { words := x.words, miso := x.miso ++ List.replicate 255 0 ++ [0x5A] ++ beBytes 4 4, fill := 0xFF })))

/-- POSTED_WRITE_DONE (R528). -/
def execPostedWriteDone (s : State) : Host.Outcome State Fault Refusal := .next (s.when s.spiServes State.postedDone)

/-! ### Management requests (R530-R534, R542) -/

/-- ADDR, COUNT and FLAGS.FIXED of a READ or WRITE body (R531). -/
def MgmtReq.addr (r : MgmtReq) : Nat := be (slice r.body 0 4) / 4 * 4

@[inherit_doc MgmtReq.addr] def MgmtReq.count (r : MgmtReq) : Nat := be (slice r.body 4 2)

@[inherit_doc MgmtReq.addr] def MgmtReq.fixed (r : MgmtReq) : Bool := bitOf (be (slice r.body 6 2)) 0

/-- The words of a body, from byte `i` on. -/
def MgmtReq.words (r : MgmtReq) (i : Nat) : List Word :=
  (upto ((r.body.length - i) / 4)).map (fun k => BitVec.ofNat 32 (be (slice r.body (i + 4 * k) 4)))

/-- The body has the form that the operation asks for (R531, R532). -/
def MgmtReq.bodyFits (r : MgmtReq) : Bool :=
  let n := r.body.length
  let counted := decide (8 ≤ n) && decide (1 ≤ r.count) && decide (r.count ≤ 1024)
  if r.op = 1 then counted && n == 8
  else if r.op = 2 then counted && n == 8 + 4 * r.count
  else decide (4 ≤ n) && n == 4 + 4 * fld (nth 0 (r.words 0) 0).toNat 0 12 && decide (n ≤ 4 + 4 * 1026)

/-- A unicast READ, WRITE or MBX that R532 answers with no INVALID. -/
def MgmtReq.valid (r : MgmtReq) : Bool :=
  !r.broadcast && r.version == 1 && r.sized && decide (1 ≤ r.op) && decide (r.op ≤ 3) && r.bodyFits

/-- While MGMT.CTL.LEARN is 1 HOST_ADDR follows the requests (R534). -/
def State.learn (s : State) (src : List Byte) : State :=
  if s.bit MGMT.CTL 1 then (s.wr MGMT.HOST_ADDR_HI (be src / 2 ^ 32)).wr MGMT.HOST_ADDR_LO (be src % 2 ^ 32) else s

/-- The stored response, if the request is the last one executed (R533). -/
def State.storedFor (s : State) (r : MgmtReq) : Option (List Byte) :=
  match s.mgmt.stored with
  | none => none
  | some (src, seq, f) => if src = r.src ∧ seq = r.seq then some f else none

/-- The oldest management frame, if it is a valid request with operation `op`, is executed by `f`, or, repeated, answered from
store (R532, R533). -/
def State.mfRun (s : State) (op : Nat) (f : MgmtReq → State → State) : State :=
  match s.mgmtHead with
  | none => s
  | some r =>
    if !r.valid || r.op != op || s.power.phase != .running then s
    else
      let s := s.mgmtPop.learn r.src
      match s.storedFor r with
      | some resp => (s.inc MGMT.MF_DUP_CNT).offer 0 resp
      | none => if s.mgmt.cmds.any (fun c => c.src == r.src && c.seq == r.seq) then s.inc MGMT.MF_DUP_CNT else f r s

/-- A READ (R531, R533). -/
def State.mfRead (r : MgmtReq) (s : State) : State :=
  let x := s.readWords .frame r.fixed r.addr r.count
  x.2.2.respondStored r.src 1 r.seq (if x.2.1 then 0 else 5) (x.1.flatMap (fun w => beBytes 4 w.toNat))

/-- A WRITE (R531, R533). -/
def State.mfWrite (r : MgmtReq) (s : State) : State :=
  let x := s.writeWords .frame r.fixed r.addr (r.words 8)
  x.2.2.respondStored r.src 2 r.seq (if x.2.1 then 0 else 5) (beBytes 2 x.1)

/-- An MBX: its command is queued, or BUSY (R542). -/
def State.mfMbx (r : MgmtReq) (s : State) : State :=
  if 4 ≤ s.mgmt.cmds.length then s.respond r.src 3 r.seq 3 []
  else s.modMgmt (fun m => { m with cmds := m.cmds ++ [{ words := r.words 0, src := r.src, seq := r.seq, at_ := s.time.dt }] })

/-- MF_READ (R531, R533). -/
def execMfRead (s : State) : Host.Outcome State Fault Refusal := .next (s.mfRun 1 State.mfRead)

/-- MF_WRITE (R531, R533). -/
def execMfWrite (s : State) : Host.Outcome State Fault Refusal := .next (s.mfRun 2 State.mfWrite)

/-- MF_MBX (R531, R533, R542). -/
def execMfMbx (s : State) : Host.Outcome State Fault Refusal := .next (s.mfRun 3 State.mfMbx)

/-- A management frame error is counted (R532). -/
def State.mfErr (s : State) : State := (s.inc MGMT.MF_ERR_CNT).setBit MGMT.EVT 3

/-- MF_INVALID_REQUEST (R532): the oldest management frame, if it is no valid request and no broadcast CHAIN frame of a CMD that R367 gives. A
broadcast CHAIN frame of another CMD or length does nothing. DEDUCED (log entry 217). -/
def execMfInvalidRequest (s : State) : Host.Outcome State Fault Refusal :=
  match s.mgmtHead with
  | none => .next s
  | some r =>
    let chain := match s.chainHead with
      | some m => m.cmd == 1 || m.cmd == 2
      | none => false
    if r.valid || chain || s.power.phase != .running then .next s
    else
      let s := s.mgmtPop
      .next (if r.broadcast then (if r.op = 5 then s else s.mfErr)
        else if r.op = 4 ∨ r.op = 5 then s
        else s.mfErr.respond r.src r.op r.seq 2 [])

end Sys2Proof.Machine
end

