-- ==== Sys2Proof/Machine/Dispatch.lean ====
section
/-! DEFINITION. The dispatch of commands to their meanings, one arm per row of spec/opcode_table.json. -/

namespace Sys2Proof.Machine

def exec (i : Instr) (s : State) : Host.Outcome State Fault Refusal :=
  match i with
  | .registerWrite m addr v => Sys2Proof.Machine.execRegisterWrite m addr v s
  | .eventClear m addr v hw => Sys2Proof.Machine.execEventClear m addr v hw s
  | .counterClear m addr v events => Sys2Proof.Machine.execCounterClear m addr v events s
  | .offDomainAccess m addr v => Sys2Proof.Machine.execOffDomainAccess m addr v s
  | .switchSlot q => Sys2Proof.Machine.execSwitchSlot q s
  | .linkEnable n v => Sys2Proof.Machine.execLinkEnable n v s
  | .linkDisable n v => Sys2Proof.Machine.execLinkDisable n v s
  | .linkRetrain n v => Sys2Proof.Machine.execLinkRetrain n v s
  | .trainHoldEnd n => Sys2Proof.Machine.execTrainHoldEnd n s
  | .ftsDetected n => Sys2Proof.Machine.execFtsDetected n s
  | .adaptSettled n ctle eye taps => Sys2Proof.Machine.execAdaptSettled n ctle eye taps s
  | .forwardIdleArrive n => Sys2Proof.Machine.execForwardIdleArrive n s
  | .commaLock n => Sys2Proof.Machine.execCommaLock n s
  | .alignComplete n => Sys2Proof.Machine.execAlignComplete n s
  | .trainTimeout n => Sys2Proof.Machine.execTrainTimeout n s
  | .lossOfSignal n => Sys2Proof.Machine.execLossOfSignal n s
  | .alignmentLoss n inPacket => Sys2Proof.Machine.execAlignmentLoss n inPacket s
  | .tapUpdate n t sum => Sys2Proof.Machine.execTapUpdate n t sum s
  | .ctleStep n lo hi => Sys2Proof.Machine.execCtleStep n lo hi s
  | .eqFreeze n => Sys2Proof.Machine.execEqFreeze n s
  | .eqResume n => Sys2Proof.Machine.execEqResume n s
  | .eidleEntry n => Sys2Proof.Machine.execEidleEntry n s
  | .eidleExit n k287At d102 aligned => Sys2Proof.Machine.execEidleExit n k287At d102 aligned s
  | .eidleTimeout n => Sys2Proof.Machine.execEidleTimeout n s
  | .frameStartPacket n p => Sys2Proof.Machine.execFrameStartPacket n p s
  | .frameEndPacket n p => Sys2Proof.Machine.execFrameEndPacket n p s
  | .videoLinePacket n p => Sys2Proof.Machine.execVideoLinePacket n p s
  | .embeddedLinePacket n p => Sys2Proof.Machine.execEmbeddedLinePacket n p s
  | .sensorStatusPacket n p => Sys2Proof.Machine.execSensorStatusPacket n p s
  | .bcResponsePacket n p => Sys2Proof.Machine.execBcResponsePacket n p s
  | .keepaliveDue n => Sys2Proof.Machine.execKeepaliveDue n s
  | .bcPacketComplete n => Sys2Proof.Machine.execBcPacketComplete n s
  | .bcReqGo n v => Sys2Proof.Machine.execBcReqGo n v s
  | .bcRequestTimeout n tag => Sys2Proof.Machine.execBcRequestTimeout n tag s
  | .linkLoopbackSelect n v => Sys2Proof.Machine.execLinkLoopbackSelect n v s
  | .loopbackReturnTimeout n => Sys2Proof.Machine.execLoopbackReturnTimeout n s
  | .soundStart n v => Sys2Proof.Machine.execSoundStart n v s
  | .soundingDone n samples => Sys2Proof.Machine.execSoundingDone n samples s
  | .soundingAbort n taken => Sys2Proof.Machine.execSoundingAbort n taken s
  | .ppFrameStart p clocks => Sys2Proof.Machine.execPpFrameStart p clocks s
  | .ppLineRun p clocks => Sys2Proof.Machine.execPpLineRun p clocks s
  | .ppFrameEnd x => Sys2Proof.Machine.execPpFrameEnd x s
  | .ppAbsent p => Sys2Proof.Machine.execPpAbsent p s
  | .frameOpenTime x => Sys2Proof.Machine.execFrameOpenTime x s
  | .lineDeadline n e l => Sys2Proof.Machine.execLineDeadline n e l s
  | .lineWriteSlot n r => Sys2Proof.Machine.execLineWriteSlot n r s
  | .frameCloseTime n => Sys2Proof.Machine.execFrameCloseTime n s
  | .feTableWrite n dpc ix v => Sys2Proof.Machine.execFeTableWrite n dpc ix v s
  | .itemPush q port bytes x => Sys2Proof.Machine.execItemPush q port bytes x s
  | .itemCommit x => Sys2Proof.Machine.execItemCommit x s
  | .queuePop q port err => Sys2Proof.Machine.execQueuePop q port err s
  | .stalledPopServe q err => Sys2Proof.Machine.execStalledPopServe q err s
  | .popCancel q => Sys2Proof.Machine.execPopCancel q s
  | .itemRelease x => Sys2Proof.Machine.execItemRelease x s
  | .deferredMarkerWrite x => Sys2Proof.Machine.execDeferredMarkerWrite x s
  | .queueFlush v => Sys2Proof.Machine.execQueueFlush v s
  | .flushWalkDone stop => Sys2Proof.Machine.execFlushWalkDone stop s
  | .auditPassEnd x => Sys2Proof.Machine.execAuditPassEnd x s
  | .scrubRead ce ue => Sys2Proof.Machine.execScrubRead ce ue s
  | .scrubWriteback c => Sys2Proof.Machine.execScrubWriteback c s
  | .watermarkWrite q high v => Sys2Proof.Machine.execWatermarkWrite q high v s
  | .apertureRead m x => Sys2Proof.Machine.execApertureRead m x s
  | .apertureWrite m o v => Sys2Proof.Machine.execApertureWrite m o v s
  | .taskStart k task => Sys2Proof.Machine.execTaskStart k task s
  | .paramCopyDone k x => Sys2Proof.Machine.execParamCopyDone k x s
  | .intakeItemTake k task => Sys2Proof.Machine.execIntakeItemTake k task s
  | .watchdogCancel k task => Sys2Proof.Machine.execWatchdogCancel k task s
  | .programStart k task t0 => Sys2Proof.Machine.execProgramStart k task t0 s
  | .taskEnd k task => Sys2Proof.Machine.execTaskEnd k task s
  | .hostCommit k v => Sys2Proof.Machine.execHostCommit k v s
  | .contextWrite k x o v => Sys2Proof.Machine.execContextWrite k x o v s
  | .debugHalt k v => Sys2Proof.Machine.execDebugHalt k v s
  | .ctrlWriteDeliver k => Sys2Proof.Machine.execCtrlWriteDeliver k s
  | .vnop k e => Sys2Proof.Machine.execVnop k e s
  | .vadd k e o => Sys2Proof.Machine.execVadd k e o s
  | .vaddu k e o => Sys2Proof.Machine.execVaddu k e o s
  | .vsub k e o => Sys2Proof.Machine.execVsub k e o s
  | .vsubu k e o => Sys2Proof.Machine.execVsubu k e o s
  | .vmin k e o => Sys2Proof.Machine.execVmin k e o s
  | .vmax k e o => Sys2Proof.Machine.execVmax k e o s
  | .vminu k e o => Sys2Proof.Machine.execVminu k e o s
  | .vmaxu k e o => Sys2Proof.Machine.execVmaxu k e o s
  | .vand k e o => Sys2Proof.Machine.execVand k e o s
  | .vor k e o => Sys2Proof.Machine.execVor k e o s
  | .vxor k e o => Sys2Proof.Machine.execVxor k e o s
  | .vmulq k e o => Sys2Proof.Machine.execVmulq k e o s
  | .vmuluq k e o => Sys2Proof.Machine.execVmuluq k e o s
  | .vshr k e o => Sys2Proof.Machine.execVshr k e o s
  | .vshl k e o => Sys2Proof.Machine.execVshl k e o s
  | .vld k e o => Sys2Proof.Machine.execVld k e o s
  | .vst k e o => Sys2Proof.Machine.execVst k e o s
  | .sld k e o => Sys2Proof.Machine.execSld k e o s
  | .vldo k e o => Sys2Proof.Machine.execVldo k e o s
  | .vsto k e o => Sys2Proof.Machine.execVsto k e o s
  | .vldb k e o => Sys2Proof.Machine.execVldb k e o s
  | .vgath k e o => Sys2Proof.Machine.execVgath k e o s
  | .vlut k e o => Sys2Proof.Machine.execVlut k e o s
  | .sldo k e o => Sys2Proof.Machine.execSldo k e o s
  | .ssto k e o => Sys2Proof.Machine.execSsto k e o s
  | .sadd k e sd ss => Sys2Proof.Machine.execSadd k e sd ss s
  | .ssub k e sd ss => Sys2Proof.Machine.execSsub k e sd ss s
  | .smov k e sd ss => Sys2Proof.Machine.execSmov k e sd ss s
  | .saddi k e o => Sys2Proof.Machine.execSaddi k e o s
  | .sandi k e o => Sys2Proof.Machine.execSandi k e o s
  | .sori k e o => Sys2Proof.Machine.execSori k e o s
  | .sshli k e o => Sys2Proof.Machine.execSshli k e o s
  | .sshri k e o => Sys2Proof.Machine.execSshri k e o s
  | .ssrai k e o => Sys2Proof.Machine.execSsrai k e o s
  | .slui k e o => Sys2Proof.Machine.execSlui k e o s
  | .smul k e o => Sys2Proof.Machine.execSmul k e o s
  | .sadd3 k e o => Sys2Proof.Machine.execSadd3 k e o s
  | .ssub3 k e o => Sys2Proof.Machine.execSsub3 k e o s
  | .br k e o => Sys2Proof.Machine.execBr k e o s
  | .brz k e o => Sys2Proof.Machine.execBrz k e o s
  | .brnz k e o => Sys2Proof.Machine.execBrnz k e o s
  | .brneg k e o => Sys2Proof.Machine.execBrneg k e o s
  | .loop k e o => Sys2Proof.Machine.execLoop k e o s
  | .pmov k e o => Sys2Proof.Machine.execPmov k e o s
  | .spmov k e o => Sys2Proof.Machine.execSpmov k e o s
  | .smode k e o => Sys2Proof.Machine.execSmode k e o s
  | .sstride k e o => Sys2Proof.Machine.execSstride k e o s
  | .endBundle k e => Sys2Proof.Machine.execEnd k e s
  | .xnop k e => Sys2Proof.Machine.execXnop k e s
  | .qlen k e o => Sys2Proof.Machine.execQlen k e o s
  | .qpop k e o => Sys2Proof.Machine.execQpop k e o s
  | .qpopResume k e x => Sys2Proof.Machine.execQpopResume k e x s
  | .emit k e o => Sys2Proof.Machine.execEmit k e o s
  | .emitLineWrite k idx line => Sys2Proof.Machine.execEmitLineWrite k idx line s
  | .ctrlw k e o => Sys2Proof.Machine.execCtrlw k e o s
  | .valu k e o => Sys2Proof.Machine.execValu k e o s
  | .vmac k e o => Sys2Proof.Machine.execVmac k e o s
  | .vmacu k e o => Sys2Proof.Machine.execVmacu k e o s
  | .vnarrow k e o => Sys2Proof.Machine.execVnarrow k e o s
  | .vnarrowu k e o => Sys2Proof.Machine.execVnarrowu k e o s
  | .vmulr k e o => Sys2Proof.Machine.execVmulr k e o s
  | .vmulru k e o => Sys2Proof.Machine.execVmulru k e o s
  | .vsplat k e o => Sys2Proof.Machine.execVsplat k e o s
  | .vcmp k e o => Sys2Proof.Machine.execVcmp k e o s
  | .vsel k e o => Sys2Proof.Machine.execVsel k e o s
  | .vred k e o => Sys2Proof.Machine.execVred k e o s
  | .vperm k e o => Sys2Proof.Machine.execVperm k e o s
  | .vext k e o => Sys2Proof.Machine.execVext k e o s
  | .vabsd k e o => Sys2Proof.Machine.execVabsd k e o s
  | .resultWriteback k e => Sys2Proof.Machine.execResultWriteback k e s
  | .garnetRangeStart old ix => Sys2Proof.Machine.execGarnetRangeStart old ix s
  | .garnetItemTake st => Sys2Proof.Machine.execGarnetItemTake st s
  | .garnetRangeEnd st => Sys2Proof.Machine.execGarnetRangeEnd st s
  | .garnetProofPush old ix => Sys2Proof.Machine.execGarnetProofPush old ix s
  | .frozenCompareResult j => Sys2Proof.Machine.execFrozenCompareResult j s
  | .drawMemoryWrite o v => Sys2Proof.Machine.execDrawMemoryWrite o v s
  | .pktRangeStart old ix => Sys2Proof.Machine.execPktRangeStart old ix s
  | .pktItemTake st stat => Sys2Proof.Machine.execPktItemTake st stat s
  | .pktRangeEnd st => Sys2Proof.Machine.execPktRangeEnd st s
  | .trailerRangeEnd st => Sys2Proof.Machine.execTrailerRangeEnd st s
  | .portEnable p v => Sys2Proof.Machine.execPortEnable p v s
  | .portDisable p v => Sys2Proof.Machine.execPortDisable p v s
  | .portCfgWrite p v => Sys2Proof.Machine.execPortCfgWrite p v s
  | .laneSettingsWrite p l r v => Sys2Proof.Machine.execLaneSettingsWrite p l r v s
  | .fastTimeout p => Sys2Proof.Machine.execFastTimeout p s
  | .trainingMarkerDetect p => Sys2Proof.Machine.execTrainingMarkerDetect p s
  | .anComplete p => Sys2Proof.Machine.execAnComplete p s
  | .portTrainTimeout p => Sys2Proof.Machine.execPortTrainTimeout p s
  | .portUp p lanes rx tx => Sys2Proof.Machine.execPortUp p lanes rx tx s
  | .portLinkLoss p => Sys2Proof.Machine.execPortLinkLoss p s
  | .linkFaultReceive p => Sys2Proof.Machine.execLinkFaultReceive p s
  | .portLoopbackSelect p v errs => Sys2Proof.Machine.execPortLoopbackSelect p v errs s
  | .ethFrameReceive p f fcsOk age => Sys2Proof.Machine.execEthFrameReceive p f fcsOk age s
  | .passthroughFrameReceive f fcsOk age => Sys2Proof.Machine.execPassthroughFrameReceive f fcsOk age s
  | .launchHandover old ix => Sys2Proof.Machine.execLaunchHandover old ix s
  | .launchFire ix => Sys2Proof.Machine.execLaunchFire ix s
  | .launchDeferredStart p => Sys2Proof.Machine.execLaunchDeferredStart p s
  | .unschedFrameStart p => Sys2Proof.Machine.execUnschedFrameStart p s
  | .timeCapture v => Sys2Proof.Machine.execTimeCapture v s
  | .syncReceive m age => Sys2Proof.Machine.execSyncReceive m age s
  | .followUpReceive dom seq ix => Sys2Proof.Machine.execFollowUpReceive dom seq ix s
  | .followUpTimeout dom seq => Sys2Proof.Machine.execFollowUpTimeout dom seq s
  | .announceReceive b => Sys2Proof.Machine.execAnnounceReceive b s
  | .pdelayReqReceive p seq req age => Sys2Proof.Machine.execPdelayReqReceive p seq req age s
  | .pdelayRespReceive p followUp seq t age => Sys2Proof.Machine.execPdelayRespReceive p followUp seq t age s
  | .pdelayInterval p => Sys2Proof.Machine.execPdelayInterval p s
  | .signalingReceive p sync pdelay capable => Sys2Proof.Machine.execSignalingReceive p sync pdelay capable s
  | .syncReceiptTimeout d => Sys2Proof.Machine.execSyncReceiptTimeout d s
  | .switchRequest v => Sys2Proof.Machine.execSwitchRequest v s
  | .suspectTimeout d => Sys2Proof.Machine.execSuspectTimeout d s
  | .asymWrite d v => Sys2Proof.Machine.execAsymWrite d v s
  | .triggerHandover e => Sys2Proof.Machine.execTriggerHandover e s
  | .ppTriggerAssert p => Sys2Proof.Machine.execPpTriggerAssert p s
  | .ppTriggerRelease p => Sys2Proof.Machine.execPpTriggerRelease p s
  | .swapRequest grade variant => Sys2Proof.Machine.execSwapRequest grade variant s
  | .stagingComplete loads => Sys2Proof.Machine.execStagingComplete loads s
  | .flashOpDone fails => Sys2Proof.Machine.execFlashOpDone fails s
  | .earlySectionVerified cfg => Sys2Proof.Machine.execEarlySectionVerified cfg s
  | .powerOnReset straps => Sys2Proof.Machine.execPowerOnReset straps s
  | .pgoodRise f => Sys2Proof.Machine.execPgoodRise f s
  | .keyoffRecordWritten f => Sys2Proof.Machine.execKeyoffRecordWritten f s
  | .dmaGo c m v => Sys2Proof.Machine.execDmaGo c m v s
  | .dmaAbort c m v => Sys2Proof.Machine.execDmaAbort c m v s
  | .descriptorFetchDone c => Sys2Proof.Machine.execDescriptorFetchDone c s
  | .dmaBurstGrant err => Sys2Proof.Machine.execDmaBurstGrant err s
  | .dmaBurstDone c => Sys2Proof.Machine.execDmaBurstDone c s
  | .descriptorComplete c => Sys2Proof.Machine.execDescriptorComplete c s
  | .dmaSwRequest m v => Sys2Proof.Machine.execDmaSwRequest m v s
  | .dmaDomainOffTimeout c confirmed => Sys2Proof.Machine.execDmaDomainOffTimeout c confirmed s
  | .bridgeRetryTimeout x => Sys2Proof.Machine.execBridgeRetryTimeout x s
  | .exclusiveRead core addr => Sys2Proof.Machine.execExclusiveRead core addr s
  | .exclusiveWrite core addr v => Sys2Proof.Machine.execExclusiveWrite core addr v s
  | .semaphoreTimeout ix => Sys2Proof.Machine.execSemaphoreTimeout ix s
  | .semaphoreRelease m v => Sys2Proof.Machine.execSemaphoreRelease m v s
  | .analoguePhaseDone r => Sys2Proof.Machine.execAnaloguePhaseDone r s
  | .memoryPhaseDone r => Sys2Proof.Machine.execMemoryPhaseDone r s
  | .zeroiseDone x => Sys2Proof.Machine.execZeroiseDone x s
  | .logicTestPairDone rs => Sys2Proof.Machine.execLogicTestPairDone rs s
  | .bistRun v => Sys2Proof.Machine.execBistRun v s
  | .bistAbort v => Sys2Proof.Machine.execBistAbort v s
  | .unitTestDone logic mem => Sys2Proof.Machine.execUnitTestDone logic mem s
  | .almSample r => Sys2Proof.Machine.execAlmSample r s
  | .avsRemeasure r => Sys2Proof.Machine.execAvsRemeasure r s
  | .rtcSet v => Sys2Proof.Machine.execRtcSet v s
  | .rebaseWrite v => Sys2Proof.Machine.execRebaseWrite v s
  | .domainRequest v => Sys2Proof.Machine.execDomainRequest v s
  | .domainPowerUpDone d => Sys2Proof.Machine.execDomainPowerUpDone d s
  | .domainPowerDownDone d => Sys2Proof.Machine.execDomainPowerDownDone d s
  | .domainReset v => Sys2Proof.Machine.execDomainReset v s
  | .domainRestore d => Sys2Proof.Machine.execDomainRestore d s
  | .wdtConfigWrite v => Sys2Proof.Machine.execWdtConfigWrite v s
  | .watchdogKick v => Sys2Proof.Machine.execWatchdogKick v s
  | .watchdogExpiry f => Sys2Proof.Machine.execWatchdogExpiry f s
  | .spiWrite addr ws cut => Sys2Proof.Machine.execSpiWrite addr ws cut s
  | .spiRead addr n => Sys2Proof.Machine.execSpiRead addr n s
  | .spiWriteFixed addr ws cut => Sys2Proof.Machine.execSpiWriteFixed addr ws cut s
  | .spiReadFixed addr n => Sys2Proof.Machine.execSpiReadFixed addr n s
  | .spiExclWrite addr v => Sys2Proof.Machine.execSpiExclWrite addr v s
  | .spiExclRead addr => Sys2Proof.Machine.execSpiExclRead addr s
  | .eventReport irq => Sys2Proof.Machine.execEventReport irq s
  | .mailboxPush v => Sys2Proof.Machine.execMailboxPush v s
  | .mailboxReset v => Sys2Proof.Machine.execMailboxReset v s
  | .snapshot m v => Sys2Proof.Machine.execSnapshot m v s
  | .symbolError n err wrong => Sys2Proof.Machine.execSymbolError n err wrong s
  | .fecCodewordError p uncorrectable => Sys2Proof.Machine.execFecCodewordError p uncorrectable s
  | .linkFaultClear p => Sys2Proof.Machine.execLinkFaultClear p s
  | .resetRelease straps f => Sys2Proof.Machine.execResetRelease straps f s
  | .statsRangeEnd st => Sys2Proof.Machine.execStatsRangeEnd st s
  | .journalWriteTimeout f => Sys2Proof.Machine.execJournalWriteTimeout f s
  | .lockstepMismatch => Sys2Proof.Machine.execLockstepMismatch s
  | .slotBoundary => Sys2Proof.Machine.execSlotBoundary s
  | .periodStart => Sys2Proof.Machine.execPeriodStart s
  | .storeInitDone => Sys2Proof.Machine.execStoreInitDone s
  | .passItemTake => Sys2Proof.Machine.execPassItemTake s
  | .passRangeEnd => Sys2Proof.Machine.execPassRangeEnd s
  | .relaySyncTransmit => Sys2Proof.Machine.execRelaySyncTransmit s
  | .relayTimeout => Sys2Proof.Machine.execRelayTimeout s
  | .gmSyncTransmit => Sys2Proof.Machine.execGmSyncTransmit s
  | .acqStepApply => Sys2Proof.Machine.execAcqStepApply s
  | .domainSwitch => Sys2Proof.Machine.execDomainSwitch s
  | .autoSelectTimeout => Sys2Proof.Machine.execAutoSelectTimeout s
  | .holdTimeout => Sys2Proof.Machine.execHoldTimeout s
  | .swapGoGuard => Sys2Proof.Machine.execSwapGoGuard s
  | .chainPrepSend => Sys2Proof.Machine.execChainPrepSend s
  | .chainPrepReceive => Sys2Proof.Machine.execChainPrepReceive s
  | .chainReadinessCheck => Sys2Proof.Machine.execChainReadinessCheck s
  | .chainCancelReceive => Sys2Proof.Machine.execChainCancelReceive s
  | .swapReport => Sys2Proof.Machine.execSwapReport s
  | .mainPassDone => Sys2Proof.Machine.execMainPassDone s
  | .commitDone => Sys2Proof.Machine.execCommitDone s
  | .powerLoss => Sys2Proof.Machine.execPowerLoss s
  | .wakePinDeclare => Sys2Proof.Machine.execWakePinDeclare s
  | .spiWake => Sys2Proof.Machine.execSpiWake s
  | .rtcAlarm => Sys2Proof.Machine.execRtcAlarm s
  | .resetPin => Sys2Proof.Machine.execResetPin s
  | .railTimeout => Sys2Proof.Machine.execRailTimeout s
  | .pgoodFall => Sys2Proof.Machine.execPgoodFall s
  | .railRetry => Sys2Proof.Machine.execRailRetry s
  | .scriptWaitTimeout => Sys2Proof.Machine.execScriptWaitTimeout s
  | .bootPrepTimer => Sys2Proof.Machine.execBootPrepTimer s
  | .noHostTimeout => Sys2Proof.Machine.execNoHostTimeout s
  | .faultPolicySample => Sys2Proof.Machine.execFaultPolicySample s
  | .shutdownComplete => Sys2Proof.Machine.execShutdownComplete s
  | .bridgeAccessRepeat => Sys2Proof.Machine.execBridgeAccessRepeat s
  | .mailboxPop => Sys2Proof.Machine.execMailboxPop s
  | .keyWaitTimeout => Sys2Proof.Machine.execKeyWaitTimeout s
  | .avsAck => Sys2Proof.Machine.execAvsAck s
  | .avsSettleDone => Sys2Proof.Machine.execAvsSettleDone s
  | .avsAckTimeout => Sys2Proof.Machine.execAvsAckTimeout s
  | .hourlyRecordDue => Sys2Proof.Machine.execHourlyRecordDue s
  | .watchdogWarning => Sys2Proof.Machine.execWatchdogWarning s
  | .supplyWarningAssert => Sys2Proof.Machine.execSupplyWarningAssert s
  | .supplyWarningRelease => Sys2Proof.Machine.execSupplyWarningRelease s
  | .supplyResetTrip => Sys2Proof.Machine.execSupplyResetTrip s
  | .spiStatus => Sys2Proof.Machine.execSpiStatus s
  | .spiReservedCommand => Sys2Proof.Machine.execSpiReservedCommand s
  | .spiReadTimeout => Sys2Proof.Machine.execSpiReadTimeout s
  | .postedWriteDone => Sys2Proof.Machine.execPostedWriteDone s
  | .mfRead => Sys2Proof.Machine.execMfRead s
  | .mfWrite => Sys2Proof.Machine.execMfWrite s
  | .mfMbx => Sys2Proof.Machine.execMfMbx s
  | .mfInvalidRequest => Sys2Proof.Machine.execMfInvalidRequest s
  | .irqEventHoldoffEnd => Sys2Proof.Machine.execIrqEventHoldoffEnd s
  | .mailboxReplyWrite => Sys2Proof.Machine.execMailboxReplyWrite s
  | .nop => Sys2Proof.Machine.execNop s
  | .sceneSelect => Sys2Proof.Machine.execSceneSelect s
  | .imgBegin => Sys2Proof.Machine.execImgBegin s
  | .imgData => Sys2Proof.Machine.execImgData s
  | .imgCommit => Sys2Proof.Machine.execImgCommit s
  | .imgAbort => Sys2Proof.Machine.execImgAbort s
  | .keyProv => Sys2Proof.Machine.execKeyProv s
  | .timeSet => Sys2Proof.Machine.execTimeSet s
  | .maintEnter => Sys2Proof.Machine.execMaintEnter s
  | .maintExit => Sys2Proof.Machine.execMaintExit s
  | .shutdown => Sys2Proof.Machine.execShutdown s
  | .mbxInvalidCommand => Sys2Proof.Machine.execMbxInvalidCommand s
  | .snapshotDone => Sys2Proof.Machine.execSnapshotDone s
  | .supplyMonitorArm => Sys2Proof.Machine.execSupplyMonitorArm s
  | .spiTargetReady => Sys2Proof.Machine.execSpiTargetReady s
  | .chainCancelSend => Sys2Proof.Machine.execChainCancelSend s

end Sys2Proof.Machine
end

