-- ==== Sys2Proof/Machine/Tick.lean ====
section
/-! DEFINITION. What a core cycle does by itself: device time advances (R306), a flush walk returns a cell (R158),
and the eye monitors of the links are read (R86). -/

namespace Sys2Proof.Machine

/-- The eye monitor of link `n` has a new value, every 4,096 forward symbols while a signal is received; it is a free value (R86, log
entry 1). DEDUCED (log entry 162): the periods lie on the grid of multiples of 4,096 core cycles. -/
def State.eyeUpdate (s : State) (n : Nat) : State :=
  let l := s.lnk n
  let live := (l.training == .fwTrain || l.training == .align || l.training == .active || s.getF (LNK.LOOP_CTL n) 0 2 == 1) && l.sigDet && !l.eidle
  if live then
    let (v, s) := s.fresh
    s.modLnk n (fun l => { l with eye := v % 256 })
  else s

/-- What strikes the store in this core cycle while STORE is on (R139, R140, R163, R164; log entry 178). -/
def State.upsetCycle (s : State) : State :=
  match Config.storeUpset s.now with
  | none => s
  | some u => s.when (s.domOn 2) (fun s => { s with cfs := { s.cfs with upsets := s.cfs.upsets ++ [u] } })

/-- A control cycle, every fifth core cycle, while CTRL is powered (R438, R439). DEDUCED (log entry 31): the cycles lie on the grid of
multiples of five core cycles. -/
def State.controlCycle (s : State) : State := s.when (s.now % 5 == 0 && s.domOn 1) State.d2cCycle

/-- One core cycle (R86, R158, R306, R337). -/
def State.tick (s : State) : State :=
  let s : State := { s with now := s.now + 1 }
  if s.power.phase = .running then
    ({ s with time := { s.time with dt := s.time.dt + cycleTime s.time.y } } : State).latchTrigs.walkCycle.cellsBack.upsetCycle.controlCycle.when
      (s.now % 4096 == 0) (·.each (upto 16) State.eyeUpdate)
  else s

end Sys2Proof.Machine
end

