-- ==== Sys2Proof/Safety.lean ====
section
/-! DEFINITION. What a safe state is, in the terms the statements use: every sparse store is in its canonical form, so that equal
contents are equal data, and every table of fixed size has its size. -/

namespace Sys2Proof.Machine

/-- The canonical form of a register file: addresses strictly rising, no entry at its reset value. -/
def regsWf : Map Word → Bool
  | [] => true
  | (a, v) :: rest => decide (v ≠ regReset a) && rest.all (fun p => decide (a < p.1)) && regsWf rest

/-- The state has its two ports, two gPTP domains, two trigger outputs, eight power domains and four free lists: the tables whose
size the spec fixes. -/
def State.Shaped (s : State) : Prop :=
  s.eth.ports.length = 2 ∧ s.time.doms.length = 2 ∧ s.time.pdelay.length = 2 ∧ s.time.ppTrig.length = 2 ∧
  s.power.doms.length = 8 ∧ s.cfs.free.length = 4

end Sys2Proof.Machine
end

