-- ==== Sys2Proof/WellFormed.lean ====
section
/-! DEFINITION. Well-formed commands: what the types of Instr do not say of the operands. Every operand with a fixed width is a
Fin or a BitVec; the checks here bound the others. -/

namespace Sys2Proof

/-- A reading of 48 monitors, 8 oscillator sets, 8 canaries and 8 temperature sensors (R468-R471). -/
def almReadingOk (r : Machine.AlmReading) : Bool :=
  r.delays.length == 48 && r.rings.length == 8 && r.canaries.length == 8 && r.temps.length == 8

/-- The command's operands are within what the spec lets them be. -/
def Instr.wf : Instr → Bool
  | .registerWrite .. => true
  | .eventClear .. => true
  | .counterClear .. => true
  | .offDomainAccess .. => true
  | .switchSlot .. => true
  | .linkEnable .. => true
  | .linkDisable .. => true
  | .linkRetrain .. => true
  | .trainHoldEnd .. => true
  | .ftsDetected .. => true
  | .adaptSettled _ _ _ taps => taps.length == 6
  | .forwardIdleArrive .. => true
  | .commaLock .. => true
  | .alignComplete .. => true
  | .trainTimeout .. => true
  | .lossOfSignal .. => true
  | .alignmentLoss .. => true
  | .tapUpdate .. => true
  | .ctleStep .. => true
  | .eqFreeze .. => true
  | .eqResume .. => true
  | .eidleEntry .. => true
  | .eidleExit .. => true
  | .eidleTimeout .. => true
  | .frameStartPacket _ p => decide (p.header.length ≤ 8)
  | .frameEndPacket _ p => decide (p.header.length ≤ 8)
  | .videoLinePacket _ p => decide (p.header.length ≤ 8)
  | .embeddedLinePacket _ p => decide (p.header.length ≤ 8)
  | .sensorStatusPacket _ p => decide (p.header.length ≤ 8)
  | .bcResponsePacket _ p => decide (p.header.length ≤ 8)
  | .keepaliveDue .. => true
  | .bcPacketComplete .. => true
  | .bcReqGo .. => true
  | .bcRequestTimeout .. => true
  | .linkLoopbackSelect .. => true
  | .loopbackReturnTimeout .. => true
  | .soundStart .. => true
  | .soundingDone _ samples => samples.length == 768
  | .soundingAbort _ taken => decide (taken.length < 768)
  | .ppFrameStart .. => true
  | .ppLineRun .. => true
  | .ppFrameEnd .. => true
  | .ppAbsent .. => true
  | .frameOpenTime .. => true
  | .lineDeadline .. => true
  | .lineWriteSlot .. => true
  | .frameCloseTime .. => true
  | .feTableWrite _ dpc i _ => decide (i < if dpc then 4096 else 578)
  | .itemPush _ _ bytes _ => decide (1 ≤ bytes.length) && decide (bytes.length ≤ 65535)
  | .itemCommit .. => true
  | .queuePop .. => true
  | .stalledPopServe .. => true
  | .popCancel .. => true
  | .itemRelease .. => true
  | .deferredMarkerWrite .. => true
  | .queueFlush .. => true
  | .flushWalkDone .. => true
  | .auditPassEnd .. => true
  | .scrubRead _ ue => ue.all (fun w => decide (w.1 < 32) && decide (w.2 < 2 ^ 64))
  | .scrubWriteback .. => true
  | .watermarkWrite .. => true
  | .apertureRead .. => true
  | .apertureWrite .. => true
  | .taskStart _ task => decide (task < 2048)
  | .paramCopyDone .. => true
  | .intakeItemTake _ task => decide (task < 2048)
  | .watchdogCancel _ task => decide (task < 2048)
  | .programStart _ task _ => decide (task < 2048)
  | .taskEnd _ task => decide (task < 2048)
  | .hostCommit .. => true
  | .contextWrite _ _ o _ => decide (o < 0x10000) && o % 4 == 0
  | .debugHalt .. => true
  | .ctrlWriteDeliver .. => true
  | .vnop .. => true
  | .vadd .. => true
  | .vaddu .. => true
  | .vsub .. => true
  | .vsubu .. => true
  | .vmin .. => true
  | .vmax .. => true
  | .vminu .. => true
  | .vmaxu .. => true
  | .vand .. => true
  | .vor .. => true
  | .vxor .. => true
  | .vmulq .. => true
  | .vmuluq .. => true
  | .vshr .. => true
  | .vshl .. => true
  | .vld .. => true
  | .vst .. => true
  | .sld .. => true
  | .vldo .. => true
  | .vsto .. => true
  | .vldb .. => true
  | .vgath .. => true
  | .vlut .. => true
  | .sldo .. => true
  | .ssto .. => true
  | .sadd .. => true
  | .ssub .. => true
  | .smov .. => true
  | .saddi .. => true
  | .sandi .. => true
  | .sori .. => true
  | .sshli .. => true
  | .sshri .. => true
  | .ssrai .. => true
  | .slui .. => true
  | .smul .. => true
  | .sadd3 .. => true
  | .ssub3 .. => true
  | .br .. => true
  | .brz .. => true
  | .brnz .. => true
  | .brneg .. => true
  | .loop .. => true
  | .pmov .. => true
  | .spmov .. => true
  | .smode .. => true
  | .sstride .. => true
  | .endBundle .. => true
  | .xnop .. => true
  | .qlen .. => true
  | .qpop .. => true
  | .qpopResume .. => true
  | .emit .. => true
  | .emitLineWrite _ idx _ => decide (idx < 2048)
  | .ctrlw .. => true
  | .valu .. => true
  | .vmac .. => true
  | .vmacu .. => true
  | .vnarrow .. => true
  | .vnarrowu .. => true
  | .vmulr .. => true
  | .vmulru .. => true
  | .vsplat .. => true
  | .vcmp .. => true
  | .vsel .. => true
  | .vred .. => true
  | .vperm .. => true
  | .vext .. => true
  | .vabsd .. => true
  | .resultWriteback .. => true
  | .garnetRangeStart .. => true
  | .garnetItemTake .. => true
  | .garnetRangeEnd .. => true
  | .garnetProofPush .. => true
  | .frozenCompareResult .. => true
  | .drawMemoryWrite .. => true
  | .pktRangeStart .. => true
  | .pktItemTake .. => true
  | .pktRangeEnd .. => true
  | .trailerRangeEnd .. => true
  | .portEnable .. => true
  | .portDisable .. => true
  | .portCfgWrite .. => true
  | .laneSettingsWrite .. => true
  | .fastTimeout .. => true
  | .trainingMarkerDetect .. => true
  | .anComplete .. => true
  | .portTrainTimeout .. => true
  | .portUp _ lanes _ _ => decide (lanes.length ≤ 4)
  | .portLinkLoss .. => true
  | .linkFaultReceive .. => true
  | .portLoopbackSelect .. => true
  | .ethFrameReceive _ f _ _ => decide (14 ≤ f.length)
  | .passthroughFrameReceive f _ _ => decide (14 ≤ f.length)
  | .launchHandover .. => true
  | .launchFire .. => true
  | .launchDeferredStart .. => true
  | .unschedFrameStart .. => true
  | .timeCapture .. => true
  | .syncReceive .. => true
  | .followUpReceive .. => true
  | .followUpTimeout .. => true
  | .announceReceive .. => true
  | .pdelayReqReceive _ _ req _ => req.length == 10
  | .pdelayRespReceive .. => true
  | .pdelayInterval .. => true
  | .signalingReceive .. => true
  | .syncReceiptTimeout .. => true
  | .switchRequest .. => true
  | .suspectTimeout .. => true
  | .asymWrite .. => true
  | .triggerHandover .. => true
  | .ppTriggerAssert .. => true
  | .ppTriggerRelease .. => true
  | .swapRequest .. => true
  | .stagingComplete loads => loads.imem.all (fun ps => ps.all (fun p => decide (p.1 < 16)))
  | .flashOpDone .. => true
  | .earlySectionVerified .. => true
  | .powerOnReset .. => true
  | .pgoodRise .. => true
  | .keyoffRecordWritten .. => true
  | .dmaGo .. => true
  | .dmaAbort .. => true
  | .descriptorFetchDone .. => true
  | .dmaBurstGrant .. => true
  | .dmaBurstDone .. => true
  | .descriptorComplete .. => true
  | .dmaSwRequest .. => true
  | .dmaDomainOffTimeout _ confirmed => decide (confirmed < 2 ^ 24)
  | .bridgeRetryTimeout x => decide (0x20000000 ≤ x.addr) && decide (x.addr < 0x23000000)
  | .exclusiveRead .. => true
  | .exclusiveWrite .. => true
  | .semaphoreTimeout .. => true
  | .semaphoreRelease .. => true
  | .analoguePhaseDone .. => true
  | .memoryPhaseDone .. => true
  | .zeroiseDone .. => true
  | .logicTestPairDone rs => decide (rs.length ≤ 2)
  | .bistRun .. => true
  | .bistAbort .. => true
  | .unitTestDone .. => true
  | .almSample r => almReadingOk r
  | .avsRemeasure r => almReadingOk r
  | .rtcSet .. => true
  | .rebaseWrite .. => true
  | .domainRequest .. => true
  | .domainPowerUpDone .. => true
  | .domainPowerDownDone .. => true
  | .domainReset .. => true
  | .domainRestore .. => true
  | .wdtConfigWrite .. => true
  | .watchdogKick .. => true
  | .watchdogExpiry .. => true
  | .spiWrite .. => true
  | .spiRead _ n => decide (0 < n)
  | .spiWriteFixed .. => true
  | .spiReadFixed _ n => decide (0 < n)
  | .spiExclWrite .. => true
  | .spiExclRead .. => true
  | .eventReport .. => true
  | .mailboxPush .. => true
  | .mailboxReset .. => true
  | .snapshot .. => true
  | .symbolError .. => true
  | .fecCodewordError .. => true
  | .linkFaultClear .. => true
  | .resetRelease .. => true
  | .statsRangeEnd .. => true
  | .journalWriteTimeout .. => true
  | .lockstepMismatch => true
  | .slotBoundary => true
  | .periodStart => true
  | .storeInitDone => true
  | .passItemTake => true
  | .passRangeEnd => true
  | .relaySyncTransmit => true
  | .relayTimeout => true
  | .gmSyncTransmit => true
  | .acqStepApply => true
  | .domainSwitch => true
  | .autoSelectTimeout => true
  | .holdTimeout => true
  | .swapGoGuard => true
  | .chainPrepSend => true
  | .chainPrepReceive => true
  | .chainReadinessCheck => true
  | .chainCancelReceive => true
  | .swapReport => true
  | .mainPassDone => true
  | .commitDone => true
  | .powerLoss => true
  | .wakePinDeclare => true
  | .spiWake => true
  | .rtcAlarm => true
  | .resetPin => true
  | .railTimeout => true
  | .pgoodFall => true
  | .railRetry => true
  | .scriptWaitTimeout => true
  | .bootPrepTimer => true
  | .noHostTimeout => true
  | .faultPolicySample => true
  | .shutdownComplete => true
  | .bridgeAccessRepeat => true
  | .mailboxPop => true
  | .keyWaitTimeout => true
  | .avsAck => true
  | .avsSettleDone => true
  | .avsAckTimeout => true
  | .hourlyRecordDue => true
  | .watchdogWarning => true
  | .supplyWarningAssert => true
  | .supplyWarningRelease => true
  | .supplyResetTrip => true
  | .spiStatus => true
  | .spiReservedCommand => true
  | .spiReadTimeout => true
  | .postedWriteDone => true
  | .mfRead => true
  | .mfWrite => true
  | .mfMbx => true
  | .mfInvalidRequest => true
  | .irqEventHoldoffEnd => true
  | .mailboxReplyWrite => true
  | .nop => true
  | .sceneSelect => true
  | .imgBegin => true
  | .imgData => true
  | .imgCommit => true
  | .imgAbort => true
  | .keyProv => true
  | .timeSet => true
  | .maintEnter => true
  | .maintExit => true
  | .shutdown => true
  | .mbxInvalidCommand => true
  | .snapshotDone => true
  | .supplyMonitorArm => true
  | .spiTargetReady => true
  | .chainCancelSend => true

end Sys2Proof
end

