-- ==== Sys2Proof/Certificates/Slice0/Obligations.lean ====
section
/-! DEFINITION. The statements for the provers. Each says of commands what the cited rules say, in terms of `exec` and `step`; a
statement about a command has as its conclusion that the command completes, and what holds then. -/

open Sys2Proof Sys2Proof.Machine

/-- Command `c` completes at `s`, and `P` holds of the state it leaves. -/
def Sys2Proof.Gives (c : Instr) (s : State) (P : State → Prop) : Prop := ∃ t, exec c s = .next t ∧ P t

/-- Only registers among `l` differ between `s` and `t`. -/
def Sys2Proof.OnlyRegs (l : List Nat) (s t : State) : Prop := ∀ b, b ∉ l → t.rd b = s.rd b

/-- What no command of a family that works on registers and the block's own parts touches: the queue of waiting commands, the
clock, the straps, and the number of free values taken. -/
def Sys2Proof.Still (s t : State) : Prop :=
  t.pending = s.pending ∧ t.now = s.now ∧ t.wakeAt = s.wakeAt ∧ t.position = s.position ∧ t.free = s.free

/-- Bit `i` of a word. -/
def Sys2Proof.wbit (v : Word) (i : Nat) : Bool := v.toNat.testBit i

/-- A saturating 32-bit counter after `k` more events (R15). -/
def Sys2Proof.sat32 (x k : Nat) : Nat := min 0xFFFFFFFF (x + k)

/-- Nothing has struck the store since it was last written (R139, R140, R163, R164). -/
def Sys2Proof.Calm (s : State) : Prop := s.cfs.upsets = []

/-! ### The queue, the clock and reset -/

/-- The command at the front of the queue is the one that a step runs, on the state with the queue's rest. -/
def Obligations.StepRunsTheFrontCommand : Prop :=
  ∀ (c : Instr) (rest : List Instr) (s : State), step { s with pending := c :: rest } = exec c { s with pending := rest }

/-- On an empty queue one core cycle passes (the model's choice, log entry 2). While the device does not run, nothing but the cycle count
changes. While it runs, device time advances by 1 ns × (1 + y) (R306), never backwards for a y within ±500 ppm, and the trigger records
it has reached latch SYNCED; the oldest flush walk, unless its entry has been struck, returns one cell (R158), and the cells released in
the cycle before return (R145); what strikes the store is noted; every 4,096 cycles the eyes of the links are read. Nothing else changes,
but that in every fifth cycle an access that waits in the data-to-control queue of the bridge is served. -/
def Obligations.EmptyQueueIsOneCoreCycle : Prop :=
  ∀ s : State, s.pending = [] →
    ∃ t, step s = .next t ∧
      (s.power.phase ≠ .running → t = { s with now := s.now + 1 }) ∧
      (s.power.phase = .running →
        (-256000000000 ≤ s.time.y → (t.time.dt : Int) = s.time.dt + (2 ^ 40 + 2 ^ 40 * s.time.y / 256000000000)) ∧
        (-128000000 ≤ s.time.y → s.time.dt ≤ t.time.dt) ∧
        t.time = { s.time with dt := t.time.dt, trigRecs := t.time.trigRecs } ∧
        (∀ c : Nat, (Map.get [] t.time.trigRecs c).map (·.instant) = (Map.get [] s.time.trigRecs c).map (·.instant)) ∧
        ((∀ (c : Nat) (w : List Nat) (rest : List (List Nat)), s.cfs.walks = (c :: w) :: rest → .entry c ∉ s.cfs.upsets) →
          (s.now + 1) % 5 ≠ 0 ∨ s.domOn 1 = false ∨ (s.dma.order = [] ∧ s.dma.ctl = [] ∧ ∀ c, c < 32 → (s.chan c).ctlLeft = 0) →
          t = { s with now := s.now + 1, time := t.time, cfs := t.cfs, link := t.link, free := t.free } ∧
          t.cfs = { s.cfs with walks := t.cfs.walks, free := t.cfs.free, marks := t.cfs.marks, back := [], upsets := t.cfs.upsets } ∧
          t.cfs.upsets = s.cfs.upsets ++ (if s.domOn 2 then (Config.storeUpset (s.now + 1)).toList else []) ∧
          (∀ (c : Nat) (w : List Nat) (rest : List (List Nat)), s.cfs.walks = (c :: w) :: rest →
            t.cfs.walks = w :: rest ∧ t.cfs.free = ((s.freeNow [c]).freeNow s.cfs.back).cfs.free) ∧
          ((∀ w ∈ s.cfs.walks.head?, w = []) → t.cfs.walks = s.cfs.walks ∧ t.cfs.free = (s.freeNow s.cfs.back).cfs.free) ∧
          ((s.now + 1) % 4096 ≠ 0 → t.link = s.link ∧ t.free = s.free) ∧
          ∀ n, t.lnk n = { s.lnk n with eye := (t.lnk n).eye }))

/-- After reset: STANDBY with AON alone powered, no command waiting, no memory byte listed, every register at its table's reset
value (0 where the table gives none, and the unlisted bytes of the memories, are the model's choice, log entries 3, 26 and 34), device
time FREE, every table of fixed size of its size. -/
def Obligations.ResetState : Prop :=
  State.reset.pending = [] ∧ State.reset.power.phase = .standby ∧
    (∀ d, d < 8 → State.reset.dom d = if d = 0 then .up else .off) ∧
    (∀ a, State.reset.rd a = (regReset a).toNat) ∧
    State.reset.rd SYS.DEV_ID = 0x16281010 ∧ State.reset.rd PWR.MODE = 0x12 ∧ State.reset.rd PWR.SVC_POLICY = 0x012C0A08 ∧
    State.reset.cfs.mem = [] ∧ State.reset.dma.ram = [] ∧ State.reset.pres.draw = [] ∧ State.reset.nvm.flash = [] ∧
    State.reset.time.dtState = .free ∧ State.reset.time.y = 0 ∧ State.reset.mgmt.h2d = [] ∧ State.reset.mgmt.d2h = [] ∧ State.reset.Shaped

/-! ### Register accesses -/

/-- The EVT and EVT_EN registers of every block (R546). -/
def Sys2Proof.blockEvents : List (Nat × Nat) := irqBlocks true ++ irqBlocks false ++ [(PWR.MODE_EVT, PWR.MODE_EVT_EN)]

/-- The bits that a register's table lets software clear by writing 1. -/
def Sys2Proof.clearable (a : Nat) : Nat := ((regDefAt a).map (·.w1c)).getD 0

/-- The bits that a register's table lets software write. -/
def Sys2Proof.writable (a : Nat) : Nat := ((regDefAt a).map (fun d => d.rw ||| d.rws)).getD 0

/-- A block answers at `a`: CTRL and the block's domain are on, and its unit is not under test. -/
def Sys2Proof.Served (s : State) (a : Nat) : Prop :=
  s.domOn 1 = true ∧ s.domOn ((windowDomain a).getD 1) = true ∧ s.windowTest a = false

/-- A write to the EVT_EN register of any block, by any master, sets its RW bits to the bits written and no others, answers OK,
and changes no other register. -/
def Obligations.WriteOfAnEventEnable : Prop :=
  ∀ (s : State) (m : Master) (addr v : Word) (e : Nat × Nat), e ∈ blockEvents → addr.toNat = e.2 → Served s e.2 →
    Gives (.registerWrite m addr v) s (fun t =>
      (∀ i, i < 32 → t.bit e.2 i = if (writable e.2).testBit i then wbit v i else s.bit e.2 i) ∧
      OnlyRegs [e.2] s t ∧ Still s t ∧ t.mgmt.answer = { status := 0, words := [] } ∧ t.cfs = s.cfs ∧ t.link = s.link)

/-- The registers whose event bits software clears by writing 1: EVT of every block, PWR.MODE_EVT and PWR.FAULT_STAT. -/
def Sys2Proof.clearRegs : List Nat := PWR.FAULT_STAT :: blockEvents.map (·.1)

/-- A write that clears event bits: a bit written 1 is cleared, but one that hardware sets in the same cycle reads 1 afterwards. So for
EVT of every block, PWR.MODE_EVT, PWR.FAULT_STAT, DMA.CH_EVT of every channel that the master may write, and the high-mark bit of every
queue. No other register changes. -/
def Obligations.EventClearLosesNoEvent : Prop :=
  ∀ (s : State) (m : Master) (addr v hw : Word),
    (∀ a, (a ∈ clearRegs ∨ ∃ c, c < 32 ∧ a = DMA.CH_EVT c ∧ (s.bit (DMA.CH_CTL c) 8 = false ∨ m = .core ∨ m = .dma)) → addr.toNat = a → Served s a →
      Gives (.eventClear m addr v hw) s (fun t =>
        (∀ i, i < 32 → t.bit a i = if (clearable a).testBit i then (s.bit a i && !wbit v i) || wbit hw i else s.bit a i) ∧
        OnlyRegs [a] s t ∧ Still s t ∧ t.mgmt.answer = { status := 0, words := [] } ∧ t.power = s.power)) ∧
    (∀ q, q < 1024 → addr.toNat = CFS.Q_STAT q → Served s (CFS.Q_STAT q) →
      Gives (.eventClear m addr v hw) s (fun t =>
        (t.q q).hwm = (((s.q q).hwm && !wbit v 24) || wbit hw 24) ∧ t.regs = s.regs ∧ (∀ r, r ≠ q → t.q r = s.q r) ∧
        (t.q q).items = (s.q q).items ∧ (t.q q).xcnt = (s.q q).xcnt ∧ Still s t))

/-- A write to a clear register clears the counters written 1; one whose event occurs in the same cycle then reads 1, and another counts
its event. So for the counters of every block, where the run of SCHED has two offsets that hold none, and for the two counters of every
queue. No snapshot register and no other register changes
but, at PWR.CNT_CLR, PWR.DIP_DUR. -/
def Obligations.CounterClearThenEvent : Prop :=
  ∀ (s : State) (m : Master) (addr v ev : Word), addr.toNat % 4 = 0 → Served s addr.toNat →
    (∀ first n : Nat, cntClear addr.toNat = some (first, n) →
      Gives (.counterClear m addr v ev) s (fun t =>
        (∀ i, i < n → first + 4 * i ∉ [0x100301B8, 0x100301BC] → t.rd (first + 4 * i) =
          if wbit v i then (if wbit ev i then 1 else 0) else sat32 (s.rd (first + 4 * i)) (if wbit ev i then 1 else 0)) ∧
        (∀ b, (∀ i, i < n → b ≠ first + 4 * i) → b ≠ PWR.DIP_DUR → t.rd b = s.rd b) ∧ Still s t)) ∧
    (addr.toNat = CFS.Q_CNT_CLR →
      Gives (.counterClear m addr v ev) s (fun t =>
        let q := v.toNat % 1024
        t.rd (CFS.Q_DROP_CNT q) =
          (if wbit v 16 then (if wbit ev 16 then 1 else 0) else sat32 (s.rd (CFS.Q_DROP_CNT q)) (if wbit ev 16 then 1 else 0)) ∧
        (t.q q).xcnt = (if wbit v 17 then (if wbit ev 17 then 1 else 0) else if wbit ev 17 then min 255 ((s.q q).xcnt + 1) else (s.q q).xcnt) ∧
        OnlyRegs [CFS.Q_DROP_CNT q] s t ∧ (∀ r, r ≠ q → t.q r = s.q r) ∧ Still s t))

/-- An access to a block in a powered-down domain: a read returns 0, a write is discarded; both complete without an error and
count in SYS.OFF_ACCESS_CNT. -/
def Obligations.PoweredDownBlockReadsZero : Prop :=
  ∀ (s : State) (m : Master) (addr v : Word) (d : Nat), windowDomain (addr.toNat / 4 * 4) = some d → s.domOn 1 = true → s.domOn d = false →
    Gives (.offDomainAccess m addr none) s (fun t =>
      t.mgmt.answer = { status := 0, words := [0] } ∧ t.rd SYS.OFF_ACCESS_CNT = sat32 (s.rd SYS.OFF_ACCESS_CNT) 1 ∧
      t.bit SYS.EVT 1 = true ∧ OnlyRegs [SYS.OFF_ACCESS_CNT, SYS.EVT] s t ∧ Still s t) ∧
    Gives (.offDomainAccess m addr (some v)) s (fun t =>
      t.mgmt.answer = { status := 0, words := [] } ∧ t.rd SYS.OFF_ACCESS_CNT = sat32 (s.rd SYS.OFF_ACCESS_CNT) 1 ∧
      t.bit SYS.EVT 1 = true ∧ OnlyRegs [SYS.OFF_ACCESS_CNT, SYS.EVT] s t ∧ Still s t ∧ t.link = s.link ∧ t.fe = s.fe ∧
      t.clu = s.clu ∧ t.cfs = s.cfs ∧ t.time = s.time ∧ t.eth = s.eth ∧ t.pres = s.pres)

/-- The aperture maps the cells: a read returns the word of the store and changes no queue; a corrected word of the cell it reads is
counted and queued for the scrubber, and an uncorrectable one is counted, logged and read as it stands. A write is performed in BOOT and
MAINTENANCE, byte for byte, and in any other mode is discarded without an error, counted, and set as an event. -/
def Obligations.ApertureReadsAndWritesTheCells : Prop :=
  ∀ (s : State) (m : Master) (o : Fin 0x3000000) (v : Word), s.domOn 1 = true → s.domOn 2 = true → Calm s →
    Gives (.apertureRead m { o := o }) s (fun t =>
      t.mgmt.answer.status = 0 ∧ t.mgmt.answer.words = [BitVec.ofNat 32 (Memory.readWord s.cfs.mem (o.val / 4 * 4))] ∧
      t.regs = s.regs ∧ t.cfs = s.cfs ∧ Still s t) ∧
    Gives (.apertureRead m { o := o, err := { ce := [o.val / 256] } }) s (fun t =>
      t.mgmt.answer = { status := 0, words := [BitVec.ofNat 32 (Memory.readWord s.cfs.mem (o.val / 4 * 4))] } ∧
      t.rd CFS.ECC_CE_CNT = sat32 (s.rd CFS.ECC_CE_CNT) 1 ∧ t.bit CFS.EVT 4 = true ∧ o.val / 256 ∈ t.cfs.scrubPend ∧
      OnlyRegs [CFS.ECC_CE_CNT, CFS.EVT] s t ∧ t.cfs.mem = s.cfs.mem ∧ t.cfs.queues = s.cfs.queues ∧ Still s t) ∧
    (∀ x : Nat,
      Gives (.apertureRead m { o := o, err := { ue := [(o.val / 256, o.val / 8 % 32, x)] } }) s (fun t =>
        t.mgmt.answer = { status := 0, words := [BitVec.ofNat 32 (x / 2 ^ (8 * (o.val / 4 % 2 * 4)))] } ∧
        t.rd CFS.ECC_UE_CNT = sat32 (s.rd CFS.ECC_UE_CNT) 1 ∧ t.bit CFS.EVT 5 = true ∧
        t.rd CFS.ECC_LOG = 2 ^ 31 + o.val / 8 % 32 * 2 ^ 18 + o.val / 256 % 2 ^ 18 ∧
        OnlyRegs [CFS.ECC_UE_CNT, CFS.EVT, CFS.ECC_LOG] s t ∧ t.cfs.queues = s.cfs.queues ∧ Still s t)) ∧
    Gives (.apertureWrite m o v) s (fun t =>
      t.mgmt.answer = { status := 0, words := [] } ∧ t.cfs.queues = s.cfs.queues ∧ t.cfs.free = s.cfs.free ∧ Still s t ∧
      (s.mode = 2 ∨ s.mode = 6 →
        t.regs = s.regs ∧ (∀ i, i < 4 → Memory.readByte t.cfs.mem (o.val / 4 * 4 + i) = BitVec.ofNat 8 (v.toNat / 256 ^ i)) ∧
        ∀ x, (x < o.val / 4 * 4 ∨ o.val / 4 * 4 + 4 ≤ x) → Memory.readByte t.cfs.mem x = Memory.readByte s.cfs.mem x) ∧
      (s.mode ≠ 2 ∧ s.mode ≠ 6 →
        t.cfs.mem = s.cfs.mem ∧ t.rd CFS.APERTURE_REF_CNT = sat32 (s.rd CFS.APERTURE_REF_CNT) 1 ∧ t.bit CFS.EVT 8 = true))

/-- A write of 1 to SYS.SNAP.GO copies every counter of every powered domain and counts the snapshot; a domain that is off is
recorded as skipped. The snapshot is ignored while BUSY, and BUSY clears when every register is written. No counter changes. -/
def Obligations.SnapshotCopiesTheCounters : Prop :=
  ∀ (s : State) (m : Master) (v : Word), wbit v 0 = true → s.domOn 1 = true →
    (s.bit SYS.SNAP_STAT 31 = false →
      Gives (.snapshot m v) s (fun t =>
        (∀ r i, r ∈ counterRuns → s.domOn r.dom = true → i < r.count → t.rd (r.first + r.snap + 4 * i) = s.rd (r.first + 4 * i)) ∧
        (∀ r i, r ∈ counterRuns → i < r.count → t.rd (r.first + 4 * i) = s.rd (r.first + 4 * i)) ∧
        t.bit SYS.SNAP_STAT 31 = true ∧ t.getF SYS.SNAP_STAT 0 16 = (s.getF SYS.SNAP_STAT 0 16 + 1) % 65536 ∧
        (∀ d, d < 8 → t.bit SYS.SNAP_STAT (16 + d) = !s.domOn d) ∧ Still s t)) ∧
    (s.bit SYS.SNAP_STAT 31 = true → Gives (.snapshot m v) s (fun t => t.regs = s.regs)) ∧
    Gives .snapshotDone s (fun t => t.bit SYS.SNAP_STAT 31 = false ∧ OnlyRegs [SYS.SNAP_STAT] s t)

/-! ### Camera links -/

/-- The other links are as they were. -/
def Sys2Proof.OtherLinks (n : Nat) (s t : State) : Prop := ∀ m, m ≠ n → t.lnk m = s.lnk m

/-- Training: the hold ends in BC_TRAIN with BSC at 0; forward signal leads to FW_TRAIN; a settled equaliser holds every tap within
its bound, a frozen one what it had (the entry to FW_TRAIN ends the freeze of idle symbols, the model's reading, log entry 191), and
sends BTS2 once the eye reaches EYE_MIN; then ALIGN, in which BTS2 goes on until comma lock, and, after 64 valid symbols, ACTIVE with
its event; 2 ms without progress is a training failure, counted, with the long hold. -/
def Obligations.LinkTraining : Prop :=
  ∀ (s : State) (n : Fin 16),
    ((s.lnk n).training = .reset → s.bit (LNK.CTL n) 0 = true → s.nearLoop n = false → (s.lnk n).sounding = .idle →
      Gives (.trainHoldEnd n) s (fun t => (t.lnk n).training = .bcTrain ∧ (t.lnk n).bscOn = true ∧ (t.lnk n).bscStart = s.now ∧
        (t.lnk n).spread = s.bit (LNK.CTL n) 2 ∧ t.regs = s.regs ∧ OtherLinks n s t)) ∧
    ((s.lnk n).training = .bcTrain →
      Gives (.ftsDetected n) s (fun t => (t.lnk n).training = .fwTrain ∧ (t.lnk n).sigDet = true ∧ (t.lnk n).frozen = false ∧ t.regs = s.regs ∧ OtherLinks n s t)) ∧
    (∀ (c : Fin 16) (eye : Byte) (taps : List Int), (s.lnk n).training = .fwTrain →
      Gives (.adaptSettled n c eye taps) s (fun t =>
        (s.eqFrozen n = false → ∀ i, i < 6 → -(s.tapBound n i : Int) ≤ nth 0 (t.lnk n).taps i ∧ nth 0 (t.lnk n).taps i ≤ s.tapBound n i) ∧
        (s.eqFrozen n = true → (t.lnk n).taps = (s.lnk n).taps ∧ (t.lnk n).ctle = (s.lnk n).ctle) ∧
        (s.eqFrozen n = false → (t.lnk n).ctle = if s.bit (LNK.EQ_CTL n) 4 then s.getF (LNK.EQ_CTL n) 8 4 else c.val) ∧
        (t.lnk n).bts2 = decide (s.getF (LNK.EQ_CTL n) 12 8 ≤ eye.toNat) ∧ (t.lnk n).eye = eye.toNat ∧
        (t.lnk n).training = .fwTrain ∧ t.regs = s.regs ∧ OtherLinks n s t)) ∧
    ((s.lnk n).training = .fwTrain → (s.lnk n).bts2 = true →
      Gives (.forwardIdleArrive n) s (fun t => (t.lnk n).training = .align ∧ (t.lnk n).commaLock = false ∧
        (t.lnk n).bts2 = true ∧ t.regs = s.regs ∧ OtherLinks n s t)) ∧
    ((s.lnk n).training = .align →
      Gives (.commaLock n) s (fun t => (t.lnk n).commaLock = true ∧ (t.lnk n).bts2 = false ∧
        (t.lnk n).validFrom = s.now ∧ (t.lnk n).training = .align ∧ t.regs = s.regs ∧ OtherLinks n s t)) ∧
    ((s.lnk n).training = .align → (s.lnk n).commaLock = true → (s.lnk n).validFrom + 64 ≤ s.now →
      Gives (.alignComplete n) s (fun t => (t.lnk n).training = .active ∧ t.bit (LNK.EVT n) 0 = true ∧ OtherLinks n s t)) ∧
    ((s.lnk n).training ≠ .reset → (s.lnk n).training ≠ .active →
      Gives (.trainTimeout n) s (fun t => (t.lnk n).training = .reset ∧ (t.lnk n).hold = .long ∧ t.bit (LNK.EVT n) 2 = true ∧
        t.rd (LNK.TRAIN_FAIL_CNT n) = sat32 (s.rd (LNK.TRAIN_FAIL_CNT n)) 1 ∧ OtherLinks n s t))

/-- LNK.CTL: EN going to 1, and RETRAIN, put the link into RESET with the short hold; EN going to 0 puts it into RESET; EN,
SPREAD_EN and the other control bits hold what is written. -/
def Sys2Proof.LinkControl : Prop :=
  ∀ (s : State) (n : Fin 16) (v : Word), Served s (LNK.CTL n) →
    (s.bit (LNK.CTL n) 0 = false → wbit v 0 = true →
      Gives (.linkEnable n v) s (fun t => (t.lnk n).training = .reset ∧ (t.lnk n).hold = .short ∧ t.rd (LNK.CTL n) = v.toNat % 16 ∧ OtherLinks n s t)) ∧
    (s.bit (LNK.CTL n) 0 = true → wbit v 0 = false →
      Gives (.linkDisable n v) s (fun t => (t.lnk n).training = .reset ∧ (t.lnk n).bscOn = false ∧ t.rd (LNK.CTL n) = v.toNat % 16 ∧ OtherLinks n s t)) ∧
    (s.bit (LNK.CTL n) 0 = true → wbit v 0 = true → wbit v 4 = true →
      Gives (.linkRetrain n v) s (fun t => (t.lnk n).training = .reset ∧ (t.lnk n).hold = .short ∧ t.rd (LNK.CTL n) = v.toNat % 16 ∧ OtherLinks n s t))

/-- Leaving ACTIVE: a loss of signal resets the link with the long hold and counts; a loss of alignment leads to ALIGN and aborts
a packet in progress; LINK_DOWN is set, no trigger waits any more. -/
def Sys2Proof.LinkLeavesActive : Prop :=
  ∀ (s : State) (n : Fin 16), (s.lnk n).training = .active →
    ((s.lnk n).eidle = false →
      Gives (.lossOfSignal n) s (fun t => (t.lnk n).training = .reset ∧ (t.lnk n).hold = .long ∧ (t.lnk n).sigDet = false ∧
        t.rd (LNK.LOS_CNT n) = sat32 (s.rd (LNK.LOS_CNT n)) 1 ∧ t.bit (LNK.EVT n) 1 = true ∧ (t.lnk n).triggers = [] ∧ OtherLinks n s t)) ∧
    (∀ inPacket : Bool,
      Gives (.alignmentLoss n inPacket) s (fun t => (t.lnk n).training = .align ∧ (t.lnk n).commaLock = false ∧ (t.lnk n).bts2 = true ∧
        t.bit (LNK.EVT n) 1 = true ∧ t.rd (LNK.ABORT_CNT n) = sat32 (s.rd (LNK.ABORT_CNT n)) (if inPacket then 1 else 0) ∧ (t.lnk n).triggers = [] ∧ OtherLinks n s t))

/-- Control of a link, and how it leaves ACTIVE. -/
def Obligations.LinkControlAndLoss : Prop := Sys2Proof.LinkControl ∧ Sys2Proof.LinkLeavesActive

/-- The equaliser: the products of a tap add up in its accumulator, and at ±2^(6 + MU) the tap moves by one code within its bound and the
accumulator starts again. A move beyond the bound leaves the tap at it and is counted in CLAMP_CNT, with its event, once in each window
of 1,024 symbols (the windows' grid is the model's choice, log entry 158); a move within the bound counts nothing. Adaptation, of the
taps and of the CTLE code, stands still in a freeze and in electrical idle; the freeze lasts from 256 idle symbols to the next start of a
packet. The CTLE code follows the range h1 has kept over the interval, unless it is set by hand. -/
def Obligations.EqualiserAdapts : Prop :=
  ∀ (s : State) (n : Fin 16),
    (∀ (i : Fin 6) (sum : Int), s.eqFrozen n = false → (s.lnk n).eidle = false →
      ((nth 0 (s.lnk n).acc i + sum).natAbs < 2 ^ (6 + s.getF (LNK.EQ_CTL n) 0 3) →
        Gives (.tapUpdate n i sum) s (fun t => (t.lnk n).acc = setNth (s.lnk n).acc i (nth 0 (s.lnk n).acc i + sum) ∧
          (t.lnk n).taps = (s.lnk n).taps ∧ t.regs = s.regs ∧ OtherLinks n s t ∧ Still s t)) ∧
      (∀ x : Int, x = nth 0 (s.lnk n).taps i + (if 0 < nth 0 (s.lnk n).acc i + sum then 1 else -1) →
        2 ^ (6 + s.getF (LNK.EQ_CTL n) 0 3) ≤ (nth 0 (s.lnk n).acc i + sum).natAbs →
        (x.natAbs ≤ s.tapBound n i →
          Gives (.tapUpdate n i sum) s (fun t => (t.lnk n).acc = setNth (s.lnk n).acc i 0 ∧ (t.lnk n).taps = setNth (s.lnk n).taps i x ∧
            (t.lnk n).clampWin = (s.lnk n).clampWin ∧ t.regs = s.regs ∧ OtherLinks n s t ∧ Still s t)) ∧
        (s.tapBound n i < x.natAbs →
          Gives (.tapUpdate n i sum) s (fun t => (t.lnk n).acc = setNth (s.lnk n).acc i 0 ∧
            (t.lnk n).taps = setNth (s.lnk n).taps i (if 0 < x then (s.tapBound n i : Int) else -(s.tapBound n i : Int)) ∧
            (t.lnk n).clampWin = setNth (s.lnk n).clampWin i (s.now / 1024 + 1) ∧
            (nth 0 (s.lnk n).clampWin i = s.now / 1024 + 1 → t.regs = s.regs) ∧
            (nth 0 (s.lnk n).clampWin i ≠ s.now / 1024 + 1 →
              t.rd (LNK.CLAMP_CNT n) = sat32 (s.rd (LNK.CLAMP_CNT n)) 1 ∧ t.bit (LNK.EVT n) 5 = true) ∧
            OnlyRegs [LNK.CLAMP_CNT n, LNK.EVT n] s t ∧ OtherLinks n s t ∧ Still s t)))) ∧
    (∀ (i : Fin 6) (sum : Int), (s.eqFrozen n = true ∨ (s.lnk n).eidle = true) → Gives (.tapUpdate n i sum) s (fun t => t = s)) ∧
    (∀ lo hi : Nat,
      ((s.lnk n).training = .active ∧ s.eqFrozen n = false ∧ (s.lnk n).eidle = false ∧ s.bit (LNK.EQ_CTL n) 4 = false ∧
        (s.lnk n).h1Lo = lo ∧ (s.lnk n).h1Hi = hi →
        Gives (.ctleStep n lo hi) s (fun t =>
          t.lnk n = { s.lnk n with
            ctle := if s.tapBound n 0 ≤ lo + 4 then min 15 ((s.lnk n).ctle + 1)
              else if 4 * hi < s.tapBound n 0 then (s.lnk n).ctle - 1 else (s.lnk n).ctle,
            h1Lo := (nth 0 (s.lnk n).taps 0).natAbs, h1Hi := (nth 0 (s.lnk n).taps 0).natAbs } ∧
          t = { s with link := t.link } ∧ OtherLinks n s t)) ∧
      ((s.lnk n).training ≠ .active ∨ s.eqFrozen n = true ∨ (s.lnk n).eidle = true ∨ s.bit (LNK.EQ_CTL n) 4 = true →
        Gives (.ctleStep n lo hi) s (fun t => t = s))) ∧
    Gives (.eqFreeze n) s (fun t => t.eqFrozen n = true ∧ t.lnk n = { s.lnk n with frozen := true } ∧ t = { s with link := t.link } ∧
      OtherLinks n s t) ∧
    Gives (.eqResume n) s (fun t => t.eqFrozen n = s.bit (LNK.EQ_CTL n) 3 ∧ t.lnk n = { s.lnk n with frozen := false } ∧
      t = { s with link := t.link } ∧ OtherLinks n s t)

/-- Electrical idle: it is entered only after IDLE_ENTRY was announced and IDLE_OK sent as 1; it ends well with K28.7 in time, 48
D10.2 and a K28.5 in line, else the link goes to ALIGN and the miss is counted; past IDLE_MAX it is a loss of signal. -/
def Obligations.ElectricalIdle : Prop :=
  ∀ (s : State) (n : Fin 16), (s.lnk n).training = .active →
    Gives (.eidleEntry n) s (fun t => (t.lnk n).eidle = ((s.lnk n).idleEntry && (s.lnk n).idleOkSent) ∧ (t.lnk n).sigDet = false ∧
      (t.lnk n).training = .active ∧ t.regs = s.regs ∧ OtherLinks n s t) ∧
    (∀ (k d : Nat), (s.lnk n).eidle = true → k < 64 → 48 ≤ d →
      Gives (.eidleExit n (some k) d true) s (fun t => (t.lnk n).eidle = false ∧ (t.lnk n).training = .active ∧ (t.lnk n).sigDet = true ∧
        t.regs = s.regs ∧ OtherLinks n s t)) ∧
    (∀ (k : Option Nat) (d : Nat) (a : Bool), (s.lnk n).eidle = true → (∀ j, k = some j → j < 64 → 48 ≤ d → a = false) →
      Gives (.eidleExit n k d a) s (fun t => (t.lnk n).training = .align ∧ (t.lnk n).eidle = false ∧ t.bit (LNK.EVT n) 9 = true ∧
        t.rd (LNK.EIDLE_MISS_CNT n) = sat32 (s.rd (LNK.EIDLE_MISS_CNT n)) 1 ∧ OtherLinks n s t)) ∧
    ((s.lnk n).eidle = true →
      Gives (.eidleTimeout n) s (fun t => (t.lnk n).training = .reset ∧ (t.lnk n).hold = .long ∧ (t.lnk n).eidle = false ∧
        t.rd (LNK.LOS_CNT n) = sat32 (s.rd (LNK.LOS_CNT n)) 1 ∧ OtherLinks n s t))

/-- A packet with header bytes `h` (seven, then the CRC-8) and payload `d` with its CRC-32, ended by EOP (R48, R49). -/
def Sys2Proof.goodPacket (h : List Byte) (d : List Byte) : RxPacket :=
  { header := h ++ [BitVec.ofNat 8 (crc8 h)], body := d ++ (if d.isEmpty then [] else leBytes 4 (crc32 d)), ending := .eop }

/-- The seven header bytes before the CRC: TYPE, byte 1, LINE, LENGTH, byte 6 (R52). -/
def Sys2Proof.packetHeader (type b1 line len b6 : Nat) : List Byte :=
  [BitVec.ofNat 8 type, BitVec.ofNat 8 b1] ++ beBytes 2 line ++ beBytes 2 len ++ [BitVec.ofNat 8 b6]

/-- Every packet whose header fails its check (a wrong CRC-8, an undefined TYPE, a LENGTH over 16,384, a reserved FMT, or a header that
EOP cuts off) is counted in HCRC_CNT and has no other effect, whichever packet it was to be and in every state of the link; one cut off
in its header by anything else, and one with a good header that does not end in EOP, is counted in ABORT_CNT and has no other. -/
def Sys2Proof.DamagedHeaderIsCounted : Prop :=
  ∀ (s : State) (n : Fin 16) (p : RxPacket) (c : Instr),
    c ∈ [.frameStartPacket n p, .frameEndPacket n p, .videoLinePacket n p, .embeddedLinePacket n p, .sensorStatusPacket n p,
      .bcResponsePacket n p] →
    ((8 ≤ p.header.length ∧ headerOk (p.header.take 8) = false) ∨ (p.header.length < 8 ∧ p.ending = .eop) →
      Gives c s (fun t => t.rd (LNK.HCRC_CNT n) = sat32 (s.rd (LNK.HCRC_CNT n)) 1 ∧ OnlyRegs [LNK.HCRC_CNT n] s t ∧
        t = { s with regs := t.regs })) ∧
    (p.ending ≠ .eop ∧ (p.header.length < 8 ∨ headerOk (p.header.take 8) = true) →
      Gives c s (fun t => t.rd (LNK.ABORT_CNT n) = sat32 (s.rd (LNK.ABORT_CNT n)) 1 ∧ OnlyRegs [LNK.ABORT_CNT n] s t ∧
        t = { s with regs := t.regs }))

/-- A correct sensor status packet in ACTIVE: CAM_STAT takes its first four bytes, IDLE_ENTRY is noted, and a status bit set raises
the event. -/
def Obligations.SensorStatusIsTaken : Prop :=
  ∀ (s : State) (n : Fin 16) (b1 line b6 : Nat) (d : List Byte), (s.lnk n).training = .active → d.length = 8 →
    Gives (.sensorStatusPacket n (goodPacket (packetHeader 0x20 b1 line 8 b6) d)) s (fun t =>
      t.rd (LNK.CAM_STAT n) = (nth 0 d 0).toNat + 256 * (nth 0 d 1).toNat + 65536 * (256 * (nth 0 d 2).toNat + (nth 0 d 3).toNat) ∧
      (t.lnk n).idleEntry = (nth 0 d 0).toNat.testBit 0 ∧
      (fld (nth 0 d 0).toNat 1 4 ≠ 0 → t.bit (LNK.EVT n) 8 = true) ∧ OtherLinks n s t)

/-- A received symbol that is no code group counts in CV_CNT, one with the wrong disparity in DISP_CNT; either starts the count of
valid symbols again in ALIGN. In near-end loopback a wrong data symbol counts in LB_ERR_CNT, be it a valid group or not. -/
def Sys2Proof.SymbolErrorsAreCounted : Prop :=
  ∀ (s : State) (n : Fin 16) (err : Option SymbolFault) (wrong : Bool),
    Gives (.symbolError n err wrong) s (fun t =>
      t.rd (LNK.CV_CNT n) = sat32 (s.rd (LNK.CV_CNT n)) (if err = some .violation then 1 else 0) ∧
      t.rd (LNK.DISP_CNT n) = sat32 (s.rd (LNK.DISP_CNT n)) (if err = some .disparity then 1 else 0) ∧
      (t.lnk n).validFrom = (if err ≠ none ∧ (s.lnk n).training = .align then s.now else (s.lnk n).validFrom) ∧
      t.rd (LNK.LB_ERR_CNT n) = sat32 (s.rd (LNK.LB_ERR_CNT n)) (if wrong && s.nearLoop n then 1 else 0) ∧
      OnlyRegs [LNK.CV_CNT n, LNK.DISP_CNT n, LNK.LB_ERR_CNT n] s t ∧ (t.lnk n).training = (s.lnk n).training ∧ OtherLinks n s t)

/-- Damaged packets and damaged symbols are counted. -/
def Obligations.LinkErrorsAreCounted : Prop := Sys2Proof.DamagedHeaderIsCounted ∧ Sys2Proof.SymbolErrorsAreCounted

/-- The back channel: in ACTIVE with nothing in flight and no trigger waiting a due keep-alive starts, carrying the BSC of its SOP, and
becomes the anchor of triggers; when a request's packet ends the request awaits its response, nothing sent is lost, and, with two idle
symbols between, the oldest request that waits follows with the next tag, while fewer than four await theirs; in far-end loopback a gap
in which no request can be sent takes a loop test. -/
def Sys2Proof.BackChannelSends : Prop :=
  ∀ (s : State) (n : Fin 16), (s.lnk n).training = .active →
    ((s.lnk n).inFlight = none → (s.lnk n).triggers = [] →
      Gives (.keepaliveDue n) s (fun t =>
        (t.lnk n).inFlight = some (.keepalive (s.sopSymbol n % 2 ^ 32) (s.getF (LNK.LOOP_CTL n) 0 2 == 3) (s.idleOkNow n)) ∧
        t.time.anchors = Map.set none s.time.anchors n (some (s.sopTime n (s.sopSymbol n), s.sopSymbol n)) ∧
        (t.lnk n).idleOkSent = s.idleOkNow n ∧ (t.lnk n).kaDue = false ∧ t.regs = s.regs ∧ OtherLinks n s t)) ∧
    (∀ (r : BcRequest) (tag : Nat), (s.lnk n).inFlight = some (.request r tag) → (s.lnk n).triggers = [] → (s.lnk n).kaDue = false →
      (s.lnk n).script = [] →
      ((s.lnk n).requests = [] → s.getF (LNK.LOOP_CTL n) 0 2 ≠ 3 →
        Gives (.bcPacketComplete n) s (fun t =>
          (t.lnk n).inFlight = none ∧ (t.lnk n).outstanding = (s.lnk n).outstanding ++ [{ src := r.src, tag := tag }] ∧
          (t.lnk n).sopFrom = s.nextSymbol n + 2 ∧ t.regs = s.regs ∧ OtherLinks n s t)) ∧
      (∀ (q : BcRequest) (rest : List BcRequest), (s.lnk n).requests = q :: rest → (s.lnk n).outstanding.length < 3 →
        Gives (.bcPacketComplete n) s (fun t =>
          (t.lnk n).inFlight = some (.request q ((s.lnk n).tagCount % 128 + (if q.src = .host then 128 else 0))) ∧
          (t.lnk n).requests = rest ∧ (t.lnk n).outstanding = (s.lnk n).outstanding ++ [{ src := r.src, tag := tag }] ∧
          (t.lnk n).sopFrom = s.nextSymbol n + 2 ∧ t.regs = s.regs ∧ OtherLinks n s t)) ∧
      (3 ≤ (s.lnk n).outstanding.length → s.getF (LNK.LOOP_CTL n) 0 2 = 3 →
        Gives (.bcPacketComplete n) s (fun t =>
          (t.lnk n).inFlight = some (.loopTest (beBytes 20 (prbsBits 160 (s.lnk n).prbs 0).2)) ∧ (t.lnk n).requests = (s.lnk n).requests ∧
          (t.lnk n).outstanding = (s.lnk n).outstanding ++ [{ src := r.src, tag := tag }] ∧ t.regs = s.regs ∧ OtherLinks n s t)))

/-- Host requests: GO with a type and a length that fit (R58) queues the request, behind every earlier one, while none of the host's
is busy; other lengths complete at once with status 7 and no data; a GO while busy does nothing. -/
def Sys2Proof.HostRequestOnTheBackChannel : Prop :=
  ∀ (s : State) (n : Fin 16) (v : Word), wbit v 16 = true → Served s (LNK.BC_REQ_CTL n) →
    ((s.lnk n).hostBusy = false → bcLengthOk (v.toNat % 256) (v.toNat / 256 % 32) = true → (s.lnk n).inFlight.isSome = true →
      (s.lnk n).script = [] →
      Gives (.bcReqGo n v) s (fun t => (t.lnk n).hostBusy = true ∧ (t.lnk n).requests.length = (s.lnk n).requests.length + 1 ∧
        (t.lnk n).requests.take (s.lnk n).requests.length = (s.lnk n).requests ∧ OnlyRegs [LNK.BC_REQ_CTL n] s t ∧ OtherLinks n s t)) ∧
    ((s.lnk n).hostBusy = false → bcLengthOk (v.toNat % 256) (v.toNat / 256 % 32) = false →
      Gives (.bcReqGo n v) s (fun t => t.getF (LNK.BC_RSP_STAT n) 0 4 = 7 ∧ t.getF (LNK.BC_RSP_STAT n) 8 5 = 0 ∧ t.bit (LNK.EVT n) 3 = true ∧
        OnlyRegs [LNK.BC_REQ_CTL n, LNK.BC_RSP_STAT n, LNK.EVT n] s t ∧ t.link = s.link)) ∧
    ((s.lnk n).hostBusy = true → Gives (.bcReqGo n v) s (fun t => t.link = s.link ∧ OnlyRegs [LNK.BC_REQ_CTL n] s t))

/-- A response to a request of the host completes the oldest one with its TAG: its status, tag and data stand in the response
registers. A request without a response for 2 ms completes with status 6 and is counted. -/
def Sys2Proof.ResponsesComplete : Prop :=
  ∀ (s : State) (n : Fin 16) (tag : Byte), (s.lnk n).outstanding.find? (fun o => o.tag == tag.toNat) = some { src := .host, tag := tag.toNat } →
    (∀ (b1 line b6 : Nat) (status : Byte) (data : List Byte), (s.lnk n).training = .active → s.getF (LNK.LOOP_CTL n) 0 2 ≠ 3 →
      1 ≤ status.toNat → status.toNat ≤ 5 → data.length ≤ 16 →
      Gives (.bcResponsePacket n (goodPacket (packetHeader 0x30 b1 line (data.length + 2) b6) (tag :: status :: data))) s (fun t =>
        t.getF (LNK.BC_RSP_STAT n) 0 4 = status.toNat ∧ t.getF (LNK.BC_RSP_STAT n) 8 5 = data.length ∧ t.getF (LNK.BC_RSP_STAT n) 16 8 = tag.toNat ∧
        (∀ i, i < data.length → t.getF (LNK.BC_RSP_DATA n (i / 4)) (8 * (i % 4)) 8 = (nth 0 data i).toNat) ∧ t.bit (LNK.EVT n) 3 = true ∧
        (t.lnk n).outstanding = (s.lnk n).outstanding.eraseP (fun o => o.tag == tag.toNat) ∧ OtherLinks n s t)) ∧
    Gives (.bcRequestTimeout n tag) s (fun t =>
      t.getF (LNK.BC_RSP_STAT n) 0 4 = 6 ∧ t.getF (LNK.BC_RSP_STAT n) 8 5 = 0 ∧ t.bit (LNK.EVT n) 3 = true ∧ t.bit (LNK.EVT n) 4 = true ∧
      t.rd (LNK.BC_TO_CNT n) = sat32 (s.rd (LNK.BC_TO_CNT n)) 1 ∧
      (t.lnk n).outstanding = (s.lnk n).outstanding.eraseP (fun o => o.tag == tag.toNat) ∧ OtherLinks n s t)

/-- The back channel sends, takes the host's requests, and completes them. -/
def Obligations.BackChannel : Prop :=
  Sys2Proof.BackChannelSends ∧ Sys2Proof.HostRequestOnTheBackChannel ∧ Sys2Proof.ResponsesComplete

/-- Loopback and sounding are accepted on a link that the scene does not use, or in MAINTENANCE, and refused with an event on
others; a near-end loopback puts the link into RESET, far-end loopback starts a loop test on an idle back channel, and MODE going back to
0 puts the link into RESET with the short hold; a packet that does not come back while far-end loopback runs is an error; an interrupted sounding keeps its samples, with 0 after
them, reports ABORTED, and the link trains again after the long hold. -/
def Obligations.LoopbackAndSounding : Prop :=
  ∀ (s : State) (n : Fin 16) (v : Word), Served s (LNK.LOOP_CTL n) → Served s (LNK.SOUND_CTL n) →
    (s.linkTestOk n = true → (v.toNat % 4 = 1 ∨ v.toNat % 4 = 2) →
      Gives (.linkLoopbackSelect n v) s (fun t => t.rd (LNK.LOOP_CTL n) = v.toNat % 4 ∧ (t.lnk n).training = .reset ∧ OtherLinks n s t)) ∧
    (s.linkTestOk n = true → v.toNat % 4 = 3 → (s.lnk n).training = .active → (s.lnk n).inFlight = none → (s.lnk n).triggers = [] →
      (s.lnk n).kaDue = false → (s.lnk n).requests = [] → (s.lnk n).script = [] →
      Gives (.linkLoopbackSelect n v) s (fun t => t.rd (LNK.LOOP_CTL n) = 3 ∧ (t.lnk n).training = .active ∧
        (t.lnk n).inFlight = some (.loopTest (beBytes 20 (prbsBits 160 (s.lnk n).prbs 0).2)) ∧
        OnlyRegs [LNK.LOOP_CTL n] s t ∧ OtherLinks n s t)) ∧
    (s.getF (LNK.LOOP_CTL n) 0 2 ≠ 0 → v.toNat % 4 = 0 →
      Gives (.linkLoopbackSelect n v) s (fun t => t.rd (LNK.LOOP_CTL n) = 0 ∧ (t.lnk n).training = .reset ∧ (t.lnk n).hold = .short ∧
        (t.lnk n).loopOut = [] ∧ OtherLinks n s t)) ∧
    (s.linkTestOk n = false → v.toNat % 4 ≠ 0 →
      Gives (.linkLoopbackSelect n v) s (fun t => t.rd (LNK.LOOP_CTL n) = 0 ∧ t.bit (LNK.EVT n) 7 = true ∧
        (t.lnk n) = { s.lnk n with loopOut := [] } ∧ OtherLinks n s t ∧ OnlyRegs [LNK.LOOP_CTL n, LNK.EVT n] s t)) ∧
    (∀ (p : BcPacket) (rest : List BcPacket), (s.lnk n).loopOut = p :: rest →
      Gives (.loopbackReturnTimeout n) s (fun t => (t.lnk n).loopOut = rest ∧
        t.rd (LNK.LB_ERR_CNT n) = sat32 (s.rd (LNK.LB_ERR_CNT n)) (if s.getF (LNK.LOOP_CTL n) 0 2 = 3 then 1 else 0) ∧
        OnlyRegs [LNK.LB_ERR_CNT n] s t ∧ OtherLinks n s t)) ∧
    (s.linkTestOk n = true → wbit v 0 = true → (s.lnk n).sounding = .idle →
      Gives (.soundStart n v) s (fun t => (t.lnk n).sounding = .running ∧ (t.lnk n).training = .reset ∧ OtherLinks n s t)) ∧
    (s.linkTestOk n = false → wbit v 0 = true → (s.lnk n).sounding = .idle →
      Gives (.soundStart n v) s (fun t => t.getF (LNK.SOUND_STAT n) 0 2 = 3 ∧ t.bit (LNK.EVT n) 7 = true ∧ t.link = s.link)) ∧
    (∀ taken : List Byte, (s.lnk n).sounding = .running → taken.length < 768 → (s.lnk n).training = .reset →
      Gives (.soundingAbort n taken) s (fun t => (t.lnk n).sounding = .idle ∧ (t.lnk n).training = .reset ∧ (t.lnk n).hold = .long ∧
        t.rd (LNK.SOUND_STAT n) % 65536 = 2 ∧ t.bit (LNK.EVT n) 6 = true ∧
        (∀ i, i < 192 → t.rd (LNK.SOUND_BUF n i) = le (slice (taken ++ List.replicate 768 0) (4 * i) 4)) ∧ OtherLinks n s t))

/-! ### Camera front ends -/

/-- The other front ends and every link are as they were. -/
def Sys2Proof.OtherFes (n : Nat) (s t : State) : Prop := (∀ m, m ≠ n → t.fes m = s.fes m) ∧ t.link = s.link

/-- The open time of an entry that is executed now starts the frame with the next number, of the size of GEOM, absent if its camera is;
an entry that is not executed now opens nothing, and none opens a second frame. The close time of the open frame's entry ends it and
counts a short and a long frame; before that time nothing changes, and at a front end under test no window opens or closes. -/
def Obligations.FrameOpensAndCloses : Prop :=
  ∀ (s : State) (n : Fin 18),
    (∀ (old : Bool) (i : Nat) (e : FeEntry), (nth (0, []) (s.tableSet old).fe n).2[i]? = some e →
      (s.entryNow (16 + n) old e.slot e.carry = false ∨ (s.fes n).frame.isSome = true ∨ s.underTest (8 + n) = true → exec (.frameOpenTime ⟨n, old, i⟩) s = .next s) ∧
      ((s.fes n).inScene = true → s.underTest (8 + n) = false → s.entryNow (16 + n) old e.slot e.carry = true → (s.fes n).frame = none →
      Gives (.frameOpenTime ⟨n, old, i⟩) s (fun t =>
        t.rd (FE.FRAME_NUM n) = (s.rd (FE.FRAME_NUM n) + 1) % 2 ^ 32 ∧
        (∃ f, (t.fes n).frame = some f ∧ f.num = (s.rd (FE.FRAME_NUM n) + 1) % 2 ^ 32 ∧ f.width = s.getF (FE.GEOM n) 0 16 ∧
          f.height = s.getF (FE.GEOM n) 16 16 ∧ f.absent = s.feAbsent n ∧ f.entry = e ∧ f.base = s.sched.startCycle ∧
          f.lines = [] ∧ f.fills = 0) ∧
        t.rd (FE.ABSENT_FRAME_CNT n) = sat32 (s.rd (FE.ABSENT_FRAME_CNT n)) (if s.feAbsent n then 1 else 0) ∧ OtherFes n s t))) ∧
    (∀ f : FeFrame, (s.fes n).frame = some f →
      (s.now < f.base + f.entry.close ∨ s.underTest (8 + n) = true → exec (.frameCloseTime n) s = .next s) ∧
      (f.base + f.entry.close ≤ s.now → s.underTest (8 + n) = false → Gives (.frameCloseTime n) s (fun t => (t.fes n).frame = none ∧
        t.rd (FE.SHORT_FRAME_CNT n) = sat32 (s.rd (FE.SHORT_FRAME_CNT n)) (if f.short then 1 else 0) ∧
        t.rd (FE.LONG_FRAME_CNT n) = sat32 (s.rd (FE.LONG_FRAME_CNT n)) (if f.long then 1 else 0) ∧ OtherFes n s t)))

/-- What a deadline makes of a frame: line `l` of exposure `e` is past it. A line that has come stays as it is; one that has not is a fill
line, every sample of which is FILL and fill-marked, and makes a frame that is not camera-absent a short one. -/
def Sys2Proof.afterDeadline (f : FeFrame) (fill e l : Nat) : FeFrame :=
  let x := Map.get {} f.lines (65536 * e + l)
  if x.got then { f with lines := Map.set {} f.lines (65536 * e + l) { x with dl := true } }
  else { f with
    lines := Map.set {} f.lines (65536 * e + l) { got := true, px := List.replicate f.width (fill, true), dl := true },
    fills := f.fills + 1, short := f.short || !f.absent }

/-- LINE_DEADLINE, in every state: at a front end under test, with no frame open, before the deadline of the frame's entry, for an
exposure or line that the frame does not have, and a second time, nothing changes; else the line is past its deadline (`afterDeadline`), and one that has not come counts
as missing unless the frame is camera-absent. -/
def Sys2Proof.LineDeadline : Prop :=
  ∀ (s : State) (n : Fin 18) (e : Fin 3) (l : Nat),
    ((s.fes n).frame = none ∨ s.underTest (8 + n) = true → exec (.lineDeadline n e l) s = .next s) ∧
    (∀ f : FeFrame, (s.fes n).frame = some f → s.underTest (8 + n) = false →
      (f.nexp ≤ e.val ∨ f.height ≤ l ∨ s.now < f.base + f.entry.deadline e l ∨ (Map.get {} f.lines (65536 * e.val + l)).dl = true →
        exec (.lineDeadline n e l) s = .next s) ∧
      (e.val < f.nexp → l < f.height → f.base + f.entry.deadline e l ≤ s.now → (Map.get {} f.lines (65536 * e.val + l)).dl = false →
        Gives (.lineDeadline n e l) s (fun t =>
          t.fes n = { s.fes n with frame := some (afterDeadline f (s.getF (FE.FILL n) 0 24) e l) } ∧ OtherFes n s t ∧ t.cfs = s.cfs ∧
          ((Map.get {} f.lines (65536 * e.val + l)).got = true ∨ f.absent = true → t.regs = s.regs) ∧
          ((Map.get {} f.lines (65536 * e.val + l)).got = false → f.absent = false →
            t.rd (FE.MISSING_LINE_CNT n) = sat32 (s.rd (FE.MISSING_LINE_CNT n)) 1 ∧
            t.rd (SCHED.DEV_CNT (16 + n)) = sat32 (s.rd (SCHED.DEV_CNT (16 + n))) 1 ∧ t.bit SCHED.EVT 5 = true ∧
            OnlyRegs [FE.MISSING_LINE_CNT n, SCHED.DEV_CNT (16 + n), SCHED.EVT, SCHED.LAST_DEV] s t))))

/-- The line buffer without the lines that wait for merge row `r` of frame `num`. -/
def Sys2Proof.bufAfterRow (b : List (Nat × Nat × Nat)) (num r : Nat) : List (Nat × Nat × Nat) := b.filter (fun x => !(x.1 == num && x.2.1 == r))

/-- LINE_WRITE_SLOT, in every state: the row that the write time is of, a row kept of a closed frame or else row `r` of the open one, is
written once its time has come: the space its lines hold is free, its PART bit and its replacements are counted, its item, if the crop
takes the row, is pushed to the line queue, and nothing else of the front end changes. Before that time, where there is no such row, and
at a front end under test, nothing changes. -/
def Sys2Proof.LineWriteSlot : Prop :=
  ∀ (s : State) (n : Fin 18) (r : Nat),
    (s.underTest (8 + n) = true → exec (.lineWriteSlot n r) s = .next s) ∧
    (s.underTest (8 + n) = false → ∀ x : FeRow, (s.fes n).rows.find? (fun y => y.row == r) = some x →
      (s.now < x.due → exec (.lineWriteSlot n r) s = .next s) ∧
      (x.due ≤ s.now → Gives (.lineWriteSlot n r) s (fun t => ∃ u : State,
        u.cfs = s.cfs ∧ OtherFes n s u ∧ OnlyRegs [FE.MERGE_PART_CNT n, FE.DPC_DYN_CNT n] s u ∧
        u.rd (FE.MERGE_PART_CNT n) = sat32 (s.rd (FE.MERGE_PART_CNT n)) (if x.part then 1 else 0) ∧
        u.rd (FE.DPC_DYN_CNT n) = sat32 (s.rd (FE.DPC_DYN_CNT n)) x.dyn ∧
        u.fes n = { s.fes n with rows := (s.fes n).rows.eraseP (fun y => y.row == r), buf := bufAfterRow (s.fes n).buf x.num x.row } ∧
        t = match x.item with
          | none => u
          | some bs => u.push (s.fes n).lineQ n bs))) ∧
    (s.underTest (8 + n) = false → (s.fes n).rows.find? (fun y => y.row == r) = none →
      ((s.fes n).frame = none → exec (.lineWriteSlot n r) s = .next s) ∧
      (∀ f : FeFrame, (s.fes n).frame = some f →
        (f.height ≤ r ∨ s.now < f.base + f.entry.writes r → exec (.lineWriteSlot n r) s = .next s) ∧
        (r < f.height → f.base + f.entry.writes r ≤ s.now → Gives (.lineWriteSlot n r) s (fun t => ∃ u : State,
          u.cfs = s.cfs ∧ OtherFes n s u ∧ OnlyRegs [FE.MERGE_PART_CNT n, FE.DPC_DYN_CNT n] s u ∧
          u.fes n = { s.fes n with frame := some { f with written := r + 1 }, buf := bufAfterRow (s.fes n).buf f.num r } ∧
          t = match (s.feRow n f (s.feStatic n) r).item with
            | none => u
            | some bs => u.push (s.fes n).lineQ n bs))))

/-- Lines and rows of a frame at their times. -/
def Obligations.LineDeadlineFills : Prop := Sys2Proof.LineDeadline ∧ Sys2Proof.LineWriteSlot

/-- Correct packets of the selected stream, in ACTIVE, at a front end with an open frame and a camera that is present: a frame start
sets SENSOR_FC and marks the frame started, a frame end marks it ended, a video line that is due and new is accepted, and an
embedded line goes to its queue. -/
def Obligations.FramePacketsAreTaken : Prop :=
  ∀ (s : State) (n : Fin 16) (f : FeFrame) (x : Nat), (s.lnk n).training = .active → s.feTakes n = true → s.underTest (8 + n) = false →
    (s.fes n).frame = some f → f.absent = false → x < 4 →
    (∀ fc : Nat, fc < 65536 →
      Gives (.frameStartPacket n (goodPacket (packetHeader 0x01 (16 * s.getF (FE.SRC n) 0 4 + x) fc 0 0) [])) s (fun t =>
        t.rd (FE.SENSOR_FC n) = fc ∧ (∃ g, (t.fes n).frame = some g ∧ g.fs = true ∧ g.lines = f.lines) ∧ OtherFes n s t)) ∧
    (∀ fc : Nat, fc < 65536 →
      Gives (.frameEndPacket n (goodPacket (packetHeader 0x02 (16 * s.getF (FE.SRC n) 0 4 + x) fc 0 0) [])) s (fun t =>
        (∃ g, (t.fes n).frame = some g ∧ g.fe = true ∧ g.lines = f.lines) ∧ OtherFes n s t)) ∧
    (∀ (e l fmt : Nat) (d : List Byte), e < 3 → e < s.getF (FE.MERGE_CFG n) 0 2 → fmt < 7 → s.getF (FE.SRC n) 16 4 = fmt →
      l < f.height → l < 65536 → (Map.get {} f.lines (65536 * e + l)).got = false → (Map.get {} f.lines (65536 * e + l)).dl = false →
      (s.fes n).bufUsed + f.width * ((f.bits + 7) / 8) ≤ 262144 → d ≠ [] → d.length ≤ 16384 →
      Gives (.videoLinePacket n (goodPacket (packetHeader 0x10 (16 * s.getF (FE.SRC n) (4 * e) 4 + 4 * e + x) l d.length (16 * fmt)) d)) s (fun t =>
        (∃ g, (t.fes n).frame = some g ∧ g.anyLine = true ∧ (Map.get {} g.lines (65536 * e + l)).got = true ∧
          (Map.get {} g.lines (65536 * e + l)).crc = false ∧ (Map.get {} g.lines (65536 * e + l)).px.length = f.width) ∧ OtherFes n s t)) ∧
    (∀ (q : Nat) (d : List Byte), s.bit (FE.CTL n) 8 = true → (s.fes n).embQ = some q → d ≠ [] → d.length ≤ 16384 →
      Gives (.embeddedLinePacket n (goodPacket (packetHeader 0x12 (16 * s.getF (FE.SRC n) 20 4 + x) 0 d.length 0) d)) s (fun t =>
        t = s.push q n d))

/-- The pins of parallel port `p` as PP_CFG.EDGE has them sampled (R89). -/
def Sys2Proof.ppPins (s : State) (n : Nat) (c : PpClock) : PpPins := if s.bit (FE.PP_CFG n) 0 then c.fall else c.rise

/-- PP_VSYNC is active: at the level that PP_CFG.VS_POL gives (R89). -/
def Sys2Proof.ppVsync (s : State) (n : Nat) (c : PpClock) : Bool := (ppPins s n c).vs == s.bit (FE.PP_CFG n) 2

/-- The sample is valid: PP_HSYNC, or PP_DE where DE_EN is 1, is at the level that HS_DE_POL gives (R89, R90). -/
def Sys2Proof.ppValid (s : State) (n : Nat) (c : PpClock) : Bool :=
  (if s.bit (FE.PP_CFG n) 3 then (ppPins s n c).de else (ppPins s n c).hs) == s.bit (FE.PP_CFG n) 1

/-- The samples of a run as line samples: the low BITS bits of the pins (R89). -/
def Sys2Proof.ppLine (s : State) (n : Nat) (d : List PpClock) : List Nat := d.map (fun c => (ppPins s n c).d.toNat % 2 ^ s.feBits n)

/-- A parallel port that is enabled and not under test, no run being in progress. PP_VSYNC becoming active starts a frame and makes the
port present; valid samples with PP_VSYNC active, up to 4,096, and an invalid one are a run of the frame, and the line of its exposure
if it is one that is due and new; valid samples with PP_VSYNC inactive are a sync error each; PP_VSYNC becoming inactive ends the frame; a
port that becomes absent counts the loss. -/
def Sys2Proof.ParallelPort : Prop :=
  ∀ (s : State) (p : Fin 2) (n : Nat), n = 16 + p.val → s.bit (FE.CTL n) 0 = true → s.underTest (8 + n) = false →
    (∀ e : PpClock, (s.fes n).ppOpen = none → (s.fes n).ppVs = false → ppVsync s n e = true → ppValid s n e = false →
      Gives (.ppFrameStart p [e]) s (fun t => (t.fes n).ppPresent = true ∧ (t.fes n).ppFrame = true ∧ (t.fes n).ppVs = true ∧
        (t.fes n).ppRuns = 0 ∧ (t.fes n).ppFc = ((s.fes n).ppFc + 1) % 65536 ∧ OtherFes n s t)) ∧
    (∀ (d : List PpClock) (e : PpClock), (s.fes n).ppOpen = none → (∀ c ∈ d, ppValid s n c = true) → ppValid s n e = false → d ≠ [] →
      ((s.fes n).ppFrame = true → (s.fes n).ppVs = true → (∀ c ∈ e :: d, ppVsync s n c = true) → d.length ≤ 4096 →
        Gives (.ppLineRun p (d ++ [e])) s (fun t => (t.fes n).ppRuns = (s.fes n).ppRuns + 1 ∧ (t.fes n).ppOpen = none ∧
          t.rd (FE.PP_SYNC_ERR_CNT n) = s.rd (FE.PP_SYNC_ERR_CNT n) ∧ OtherFes n s t ∧
          ∀ (f : FeFrame) (l x : Nat), (s.fes n).ppRuns = s.getF (FE.PP_TIMING n) 0 8 + l * max 1 (s.getF (FE.PP_CFG n) 8 2) + x →
            x < max 1 (s.getF (FE.PP_CFG n) 8 2) → x < s.getF (FE.MERGE_CFG n) 0 2 → (s.fes n).inScene = true →
            (s.fes n).frame = some f → f.absent = false → l < f.height →
            (Map.get {} f.lines (65536 * x + l)).got = false → (Map.get {} f.lines (65536 * x + l)).dl = false →
            (s.fes n).bufUsed + f.width * ((f.bits + 7) / 8) ≤ 262144 →
            ∃ g, (t.fes n).frame = some g ∧ (Map.get {} g.lines (65536 * x + l)).got = true ∧
              (Map.get {} g.lines (65536 * x + l)).px = ((ppLine s n d).take f.width).map (fun v => (v, false)) ++
                List.replicate (f.width - d.length) (s.getF (FE.FILL n) 0 24, true))) ∧
      ((s.fes n).ppFrame = false → (∀ c ∈ e :: d, ppVsync s n c = false) →
        Gives (.ppLineRun p (d ++ [e])) s (fun t => t.rd (FE.PP_SYNC_ERR_CNT n) = sat32 (s.rd (FE.PP_SYNC_ERR_CNT n)) d.length ∧
          t.bit (FE.EVT n) 9 = true ∧ OnlyRegs [FE.PP_SYNC_ERR_CNT n, FE.EVT n] s t ∧
          t.fes n = { s.fes n with ppVs := false } ∧ OtherFes n s t))) ∧
    (∀ e : PpClock, (s.fes n).ppOpen = none → (s.fes n).ppFrame = true → ppVsync s n e = false → ppValid s n e = false →
      Gives (.ppFrameEnd ⟨p, [e]⟩) s (fun t => (t.fes n).ppFrame = false ∧ (t.fes n).ppVs = false ∧ OtherFes n s t)) ∧
    ((s.fes n).ppPresent = true →
      Gives (.ppAbsent p) s (fun t => (t.fes n).ppPresent = false ∧
        t.rd (FE.PP_LOSS_CNT n) = sat32 (s.rd (FE.PP_LOSS_CNT n)) 1 ∧ OtherFes n s t))

/-- The defect map and the shading gains, at a front end that serves accesses, are written while it is outside the scene, or in
MAINTENANCE; else the table stays and the event is set. -/
def Sys2Proof.FrontEndTables : Prop :=
  ∀ (s : State) (n : Fin 18) (v : Word),
    ((s.fes n).inScene = false ∨ s.mode = 6 →
      (∀ i, i < 578 → Served s (FE.LSC_GAIN n i) →
        Gives (.feTableWrite n false i v) s (fun t => t.rd (FE.LSC_GAIN n i) = v.toNat ∧ OnlyRegs [FE.LSC_GAIN n i] s t ∧ t.fe = s.fe)) ∧
      (∀ i, i < 4096 → Served s (FE.DPC_MAP n i) →
        Gives (.feTableWrite n true i v) s (fun t => t.rd (FE.DPC_MAP n i) &&& 0x9FFF1FFF = v.toNat &&& 0x9FFF1FFF ∧
          OnlyRegs [FE.DPC_MAP n i] s t ∧ t.fe = s.fe))) ∧
    ((s.fes n).inScene = true → s.mode ≠ 6 → ∀ (dpc : Bool) (i : Nat), Served s (if dpc then FE.DPC_MAP n i else FE.LSC_GAIN n i) →
      Gives (.feTableWrite n dpc i v) s (fun t => t.bit (FE.EVT n) 10 = true ∧ OnlyRegs [FE.EVT n] s t ∧ t.fe = s.fe))

/-- The parallel ports, and the tables of the front ends. -/
def Obligations.ParallelPortAndTables : Prop := Sys2Proof.ParallelPort ∧ Sys2Proof.FrontEndTables


/-! ### The Central Frame Store -/

/-- Every queue but `q` is as it was. -/
def Sys2Proof.OtherQueues (q : Nat) (s t : State) : Prop := ∀ r, r ≠ q → t.q r = s.q r

/-- An item without its cells and the bytes still to be written to them. -/
def Sys2Proof.blank (i : CfsItem) : CfsItem := { i with cells := [], rest := [] }

/-- Every item of the list is whole in its cells. -/
def Sys2Proof.AllWritten (l : List CfsItem) : Prop :=
  ∀ i ∈ l, i.kind = .data → i.rest = [] ∧ i.part = false ∧ i.cells.length = cellsOf i.len

/-- The queue holds its marker alone, of kind `k`, and the marker cell holds the 40 bytes of the marker. -/
def Sys2Proof.MarkerAlone (q : Nat) (k : ItemKind) (s t : State) : Prop :=
  (t.q q).items = [{ kind := k, len := 40, cells := [(s.q q).marker] }] ∧ (t.q q).mark.kind = k ∧ (t.q q).pend = 0 ∧
    Memory.read t.cfs.mem (256 * (s.q q).marker) 40 = (t.q q).mark.bytes q

/-- A pointer error at queue `q` is counted, and the queue is reset: it holds a reset marker alone, and its cells are orphans. -/
def Sys2Proof.ResetByError (q : Nat) (s t : State) : Prop :=
  MarkerAlone q .reset s t ∧ t.rd CFS.PTR_ERR_CNT = sat32 (s.rd CFS.PTR_ERR_CNT) 1 ∧ t.bit CFS.EVT 2 = true ∧
    t.cfs.orphansNew = s.cfs.orphansNew ++ ((s.q q).items.filter (fun i => i.kind = .data)).flatMap (·.cells) ∧ t.cfs.free = s.cfs.free ∧
    OtherQueues q s t

/-- A push within quota and pool adds one item at the tail, not yet committed; with everything before it written, its first cell is the
one that the port's rotation gives, and holds the first bytes. A push that does not fit is dropped and counted for the queue and the
store; one that R146 refuses changes no queue and counts as an operation error. A push in the cycle in which a read of the queue
completes nets the released cells in its quota test, and these return to their free lists in the next cycle. No other queue changes. So
it is in a store that nothing has struck; a tail whose copies differ resets the queue before the push, which then meets the reset queue. -/
def Obligations.PushAddsOneItemOrDropsIt : Prop :=
  ∀ (s : State) (q : Fin 1024) (port : Fin 32) (bytes : List Byte),
    (Calm s → s.pushAllowed q port bytes.length = true → s.quotaOk q (cellsOf bytes.length) = true → s.poolOk q (cellsOf bytes.length) = true →
      Gives (.itemPush q port bytes {}) s (fun t =>
        (t.q q).items.map blank = ((s.q q).items ++ [({ len := bytes.length } : CfsItem)]).map blank ∧
        t.rd (CFS.Q_DROP_CNT q) = s.rd (CFS.Q_DROP_CNT q) ∧ OtherQueues q s t ∧
        (∀ (c j : Nat) (skew : Bool) (f : CfsState), AllWritten (s.q q).items →
          s.cfs.takeFrom (Map.get 0 s.cfs.rot port) 4 = some (c, j, skew, f) →
          (t.q q).items = (s.q q).items ++ [{ len := bytes.length, cells := [c], rest := bytes.drop 256 }] ∧ t.cfs.free = f.free ∧
          Map.get 0 t.cfs.rot port = (j + 1) % 4 ∧
          Memory.read t.cfs.mem (256 * c) (min 256 bytes.length) = bytes.take 256 ∧
          ∀ x, (x < 256 * c ∨ 256 * c + 256 ≤ x) → Memory.readByte t.cfs.mem x = Memory.readByte s.cfs.mem x))) ∧
    (Calm s → s.pushAllowed q port bytes.length = true → (s.quotaOk q (cellsOf bytes.length) && s.poolOk q (cellsOf bytes.length)) = false →
      Gives (.itemPush q port bytes {}) s (fun t =>
        (t.q q).items.filter (fun i => i.kind == .data) = (s.q q).items.filter (fun i => i.kind == .data) ∧
        t.rd (CFS.Q_DROP_CNT q) = sat32 (s.rd (CFS.Q_DROP_CNT q)) 1 ∧ t.rd CFS.DROP_CNT = sat32 (s.rd CFS.DROP_CNT) 1 ∧
        t.bit CFS.EVT 0 = true ∧ OtherQueues q s t)) ∧
    (s.pushAllowed q port bytes.length = false →
      Gives (.itemPush q port bytes {}) s (fun t => t.cfs = s.cfs ∧ t.rd CFS.OP_ERR_CNT = sat32 (s.rd CFS.OP_ERR_CNT) 1 ∧
        t.bit CFS.EVT 6 = true ∧ OnlyRegs [CFS.OP_ERR_CNT, CFS.EVT] s t)) ∧
    (∀ (pre rest : List CfsItem) (i : CfsItem), (s.q q).items = pre ++ i :: rest → pre.all (fun x => !x.claimed) = true →
      i.claimed = true → i.kind = .data → Calm s → s.pushAllowed q port bytes.length = true → s.poolOk q (cellsOf bytes.length) = true →
      (s.q q).occ + cellsOf bytes.length ≤ (s.q q).quota + i.cells.length →
      Gives (.itemPush q port bytes { rel := true }) s (fun t =>
        (t.q q).items.map blank = (pre ++ rest ++ [({ len := bytes.length } : CfsItem)]).map blank ∧
        t.rd (CFS.Q_DROP_CNT q) = s.rd (CFS.Q_DROP_CNT q) ∧ (t.delivered q).length = (s.delivered q).length + 1 ∧ OtherQueues q s t ∧
        t.cfs.back = s.cfs.back ++ i.cells)) ∧
    (s.cfs.upsets = [.tail q] → s.pushAllowed q port bytes.length = true →
      exec (.itemPush q port bytes {}) s = exec (.itemPush q port bytes { err := { list := true } }) s ∧
      Gives (.itemPush q port bytes {}) s (fun t => OtherQueues q s t ∧ t.bit CFS.EVT 2 = true ∧ t.cfs.upsets = [] ∧
        t.rd CFS.PTR_ERR_CNT = sat32 (s.rd CFS.PTR_ERR_CNT) 1))

/-- Items commit in order: the oldest item not committed, all its bytes presented, commits once its last cell is written, and no other
changes. Where the two copies of the tail differ, struck or by the command's operand, the queue is reset instead. -/
def Sys2Proof.CommitIsInOrder : Prop :=
  ∀ (s : State) (q : Fin 1024),
    (∀ (pre rest : List CfsItem) (i : CfsItem), (s.q q).items = pre ++ i :: rest →
      pre.all (·.committed) = true → i.committed = false → i.part = false → Calm s →
      Gives (.itemCommit { q := q }) s (fun t =>
        (t.q q).items.map blank = (pre ++ { i with committed := true } :: rest).map blank ∧ OtherQueues q s t ∧
        (i.rest = [] → (∀ x ∈ rest, x.rest = []) →
          (t.q q).items = pre ++ { i with committed := true } :: rest ∧ t.regs = s.regs ∧ t.cfs.mem = s.cfs.mem ∧ t.cfs.free = s.cfs.free) ∧
        (∀ (c j : Nat) (skew : Bool) (f : CfsState), i.kind = .data → i.rest ≠ [] → i.rest.length ≤ 256 → (∀ x ∈ rest, x.rest = []) →
          s.cfs.takeFrom (Map.get 0 s.cfs.rot (s.q q).prod) 4 = some (c, j, skew, f) →
          (t.q q).items = pre ++ { i with committed := true, cells := i.cells ++ [c], rest := [] } :: rest ∧ t.cfs.free = f.free ∧
          Memory.read t.cfs.mem (256 * c) i.rest.length = i.rest))) ∧
    (∀ err : PtrErrs, (err.list = true ∨ .tail q.val ∈ s.cfs.upsets) → (s.q q).items.any (fun i => !i.committed) = true →
      Gives (.itemCommit { q := q, err := err }) s (fun t => ResetByError q s t))

/-- A pop by the consumer claims the oldest item that is not claimed, once it has committed; until then it stalls. A stalled pop is
served the same way once an item has committed, and can be cancelled; a cancel without one does nothing. A pop that meets a pointer
error, struck or by its operand, resets the queue and stalls. A pop that R146 refuses counts and changes no queue. -/
def Obligations.PopClaimsTheOldestItem : Prop :=
  ∀ (s : State) (q : Fin 1024) (port : Fin 32),
    (∀ (pre rest : List CfsItem) (i : CfsItem), (s.q q).items = pre ++ i :: rest → pre.all (·.claimed) = true →
      i.committed = true → i.claimed = false → Calm s →
      (s.popAllowed q port = true →
        Gives (.queuePop q port {}) s (fun t =>
          (t.q q).items = pre ++ { i with claimed := true, owner := 0, ue := 0 } :: rest ∧ (t.q q).stall = (s.q q).stall ∧
          t.regs = s.regs ∧ OtherQueues q s t)) ∧
      ((s.q q).stall ≠ 0 →
        Gives (.stalledPopServe q {}) s (fun t =>
          (t.q q).items = pre ++ { i with claimed := true, owner := 0, ue := 0 } :: rest ∧ (t.q q).stall + 1 = (s.q q).stall ∧
          t.regs = s.regs ∧ OtherQueues q s t))) ∧
    (Calm s → s.popAllowed q port = true → (∀ i, (s.q q).items.find? (fun x => !x.claimed) = some i → i.committed = false) →
      Gives (.queuePop q port {}) s (fun t =>
        (t.q q).items = (s.q q).items ∧ (t.q q).stall = (s.q q).stall + 1 ∧ t.regs = s.regs ∧ OtherQueues q s t)) ∧
    (∀ err : ReadErrs, (err.ptr = true ∨ (err = {} ∧ .head q.val ∈ s.cfs.upsets)) →
      (s.popAllowed q port = true →
        Gives (.queuePop q port err) s (fun t => ResetByError q s t ∧ (t.q q).stall = (s.q q).stall + 1)) ∧
      ((s.q q).stall ≠ 0 → (s.q q).canClaim = true →
        Gives (.stalledPopServe q err) s (fun t => ResetByError q s t ∧ (t.q q).stall = (s.q q).stall))) ∧
    (∀ err : ReadErrs, s.popAllowed q port = false →
      Gives (.queuePop q port err) s (fun t => t.cfs = s.cfs ∧ t.rd CFS.OP_ERR_CNT = sat32 (s.rd CFS.OP_ERR_CNT) 1 ∧ t.bit CFS.EVT 6 = true)) ∧
    ((s.q q).stall ≠ 0 →
      Gives (.popCancel q) s (fun t => (t.q q).stall + 1 = (s.q q).stall ∧ (t.q q).items = (s.q q).items ∧
        t.rd CFS.CANCEL_CNT = sat32 (s.rd CFS.CANCEL_CNT) 1 ∧ OnlyRegs [CFS.CANCEL_CNT] s t ∧ OtherQueues q s t)) ∧
    ((s.q q).stall = 0 → Gives (.popCancel q) s (fun t => t = s))

/-- The read of the oldest claimed item completes: the consumer has its bytes, the queue no longer holds it, and its cells wait to
return to their free lists in the next cycle; a marker's cell does not. A pointer error met in the read, struck or by the command's
operand, resets the queue, and every claimed item arrives cut. -/
def Sys2Proof.ReleaseReturnsTheCells : Prop :=
  ∀ (s : State) (q : Fin 1024) (pre rest : List CfsItem) (i : CfsItem), (s.q q).items = pre ++ i :: rest →
    pre.all (fun x => !x.claimed) = true → i.claimed = true →
    (Calm s → Gives (.itemRelease { q := q }) s (fun t =>
      (t.q q).items = pre ++ rest ∧
      t.delivered q = s.delivered q ++ [{ kind := i.kind, bytes := cfsReadCells s.cfs.mem i.cells i.len, ue := i.ue, owner := i.owner }] ∧
      t.cfs.back = s.cfs.back ++ (if i.kind = .data then i.cells else []) ∧ t.cfs.free = s.cfs.free ∧ t.cfs.mem = s.cfs.mem ∧
      OtherQueues q s t)) ∧
    (∀ err : ReadErrs, (err.ptr = true ∨ (err = {} ∧ ∃ c ∈ i.cells, .entry c ∈ s.cfs.upsets)) →
      Gives (.itemRelease { q := q, err := err }) s (fun t => ResetByError q s t ∧
        t.delivered q = s.delivered q ++ ((s.q q).items.filter (·.claimed)).map (fun i =>
          { kind := i.kind, bytes := cfsReadCells s.cfs.mem i.cells i.len, ue := i.ue, cut := true, owner := i.owner, cells := i.cells })))

/-- Items commit in order, and a release returns their cells. -/
def Obligations.CommitsAndReleases : Prop := Sys2Proof.CommitIsInOrder ∧ Sys2Proof.ReleaseReturnsTheCells

/-- A flush of an enabled queue leaves one marker in it, of kind flush, that says how many cells and items were thrown away, counts
in FLUSH_CNT, and hands the cells to a walk; a flush of a disabled queue does nothing. Where the copies of the head or of the marker
index differ, the queue is reset in place of the flush, which counts too (the model's choice, log entry 192). -/
def Sys2Proof.QueueFlush : Prop :=
  ∀ (s : State) (v : Word) (q : Nat), q = v.toNat % 1024 → Served s CFS.Q_FLUSH →
    ((s.q q).en = false → exec (.queueFlush v) s = .next s) ∧
    ((s.q q).en = true → (.head q ∈ s.cfs.upsets ∨ .marker q ∈ s.cfs.upsets) →
      Gives (.queueFlush v) s (fun t => ResetByError q s t ∧ t.rd CFS.FLUSH_CNT = sat32 (s.rd CFS.FLUSH_CNT) 1)) ∧
    ((s.q q).en = true → .head q ∉ s.cfs.upsets → .marker q ∉ s.cfs.upsets →
      Gives (.queueFlush v) s (fun t =>
        MarkerAlone q .flush s t ∧ (t.q q).mark.cells = (s.q q).occ ∧
        (t.q q).mark.items = min 0xFFFF ((s.q q).items.filter (fun i => i.kind = .data)).length ∧
        t.rd CFS.FLUSH_CNT = sat32 (s.rd CFS.FLUSH_CNT) 1 ∧ t.cfs.free = s.cfs.free ∧ t.cfs.orphansNew = s.cfs.orphansNew ∧
        (∀ cells, cells = ((s.q q).items.filter (fun i => i.kind = .data)).flatMap (·.cells) →
          t.cfs.walks = s.cfs.walks ++ (if cells = [] then [] else [cells])) ∧
        OtherQueues q s t))

/-- The oldest flush walk ends with its cells back on their free lists; one that a pointer error stops after `n` cells, by the command's
operand or at the first entry that has been struck, returns those and leaves the rest as orphans; with no walk in progress nothing
changes. -/
def Sys2Proof.FlushWalk : Prop :=
  ∀ s : State,
    (s.cfs.walks = [] → ∀ stop : Option Nat, exec (.flushWalkDone stop) s = .next s) ∧
    (∀ (w : List Nat) (rest : List (List Nat)), s.cfs.walks = w :: rest →
      ((∀ c ∈ w, .entry c ∉ s.cfs.upsets) →
        Gives (.flushWalkDone none) s (fun t => t.cfs.walks = rest ∧ t.cfs.free = (s.freeNow w).cfs.free ∧
          t.cfs.orphansNew = s.cfs.orphansNew ∧ t.cfs.queues = s.cfs.queues ∧ t.cfs.mem = s.cfs.mem ∧ t.regs = s.regs)) ∧
      ∀ (stop : Option Nat) (n : Nat),
        (stop = some n ∨ (stop = none ∧ n = (w.takeWhile (fun c => !s.meets [.entry c])).length ∧ n < w.length)) →
        Gives (.flushWalkDone stop) s (fun t => t.cfs.walks = rest ∧
          t.cfs.free = (s.freeNow (w.take n)).cfs.free ∧ t.cfs.orphansNew = s.cfs.orphansNew ++ w.drop n ∧
          t.rd CFS.PTR_ERR_CNT = sat32 (s.rd CFS.PTR_ERR_CNT) 1 ∧ t.bit CFS.EVT 2 = true ∧
          t.cfs.queues = s.cfs.queues ∧ t.cfs.mem = s.cfs.mem))

/-- Drops that wait for the marker cell leave by a deferred gap marker at the tail, once no marker is in the queue; in every other
case nothing changes. Where the copies of the marker index or of the tail differ, the queue is reset, and the reset marker holds the
drops. -/
def Sys2Proof.DeferredMarker : Prop :=
  ∀ (s : State) (q : Fin 1024),
    ((s.q q).en = false ∨ (s.q q).markerBusy = true ∨ (s.q q).pend = 0 → ∀ err : Bool, exec (.deferredMarkerWrite { q := q, err := err }) s = .next s) ∧
    ((s.q q).en = true → (s.q q).markerBusy = false → (s.q q).pend ≠ 0 →
      (.marker q.val ∉ s.cfs.upsets → .tail q.val ∉ s.cfs.upsets → Gives (.deferredMarkerWrite { q := q }) s (fun t =>
        (t.q q).items = (s.q q).items ++ [{ kind := .gap, len := 40, cells := [(s.q q).marker] }] ∧
        (t.q q).mark =
          { kind := .gap, deferred := true, sat := (s.q q).pendSat, pool := (s.q q).pendPool, drops := (s.q q).pend,
            firstHead := (s.q q).pendFirstHead, firstCycle := (s.q q).pendFirstCycle,
            lastHead := (s.q q).pendLastHead, lastCycle := (s.q q).pendLastCycle } ∧
        Memory.read t.cfs.mem (256 * (s.q q).marker) 40 = (t.q q).mark.bytes q ∧
        (t.q q).pend = 0 ∧ t.cfs.free = s.cfs.free ∧ t.regs = s.regs ∧ OtherQueues q s t)) ∧
      (∀ err : Bool, (err = true ∨ .marker q.val ∈ s.cfs.upsets ∨ .tail q.val ∈ s.cfs.upsets) →
        Gives (.deferredMarkerWrite { q := q, err := err }) s (fun t => ResetByError q s t ∧ (t.q q).mark.drops = min 0xFFFF (s.q q).pend)))

/-- Flushes, their walks, and deferred markers. -/
def Obligations.FlushLeavesAMarker : Prop := Sys2Proof.QueueFlush ∧ Sys2Proof.FlushWalk ∧ Sys2Proof.DeferredMarker

/-- An audit pass that meets no pointer error returns the orphans from before it, and of the later ones those its walk had not marked yet, and counts them; a scrub
read takes the next cell and counts the corrected and the uncorrectable words, those that have struck it with those of the operands; its write-back ends the wait of its cell. Without AUDIT_EN
or SCRUB_EN nothing changes. LO of a watermark stays below a non-zero HI. -/
def Obligations.AuditScrubAndWatermarks : Prop :=
  ∀ (s : State),
    (Calm s → s.bit CFS.CTL 0 = true → ∀ (late unmarked : List Nat),
      unmarked = s.cfs.orphansNew.filter (fun c => late.contains c && !s.cfs.marks.contains c) →
      Gives (.auditPassEnd { late := late }) s (fun t =>
        t.cfs.orphans = s.cfs.orphansNew.filter (fun c => !(late.contains c && !s.cfs.marks.contains c)) ∧ t.cfs.orphansNew = [] ∧ t.cfs.marks = [] ∧
        t.cfs.free = ((s.cfs.orphans ++ unmarked).foldl CfsState.putCell s.cfs).free ∧
        t.rd CFS.ORPHAN_CNT = sat32 (s.rd CFS.ORPHAN_CNT) (s.cfs.orphans ++ unmarked).length ∧ t.bit CFS.EVT 9 = true ∧
        (s.cfs.orphans ++ unmarked ≠ [] → t.bit CFS.EVT 3 = true) ∧
        t.getF CFS.AUDIT_STAT 0 16 = (s.getF CFS.AUDIT_STAT 0 16 + 1) % 65536 ∧ t.cfs.queues = s.cfs.queues)) ∧
    (s.bit CFS.CTL 0 = false → ∀ x : AuditPass, exec (.auditPassEnd x) s = .next s) ∧
    (∀ (ce : Fin 33) (ue : List (Nat × Nat)),
      (s.bit CFS.CTL 1 = false → exec (.scrubRead ce ue) s = .next s) ∧
      (s.bit CFS.CTL 1 = true →
        Gives (.scrubRead ce ue) s (fun t => t.cfs.scrubPos = (s.cfs.scrubPos + 1) % 196608 ∧
          t.rd CFS.ECC_CE_CNT = sat32 (s.rd CFS.ECC_CE_CNT) ((s.struck (fun c _ => c == s.cfs.scrubPos)).ce.length + ce) ∧
          t.rd CFS.ECC_UE_CNT = sat32 (s.rd CFS.ECC_UE_CNT) ((s.struck (fun c _ => c == s.cfs.scrubPos)).ue.length + ue.length) ∧
          (0 < ce.val → s.cfs.scrubPos ∈ t.cfs.scrubPend) ∧ t.cfs.queues = s.cfs.queues ∧ t.cfs.free = s.cfs.free))) ∧
    (∀ c : Fin 196608, Gives (.scrubWriteback c) s (fun t => c.val ∉ t.cfs.scrubPend ∧ (∀ d, d ≠ c.val → d ∈ s.cfs.scrubPend → d ∈ t.cfs.scrubPend) ∧
      t.cfs.mem = s.cfs.mem ∧ t.cfs.queues = s.cfs.queues ∧ t.regs = s.regs)) ∧
    (∀ (q : Fin 1024) (high : Bool) (v : Word), Served s (if high then CFS.Q_WM_HI q else CFS.Q_WM_LO q) →
      Gives (.watermarkWrite q high v) s (fun t =>
        (t.getF (CFS.Q_WM_HI q) 0 18 ≠ 0 → t.getF (CFS.Q_WM_LO q) 0 18 < t.getF (CFS.Q_WM_HI q) 0 18) ∧
        t.rd (CFS.Q_WM_HI q) = (if high then v.toNat % 2 ^ 18 else s.rd (CFS.Q_WM_HI q)) ∧
        (high = false → (s.getF (CFS.Q_WM_HI q) 0 18 = 0 ∨ v.toNat % 2 ^ 18 < s.getF (CFS.Q_WM_HI q) 0 18) →
          t.rd (CFS.Q_WM_LO q) = v.toNat % 2 ^ 18) ∧
        OnlyRegs [CFS.Q_WM_HI q, CFS.Q_WM_LO q] s t ∧ t.cfs = s.cfs))

/-! ### Engines -/

/-- Lane `i` of `w` bits of a vector register (R213). -/
def Sys2Proof.lane (w : Nat) (v : Vec) (i : Nat) : BitVec w := v.extractLsb' (w * i) w

/-- Scalar register `r` of an engine as a word. -/
def Sys2Proof.sreg (x : EngineState) (r : Nat) : Word := BitVec.ofNat 32 (x.sr r)

/-- The register that a result is for: vector, scalar (s0 among them), predicate, MODE, STRIDE, loop counter (R213); none for a store
or an emitted segment. -/
def Sys2Proof.writes : Dest → Option (Nat × Nat)
  | .vec r _ _ => some (0, r)
  | .scal r _ => some (1, r)
  | .pred r _ => some (2, r)
  | .mode _ => some (3, 0)
  | .stride _ => some (4, 0)
  | .lc i _ => some (5, i)
  | .store _ _ => none
  | .segment _ _ _ _ => none

/-- Engine `e` of cluster `k` runs, and this cycle is no empty cycle of a skipped loop body (R226): its bundle issues. -/
def Sys2Proof.Issuing (s : State) (k e : Nat) : Prop := (s.eng k e).phase = .running ∧ ((s.eng k e).bubble = 0 ∨ (s.eng k e).bubble = 3)

/-- The registers that the results `ds`, and the results issued before in the same bundle, are for: no two are one (R219). -/
def Sys2Proof.OnceEach (s : State) (k e : Nat) (ds : List Dest) : Prop :=
  ((ds ++ ((s.eng k e).flight.filter (fun f => f.issue == (s.eng k e).t)).map (·.dst)).filterMap writes).Nodup

/-- The conditions of R219 and R242 for an operation with results `ds` to issue. -/
def Sys2Proof.Ready (s : State) (k e : Nat) (ds : List Dest) : Prop := Issuing s k e ∧ OnceEach s k e ds

/-- The memory unit is not occupied in this cycle (R244). -/
def Sys2Proof.MemoryFree (x : EngineState) : Prop := x.memBusy = 0 ∨ x.memBusy < x.t

/-- `s` with engine `e` of cluster `k` as `y`, and results in flight, each with its latency (R242). Nothing else changes. -/
def Sys2Proof.issued (s : State) (k e : Nat) (y : EngineState) (ds : List (Nat × Dest)) : State :=
  s.setEng k e { y with flight := y.flight ++ ds.map (fun d => { issue := (s.eng k e).t, left := d.1, dst := d.2 }) }

/-- A result of latency `n` for vector register `r`, lane by lane, of which the lanes of predicate `p` are written (R233). -/
def Sys2Proof.VecIssued (s : State) (k e n r p w : Nat) (val : Nat → BitVec w) (t : State) : Prop :=
  ∃ v m : Vec, t = issued s k e (s.eng k e) [(n, .vec r v m)] ∧ (∀ i, i < 512 / w → lane w v i = val i) ∧
    (∀ i, i < 32 → lane 16 m i = if ((s.eng k e).pr p).testBit i then 0xFFFF else 0)

/-- One lane of a short vector operation, of `w` bits, with multiply shift `sh` and rounding `rm` (R220, R230). -/
def Sys2Proof.aluLane (w op sh rm : Nat) (a b : BitVec w) : BitVec w :=
  let sat := fun (i : Int) => BitVec.ofInt w (max (-(2 ^ (w - 1))) (min (2 ^ (w - 1) - 1) i))
  match op with
  | 1 => sat (a.toInt + b.toInt)
  | 2 => BitVec.ofNat w (min (2 ^ w - 1) (a.toNat + b.toNat))
  | 3 => sat (a.toInt - b.toInt)
  | 4 => BitVec.ofNat w (a.toNat - b.toNat)
  | 5 => if a.toInt ≤ b.toInt then a else b
  | 6 => if a.toInt ≤ b.toInt then b else a
  | 7 => if a.toNat ≤ b.toNat then a else b
  | 8 => if a.toNat ≤ b.toNat then b else a
  | 9 => a &&& b
  | 10 => a ||| b
  | 11 => a ^^^ b
  | 12 => sat (rndShift (a.toInt * b.toInt) sh rm)
  | 13 => BitVec.ofInt w (min (2 ^ w - 1) (rndShift ((a.toNat : Int) * b.toNat) sh rm))
  | 14 => BitVec.ofInt w (rndShift a.toInt (b.toNat % 16) rm)
  | _ => sat (a.toInt * 2 ^ (b.toNat % 16))

/-- The latency of a short vector operation (R242). -/
def Sys2Proof.aluLatency (op : Nat) : Nat := if op = 12 ∨ op = 13 then 3 else 2

/-- A short vector operation puts its lanes in flight for VD, after 2 cycles or, for a multiply, 3: each lane is the saturated or
logical result of the lanes of VA and VB, a multiply and a shift right rounded as MODE says; the lanes whose PS bit is 0 are not
written. rnd is floor, half up, half to even or toward zero. -/
def Obligations.ShortVectorOperations : Prop :=
  (∀ (s : State) (k : Fin 8) (e : Fin 16) (o : VecOp), Ready s k e [.vec o.vd 0 0] →
    let x := s.eng k e
    let P := fun (op : Nat) => VecIssued s k e (aluLatency op) o.vd o.ps 16
      (fun i => aluLane 16 op (x.mode / 4 % 16) (x.mode % 4) (lane 16 (x.vr o.va) i) (lane 16 (x.vr o.vb) i))
    Gives (.vadd k e o) s (P 1) ∧ Gives (.vaddu k e o) s (P 2) ∧ Gives (.vsub k e o) s (P 3) ∧ Gives (.vsubu k e o) s (P 4) ∧
    Gives (.vmin k e o) s (P 5) ∧ Gives (.vmax k e o) s (P 6) ∧ Gives (.vminu k e o) s (P 7) ∧ Gives (.vmaxu k e o) s (P 8) ∧
    Gives (.vand k e o) s (P 9) ∧ Gives (.vor k e o) s (P 10) ∧ Gives (.vxor k e o) s (P 11) ∧ Gives (.vmulq k e o) s (P 12) ∧
    Gives (.vmuluq k e o) s (P 13) ∧ Gives (.vshr k e o) s (P 14) ∧ Gives (.vshl k e o) s (P 15)) ∧
  (∀ (i : Int) (sh : Nat), rndShift i 0 0 = i ∧ rndShift i (sh + 1) 0 = i / 2 ^ (sh + 1) ∧
    rndShift i (sh + 1) 1 = (i + 2 ^ sh) / 2 ^ (sh + 1) ∧
    (2 * (i % 2 ^ (sh + 1)) = 2 ^ (sh + 1) → rndShift i (sh + 1) 2 % 2 = 0) ∧
    (2 * (i % 2 ^ (sh + 1)) ≠ 2 ^ (sh + 1) → rndShift i (sh + 1) 2 = (i + 2 ^ sh) / 2 ^ (sh + 1)) ∧
    rndShift i (sh + 1) 3 = i.tdiv (2 ^ (sh + 1)))

/-- A load by engine `e` of cluster `k` of `n` bytes at `a` meets the address map: local memory at any time, shared memory in the
engine's cycle for the bank, the context's active parameter buffer in the engine's cycle for it, with the latency of the region
and the bytes that stand there (R177, R215, R216). -/
def Sys2Proof.Loads (s : State) (k e a n lat : Nat) (bytes : List Byte) : Prop :=
  let x := s.eng k e
  let c := s.cl k
  bytes.length = n ∧
  ((a < 0x20000 ∧ lat = 4 ∧ ∀ j, j < n → bytes[j]? = some (Memory.readByte c.lmem (0x20000 * e + a + j))) ∨
   (0x100000 ≤ a ∧ a < 0x200000 ∧ a / 64 % 16 = (x.t + e) % 16 ∧ lat = 6 ∧
      ∀ j, j < n → bytes[j]? = some (Memory.readByte c.smem (a - 0x100000 + j))) ∨
   (0x200000 ≤ a ∧ a < 0x207000 ∧ (x.t + e) % 16 = 0 ∧ lat = 8 ∧
      ∀ j, j < n → bytes[j]? = some (Memory.readByte c.ctx (0x10000 * x.ctx + paramBase (s.activeBuf k x.ctx) + (a - 0x200000) + j))))

/-- A store to `a` meets the address map: local memory at any time, shared memory in the engine's cycle for the bank (R177, R215). -/
def Sys2Proof.Stores (s : State) (k e a : Nat) : Prop :=
  a < 0x20000 ∨ (0x100000 ≤ a ∧ a < 0x200000 ∧ a / 64 % 16 = ((s.eng k e).t + e) % 16)

/-- The post-increment of an LS operation of access size `size` (R221). -/
def Sys2Proof.postInc (x : EngineState) (o : LsOp) (size : Nat) : List (Nat × Dest) :=
  let a := sreg x (8 + o.ar)
  if o.inc = 0 then []
  else [(1, .scal (8 + o.ar) (if o.inc = 1 then a + BitVec.ofNat 32 size else if o.inc = 2 then a + x.stride else a - BitVec.ofNat 32 size))]

/-- Base plus the sign-extended offset in units of `scale` bytes, modulo 2^32 (R222). -/
def Sys2Proof.offsetAddr (x : EngineState) (o : LxOp) (scale : Nat) : Nat :=
  (sreg x (8 + o.ar) + (BitVec.ofNat 10 o.ofs).signExtend 32 * BitVec.ofNat 32 scale).toNat

/-- The aligned 16-bit word at `a` of local memory `e` of cluster `k` (R223). -/
def Sys2Proof.localHalf (s : State) (k e a : Nat) : Nat :=
  (Memory.readByte (s.cl k).lmem (0x20000 * e + a / 2 * 2)).toNat + 256 * (Memory.readByte (s.cl k).lmem (0x20000 * e + a / 2 * 2 + 1)).toNat

/-- A load with the memory unit free puts the bytes of its aligned address in flight with the latency of their region, and its address
register with the increment; a store puts its bytes in flight, a vector store those of the lanes of PS; a gather and a table look-up
read local memory lane by lane and occupy the memory unit for three more cycles. -/
def Obligations.MemoryOperations : Prop :=
  ∀ (s : State) (k : Fin 8) (e : Fin 16), MemoryFree (s.eng k e) →
    let x := s.eng k e
    (∀ (o : LsOp) (lat : Nat) (bs : List Byte), Loads s k e (x.sr (8 + o.ar) / 64 * 64) 64 lat bs →
      Ready s k e (.vec o.vr 0 0 :: (postInc x o 64).map (·.2)) →
      Gives (.vld k e o) s (fun t => ∃ v, t = issued s k e x ((lat, .vec o.vr v (BitVec.allOnes 512)) :: postInc x o 64) ∧
        ∀ j, j < 64 → bs[j]? = some (lane 8 v j))) ∧
    (∀ (o : LsOp) (lat : Nat) (bs : List Byte), Loads s k e (x.sr (8 + o.ar) / 4 * 4) 4 lat bs →
      Ready s k e (.scal (o.vr.val % 16) 0 :: (postInc x o 4).map (·.2)) →
      Gives (.sld k e o) s (fun t => t = issued s k e x ((lat, .scal (o.vr.val % 16) (BitVec.ofNat 32 (le bs))) :: postInc x o 4))) ∧
    (∀ o : LsOp, Stores s k e (x.sr (8 + o.ar) / 64 * 64) → Ready s k e ((postInc x o 64).map (·.2)) →
      Gives (.vst k e o) s (fun t => ∃ bs, t = issued s k e x ((2, .store (x.sr (8 + o.ar) / 64 * 64) bs) :: postInc x o 64) ∧
        bs.length = 64 ∧ ∀ j, j < 64 → bs[j]? = some (lane 8 (x.vr o.vr) j, (x.pr o.ps).testBit (j / 2)))) ∧
    (∀ (o : LxOp) (lat : Nat) (bs : List Byte), Loads s k e (offsetAddr x o 64 / 64 * 64) 64 lat bs → Ready s k e [.vec o.vr 0 0] →
      Gives (.vldo k e o) s (fun t => ∃ v, t = issued s k e x [(lat, .vec o.vr v (BitVec.allOnes 512))] ∧ ∀ j, j < 64 → bs[j]? = some (lane 8 v j))) ∧
    (∀ (o : LxOp) (lat : Nat) (bs : List Byte), Loads s k e (offsetAddr x o 2 / 2 * 2) 2 lat bs → Ready s k e [.vec o.vr 0 0] →
      Gives (.vldb k e o) s (fun t => ∃ v, t = issued s k e x [(lat, .vec o.vr v (BitVec.allOnes 512))] ∧
        ∀ i, i < 32 → (lane 16 v i).toNat = le bs)) ∧
    (∀ (o : LxOp) (lat : Nat) (bs : List Byte), Loads s k e (offsetAddr x o 4 / 4 * 4) 4 lat bs → Ready s k e [.scal (o.vr.val % 16) 0] →
      Gives (.sldo k e o) s (fun t => t = issued s k e x [(lat, .scal (o.vr.val % 16) (BitVec.ofNat 32 (le bs)))])) ∧
    (∀ o : LxOp, Stores s k e (offsetAddr x o 64 / 64 * 64) → Ready s k e [] →
      Gives (.vsto k e o) s (fun t => ∃ bs, t = issued s k e x [(2, .store (offsetAddr x o 64 / 64 * 64) bs)] ∧
        bs.length = 64 ∧ ∀ j, j < 64 → bs[j]? = some (lane 8 (x.vr o.vr) j, (x.pr o.ps).testBit (j / 2)))) ∧
    (∀ o : LxOp, Stores s k e (offsetAddr x o 4 / 4 * 4) → Ready s k e [] →
      Gives (.ssto k e o) s (fun t => ∃ bs, t = issued s k e x [(2, .store (offsetAddr x o 4 / 4 * 4) bs)] ∧
        bs.length = 4 ∧ ∀ j, j < 4 → bs[j]? = some ((sreg x (o.vr.val % 16)).extractLsb' (8 * j) 8, true))) ∧
    (∀ o : LxOp, Ready s k e [.vec o.vr 0 0] → x.sr (8 + o.ar) < 0x20000 →
      Gives (.vgath k e o) s (fun t => ∃ v, t = issued s k e { x with memBusy := x.t + 3 } [(8, .vec o.vr v (BitVec.allOnes 512))] ∧
        ∀ i, i < 32 → (lane 16 v i).toNat = localHalf s k e ((x.sr (8 + o.ar) + 2 * (lane 16 (x.vr o.vr) i).toNat) % 0x20000))) ∧
    (∀ o : LxOp, Ready s k e [.vec o.vr 0 0] → 1 ≤ o.ofs.val % 16 → o.ofs.val % 16 ≤ 12 →
      x.sr (8 + o.ar) + 2 * 2 ^ (o.ofs.val % 16) ≤ 0x20000 →
      Gives (.vlut k e o) s (fun t => ∃ v, t = issued s k e { x with memBusy := x.t + 3 } [(6, .vec o.vr v (BitVec.allOnes 512))] ∧
        ∀ i, i < 32 → (lane 16 v i).toNat =
          localHalf s k e (x.sr (8 + o.ar) + 2 * min (lane 16 (x.vr o.vr) i).toNat (2 ^ (o.ofs.val % 16) - 1))))

/-- Scalar arithmetic and logic wrap modulo 2^32 and are in flight for one cycle, smul for two; pmov, spmov, smode and sstride put a
predicate, a scalar, MODE and STRIDE in flight for one cycle. -/
def Obligations.ScalarOperations : Prop :=
  ∀ (s : State) (k : Fin 8) (e : Fin 16),
    let x := s.eng k e
    (∀ d a : Fin 16, Ready s k e [.scal d 0] →
      exec (.sadd k e d a) s = .next (issued s k e x [(1, .scal d (sreg x d + sreg x a))]) ∧
      exec (.ssub k e d a) s = .next (issued s k e x [(1, .scal d (sreg x d - sreg x a))]) ∧
      exec (.smov k e d a) s = .next (issued s k e x [(1, .scal d (sreg x a))])) ∧
    (∀ o : SlOp,
      let a := sreg x o.sa
      let sh := o.imm.val % 32
      let b := sreg x (o.imm.val % 16)
      (Ready s k e [.scal o.sd 0] →
        exec (.saddi k e o) s = .next (issued s k e x [(1, .scal o.sd (a + (BitVec.ofNat 15 o.imm).signExtend 32))]) ∧
        exec (.sandi k e o) s = .next (issued s k e x [(1, .scal o.sd (a &&& BitVec.ofNat 32 o.imm))]) ∧
        exec (.sori k e o) s = .next (issued s k e x [(1, .scal o.sd (a ||| BitVec.ofNat 32 o.imm))]) ∧
        exec (.sshli k e o) s = .next (issued s k e x [(1, .scal o.sd (a <<< sh))]) ∧
        exec (.sshri k e o) s = .next (issued s k e x [(1, .scal o.sd (a >>> sh))]) ∧
        exec (.ssrai k e o) s = .next (issued s k e x [(1, .scal o.sd (a.sshiftRight sh))]) ∧
        exec (.slui k e o) s = .next (issued s k e x [(1, .scal o.sd ((BitVec.ofNat 32 o.imm <<< 17) ||| (a &&& 0x1FFFF)))]) ∧
        exec (.smul k e o) s = .next (issued s k e x [(2, .scal o.sd (a * b))]) ∧
        exec (.sadd3 k e o) s = .next (issued s k e x [(1, .scal o.sd (a + b))]) ∧
        exec (.ssub3 k e o) s = .next (issued s k e x [(1, .scal o.sd (a - b))]) ∧
        exec (.spmov k e o) s = .next (issued s k e x [(1, .scal o.sd (BitVec.ofNat 32 (x.pr (o.sa.val % 8))))])) ∧
      (Ready s k e [.pred (o.sd.val % 8) 0] → o.sd.val % 8 ≠ 0 →
        exec (.pmov k e o) s = .next (issued s k e x [(1, .pred (o.sd.val % 8) a)])) ∧
      (Ready s k e [.mode 0] → exec (.smode k e o) s = .next (issued s k e x [(1, .mode (o.imm.val % 64))])) ∧
      (Ready s k e [.stride 0] →
        exec (.sstride k e o) s = .next (issued s k e x [(1, .stride (a + (BitVec.ofNat 15 o.imm).signExtend 32))])))

/-- The bundle is one of the two delay bundles of a branch (R225). -/
def Sys2Proof.Delayed (x : EngineState) : Prop := x.delay = 1 ∨ x.delay = 2

/-- The bundle is the last of a loop body whose counter is not 0 (R226). -/
def Sys2Proof.BodyEnd (x : EngineState) : Prop := x.past = false ∧ ((x.lc1 ≠ 0 ∧ x.pc = x.body1.2) ∨ (x.lc0 ≠ 0 ∧ x.pc = x.body0.2))

/-- The body from the next bundle through `last` keeps LC1's body wholly within LC0's: for LC0 (`i` = 0), where LC1 loops; for LC1,
where LC0 loops (R226). -/
def Sys2Proof.Nested (x : EngineState) (i last : Nat) : Prop :=
  if i = 0 then x.lc1 = 0 ∨ (x.pc + 1 ≤ x.body1.1 ∧ x.body1.2 ≤ last) else x.lc0 = 0 ∨ (x.body0.1 ≤ x.pc + 1 ∧ last ≤ x.body0.2)

/-- The engine with the body of loop counter `i` as `b`. -/
def Sys2Proof.withBody (x : EngineState) (i : Nat) (b : Nat × Nat) : EngineState :=
  if i = 0 then { x with body0 := b } else { x with body1 := b }

/-- A branch outside delay bundles and body ends records its target, if taken, and its two delay bundles; a loop with a count sets its
counter and body, a loop of 0 skips the body with two empty cycles, each where the counter is 0 and the bodies nest; end ends the
program; the no-operations do nothing. -/
def Obligations.ControlFlow : Prop :=
  ∀ (s : State) (k : Fin 8) (e : Fin 16),
    let x := s.eng k e
    (Ready s k e [] → exec (.vnop k e) s = .next (issued s k e x []) ∧ exec (.xnop k e) s = .next (issued s k e x [])) ∧
    (∀ o : SlOp, Ready s k e [] → ¬ Delayed x → ¬ BodyEnd x →
      let go := fun (taken : Bool) => issued s k e { x with delay := 3, target := if taken then some (o.imm.val % 2048) else none } []
      exec (.br k e o) s = .next (go true) ∧
      exec (.brz k e o) s = .next (go (sreg x o.sa == 0)) ∧
      exec (.brnz k e o) s = .next (go (sreg x o.sa != 0)) ∧
      exec (.brneg k e o) s = .next (go (sreg x o.sa).msb)) ∧
    (∀ (o : SlOp) (i last : Nat), i = o.sd.val % 2 → last = o.imm.val % 2048 → ¬ Delayed x → ¬ BodyEnd x → x.pc < last →
      (if i = 0 then x.lc0 else x.lc1) = 0 → Nested x i last →
      (x.sr o.sa ≠ 0 → Ready s k e [.lc i 0] →
        exec (.loop k e o) s = .next (issued s k e (withBody x i (x.pc + 1, last)) [(1, .lc i (x.sr o.sa % 65536))])) ∧
      (x.sr o.sa = 0 → Ready s k e [] →
        exec (.loop k e o) s = .next (issued s k e { withBody x i (x.pc + 1, last) with bubble := 3, target := some (last + 1) } []))) ∧
    (Ready s k e [] → ¬ Delayed x → exec (.endBundle k e) s = .next (issued s k e { x with ending := true } []))

/-- Extended vector operations: valu is a short operation on lanes of ES with SH and RND; vmac and vmacu accumulate into a lane pair;
the narrowings, the rounded multiplies, splat, compare, select, reduce, permute, extract and absolute difference put the lanes that
their table gives in flight. -/
def Obligations.ExtendedVectorOperations : Prop :=
  ∀ (s : State) (k : Fin 8) (e : Fin 16) (o : ExtOp),
    let x := s.eng k e
    let w := if o.es then 8 else 16
    let A := fun (i : Nat) => lane w (x.vr o.va) i
    let B := fun (i : Nat) => lane w (x.vr o.vb) i
    let pair := fun (r i : Nat) => lane 16 (x.vr (r + 1)) i ++ lane 16 (x.vr r) i
    let V := fun (n : Nat) (f : Nat → BitVec w) => VecIssued s k e n o.vd o.pd w f
    (Ready s k e [.vec o.vd 0 0] →
      (o.imm.val % 16 ≠ 0 →
        Gives (.valu k e o) s (V (aluLatency (o.imm.val % 16)) (fun i => aluLane w (o.imm.val % 16) o.sh o.rnd (A i) (B i)))) ∧
      (o.va.val % 2 = 0 → o.es = false →
        Gives (.vnarrow k e o) s (VecIssued s k e 2 o.vd o.pd 16
          (fun i => BitVec.ofInt 16 (max (-32768) (min 32767 (rndShift (pair o.va i).toInt o.sh o.rnd))))) ∧
        Gives (.vnarrowu k e o) s (VecIssued s k e 2 o.vd o.pd 16
          (fun i => BitVec.ofInt 16 (max 0 (min o.imm (rndShift (pair o.va i).toInt o.sh o.rnd)))))) ∧
      Gives (.vmulr k e o) s (V 3 (fun i => BitVec.ofInt w (max (-(2 ^ (w - 1))) (min (2 ^ (w - 1) - 1)
        (rndShift ((A i).toInt * (B i).toInt) o.sh o.rnd))))) ∧
      Gives (.vmulru k e o) s (V 3 (fun i => BitVec.ofInt w (min (min o.imm.val (2 ^ w - 1) : Nat)
        (rndShift (((A i).toNat : Int) * (B i).toNat) o.sh o.rnd)))) ∧
      Gives (.vsplat k e o) s (V 1 (fun _ => BitVec.ofNat w o.imm)) ∧
      Gives (.vsel k e o) s (fun t => ∃ v, t = issued s k e x [(2, .vec o.vd v (BitVec.allOnes 512))] ∧
        ∀ i, i < 32 → lane 16 v i = if (x.pr o.pd).testBit i then lane 16 (x.vr o.va) i else lane 16 (x.vr o.vb) i) ∧
      Gives (.vperm k e o) s (V 2 (fun i => A ((B i).toNat % (512 / w)))) ∧
      (o.imm.val % 64 < 512 / w →
        Gives (.vext k e o) s (V 2 (fun i => if i + o.imm.val % 64 < 512 / w then A (i + o.imm.val % 64) else B (i + o.imm.val % 64 - 512 / w)))) ∧
      Gives (.vabsd k e o) s (V 2 (fun i => if (A i).toNat ≤ (B i).toNat then B i - A i else A i - B i))) ∧
    (o.vd.val % 2 = 0 → o.es = false → Ready s k e [.vec o.vd 0 0, .vec (o.vd + 1 : Nat) 0 0] →
      let P := fun (f : Nat → BitVec 32) (t : State) => ∃ lo hi m : Vec,
        t = issued s k e x [(3, .vec o.vd lo m), (3, .vec (o.vd + 1 : Nat) hi m)] ∧
        (∀ i, i < 32 → lane 16 hi i ++ lane 16 lo i = f i ∧ lane 16 m i = if (x.pr o.pd).testBit i then 0xFFFF else 0)
      Gives (.vmac k e o) s (P (fun i => BitVec.ofInt 32 (max (-(2 ^ 31)) (min (2 ^ 31 - 1)
        ((pair o.vd i).toInt + (lane 16 (x.vr o.va) i).toInt * (lane 16 (x.vr o.vb) i).toInt))))) ∧
      Gives (.vmacu k e o) s (P (fun i => BitVec.ofNat 32 (min (2 ^ 32 - 1)
        ((pair o.vd i).toNat + (lane 16 (x.vr o.va) i).toNat * (lane 16 (x.vr o.vb) i).toNat))))) ∧
    (o.vd.val % 8 ≠ 0 → o.sh.val % 8 < 6 → Ready s k e [.pred (o.vd.val % 8) 0] →
      let cond := fun (i : Nat) => match o.sh.val % 8 with
        | 0 => decide (A i = B i)
        | 1 => decide (A i ≠ B i)
        | 2 => decide ((A i).toInt < (B i).toInt)
        | 3 => decide ((A i).toInt ≤ (B i).toInt)
        | 4 => decide ((A i).toNat < (B i).toNat)
        | _ => decide ((A i).toNat ≤ (B i).toNat)
      Gives (.vcmp k e o) s (fun t => ∃ p : Word, t = issued s k e x [(2, .pred (o.vd.val % 8) p)] ∧
        ∀ i, i < 32 → p.getLsbD i = ((x.pr o.pd).testBit i && if o.es then cond (2 * i) && cond (2 * i + 1) else cond i))) ∧
    (o.vd.val < 16 → Ready s k e [.scal o.vd 0] →
      let on := (List.range 32).filter (fun i => (x.pr o.pd).testBit i)
      let sg := on.map (fun i => (lane 16 (x.vr o.va) i).toInt)
      let us := on.map (fun i => (lane 16 (x.vr o.va) i).toNat)
      Gives (.vred k e o) s (fun t => ∃ r : Word, t = issued s k e x [(5, .scal o.vd r)] ∧
        (o.sh.val % 4 = 0 → r.toInt = max (-(2 ^ 31)) (min (2 ^ 31 - 1) sg.sum)) ∧
        (o.sh.val % 4 = 1 → r.toInt = sg.foldl min 32767) ∧
        (o.sh.val % 4 = 2 → r.toInt = sg.foldl max (-32768)) ∧
        (o.sh.val % 4 = 3 → r.toNat = us.sum)))

/-- No operation in `l` that is due at this end of cycle has result `d`. -/
def Sys2Proof.NoneDue (l : List Flight) (d : Dest → Prop) : Prop := ∀ f ∈ l, f.left ≤ 1 → ¬ d f.dst

/-- The program counter is at bundle `b`; past bundle 2,047, the last there is, it stays at 2,047 and the engine has left the program
(the model's reading, log entry 149). -/
def Sys2Proof.AtBundle (b : Nat) (y : EngineState) : Prop := y.pc = min b 2047 ∧ y.past = decide (2047 < b)

/-- The end of an engine cycle moves the program counter: on to the next bundle, past the two delay bundles of a branch and then to its
target if it was taken, round a loop body while its counter exceeds 1 and out of it otherwise, the inner first, over the two empty
cycles of a skipped body, and to the end after the end bundle. An engine that does not run keeps its program counter, and so does one
that has left its program. The bundle holds no reserved operation code. -/
def Sys2Proof.CycleEndSequencesBundles : Prop :=
  ∀ (s : State) (k : Fin 8) (e : Fin 16),
    let x := s.eng k e
    let G := fun (P : EngineState → Prop) => Gives (.resultWriteback k e) s (fun t => (t.eng k e).t = x.t + 1 ∧ P (t.eng k e))
    bundleReserved (s.bundleAt k e) = false →
    (x.phase ≠ .running → G (fun y => y.pc = x.pc ∧ y.phase = x.phase)) ∧
    (x.phase = .running → x.ending = true → G (fun y => y.phase = .idle ∧ y.ended = true ∧ y.pc = x.pc)) ∧
    (x.phase = .running → x.ending = false →
      (x.bubble = 2 ∨ x.bubble = 3 → G (fun y => y.pc = x.pc ∧ y.bubble + 1 = x.bubble ∧ y.phase = .running)) ∧
      (∀ b, x.bubble = 1 → x.target = some b → G (fun y => AtBundle b y ∧ y.bubble = 0 ∧ y.phase = .running)) ∧
      (x.bubble = 0 → x.past = true → x.delay = 0 → G (fun y => y.pc = x.pc ∧ y.past = true ∧ y.phase = .running)) ∧
      (x.bubble = 0 → x.past = false → (x.lc1 = 0 ∨ x.pc ≠ x.body1.2) → (x.lc0 = 0 ∨ x.pc ≠ x.body0.2) →
        (x.delay = 0 → G (fun y => AtBundle (x.pc + 1) y ∧ y.delay = 0 ∧ y.phase = .running)) ∧
        (x.delay = 2 ∨ x.delay = 3 → G (fun y => AtBundle (x.pc + 1) y ∧ y.delay + 1 = x.delay ∧ y.target = x.target ∧ y.phase = .running)) ∧
        (x.delay = 1 → G (fun y => AtBundle (x.target.getD (x.pc + 1)) y ∧ y.delay = 0 ∧ y.target = none ∧ y.phase = .running))) ∧
      (x.bubble = 0 → x.past = false → x.delay = 0 → NoneDue x.flight (fun d => ∃ i n, d = .lc i n) →
        (x.pc = x.body1.2 → 1 < x.lc1 → G (fun y => y.pc = x.body1.1 ∧ y.lc1 + 1 = x.lc1 ∧ y.lc0 = x.lc0)) ∧
        (x.pc = x.body1.2 → x.lc1 = 1 → (x.lc0 = 0 ∨ x.pc ≠ x.body0.2) → G (fun y => AtBundle (x.pc + 1) y ∧ y.lc1 = 0 ∧ y.lc0 = x.lc0)) ∧
        (x.pc = x.body0.2 → 1 < x.lc0 → (x.lc1 = 0 ∨ x.pc ≠ x.body1.2) → G (fun y => y.pc = x.body0.1 ∧ y.lc0 + 1 = x.lc0 ∧ y.lc1 = x.lc1)) ∧
        (x.pc = x.body0.2 → x.lc0 = 1 → (x.lc1 = 0 ∨ x.pc ≠ x.body1.2) → G (fun y => AtBundle (x.pc + 1) y ∧ y.lc0 = 0 ∧ y.lc1 = x.lc1)) ∧
        (x.pc = x.body0.2 → x.pc = x.body1.2 → 1 < x.lc0 → x.lc1 = 1 → G (fun y => y.pc = x.body0.1 ∧ y.lc0 + 1 = x.lc0 ∧ y.lc1 = 0)) ∧
        (x.pc = x.body0.2 → x.pc = x.body1.2 → x.lc0 = 1 → x.lc1 = 1 → G (fun y => AtBundle (x.pc + 1) y ∧ y.lc0 = 0 ∧ y.lc1 = 0))))

/-- At the end of an engine cycle the results whose latency has elapsed are written, the later-issued one of two that reach one
register; a register without a result due, and one whose result has cycles left, stays; a vector result writes the bits of its mask;
a store writes its flagged bytes and no other byte of the cluster's memories; the outlet copies an emitted segment 64
bytes of local memory in each cycle, and holds it whole after the last. -/
def Sys2Proof.CycleEndWritesResults : Prop :=
  ∀ (s : State) (k : Fin 8) (e : Fin 16),
    let x := s.eng k e
    let G := fun (P : State → Prop) => Gives (.resultWriteback k e) s P
    let oneDue := fun (d : Dest) (same : Dest → Prop) => ∃ pre post f, x.flight = pre ++ f :: post ∧ f.left ≤ 1 ∧ f.dst = d ∧
      NoneDue pre same ∧ NoneDue post same
    bundleReserved (s.bundleAt k e) = false →
    let onward := (x.flight.filter (fun f => decide (1 < f.left))).map (fun f => { f with left := f.left - 1 })
    (NoneDue x.flight (fun d => ∃ i u v g, d = .segment i u v g ∧ 64 < v) → G (fun t => (t.eng k e).flight = onward)) ∧
    (∀ (line a n : Nat) (got : List Byte), oneDue (.segment line a n got) (fun d => ∃ i u v g, d = .segment i u v g) → 64 < n →
      NoneDue x.flight (fun d => ∃ b c, d = .store b c) →
      let d : Dest := .segment line (a + 64) (n - 64) (got ++ Memory.read (s.cl k).lmem (0x20000 * e + a) 64)
      G (fun t => (t.eng k e).flight = onward ++ [{ issue := x.t + 1, left := 1, dst := d }])) ∧
    (∀ (r : Nat) (v : Word) (pre post : List Flight) (f : Flight), r ≠ 0 → x.flight = pre ++ f :: post → f.left ≤ 1 → f.dst = .scal r v →
      NoneDue post (fun d => ∃ u, d = .scal r u) → G (fun t => sreg (t.eng k e) r = v)) ∧
    (∀ r : Nat, NoneDue x.flight (fun d => ∃ u, d = .scal r u) → G (fun t => (t.eng k e).sr r = x.sr r)) ∧
    (∀ (r : Nat) (v m : Vec), oneDue (.vec r v m) (fun d => ∃ u n, d = .vec r u n) →
      G (fun t => (t.eng k e).vr r = (x.vr r &&& ~~~m) ||| (v &&& m))) ∧
    (∀ r : Nat, NoneDue x.flight (fun d => ∃ u n, d = .vec r u n) → G (fun t => (t.eng k e).vr r = x.vr r)) ∧
    (∀ (r : Nat) (v : Word), r ≠ 0 → oneDue (.pred r v) (fun d => ∃ u, d = .pred r u) → G (fun t => (t.eng k e).pr r = v.toNat)) ∧
    (∀ r : Nat, NoneDue x.flight (fun d => ∃ u, d = .pred r u) → G (fun t => (t.eng k e).pr r = x.pr r)) ∧
    (∀ v : Nat, oneDue (.mode v) (fun d => ∃ u, d = .mode u) → G (fun t => (t.eng k e).mode = v)) ∧
    (∀ v : Word, oneDue (.stride v) (fun d => ∃ u, d = .stride u) → G (fun t => (t.eng k e).stride = v)) ∧
    (NoneDue x.flight (fun d => ∃ u, d = .mode u) → G (fun t => (t.eng k e).mode = x.mode)) ∧
    (∀ v : Nat, oneDue (.lc 0 v) (fun d => ∃ i u, d = .lc i u) → G (fun t => (t.eng k e).lc0 = v)) ∧
    (∀ v : Nat, oneDue (.lc 1 v) (fun d => ∃ i u, d = .lc i u) → G (fun t => (t.eng k e).lc1 = v)) ∧
    (∀ (line a n : Nat) (got : List Byte) (b : TaskState) (l : LineAsm),
      oneDue (.segment line a n got) (fun d => ∃ i u v g, d = .segment i u v g) → n ≤ 64 →
      NoneDue x.flight (fun d => ∃ b c, d = .store b c) → s.task k x.task = some b → b.asm.find? (fun y => y.line == line) = some l →
      G (fun t => ∃ c m, t.task k x.task = some c ∧ c.asm.find? (fun y => y.line == line) = some m ∧
        m.segs = l.segs.map (fun p => if p.1 = e.val then (e.val, some (got ++ Memory.read (s.cl k).lmem (0x20000 * e + a) n)) else p))) ∧
    (NoneDue x.flight (fun d => ∃ a b, d = .store a b) → G (fun t => (t.cl k).lmem = (s.cl k).lmem ∧ (t.cl k).smem = (s.cl k).smem)) ∧
    (∀ (a : Nat) (bs : List (Byte × Bool)), oneDue (.store a bs) (fun d => ∃ b c, d = .store b c) → a < 0x20000 →
      G (fun t => (t.cl k).smem = (s.cl k).smem ∧
        (∀ (j : Nat) (b : Byte), bs[j]? = some (b, true) → Memory.readByte (t.cl k).lmem (0x20000 * e + a + j) = b) ∧
        (∀ n : Nat, (∀ (j : Nat) (b : Byte), bs[j]? = some (b, true) → n ≠ 0x20000 * e + a + j) →
          Memory.readByte (t.cl k).lmem n = Memory.readByte (s.cl k).lmem n))) ∧
    (∀ (a : Nat) (bs : List (Byte × Bool)), oneDue (.store a bs) (fun d => ∃ b c, d = .store b c) → 0x100000 ≤ a →
      G (fun t => (t.cl k).lmem = (s.cl k).lmem ∧
        (∀ (j : Nat) (b : Byte), bs[j]? = some (b, true) → Memory.readByte (t.cl k).smem (a - 0x100000 + j) = b) ∧
        (∀ n : Nat, (∀ (j : Nat) (b : Byte), bs[j]? = some (b, true) → n ≠ a - 0x100000 + j) →
          Memory.readByte (t.cl k).smem n = Memory.readByte (s.cl k).smem n)))

/-- The end of an engine cycle: the sequence of bundles, and the results due. -/
def Obligations.EngineCycleEnds : Prop := Sys2Proof.CycleEndSequencesBundles ∧ Sys2Proof.CycleEndWritesResults

/-- Engine `e` of cluster `k` has faulted with `cause` (R210, R246). -/
def Sys2Proof.Faulted (s : State) (k e cause : Nat) (t : State) : Prop :=
  (t.eng k e).phase = .faulted ∧ t.rd (CLU.FAULT_CNT k) = sat32 (s.rd (CLU.FAULT_CNT k)) 1 ∧ t.bit (CLU.EVT k) 2 = true ∧
  t.rd (CLU.FAULT_LOG k) = 2 ^ 31 + cause * 2 ^ 28 + e * 2 ^ 24 + (s.eng k e).pc ∧ (s.task k (s.eng k e).task ≠ none → t.bit (CLU.EVT k) 0 = true)

/-- What breaks a bundle is a fault, logged with its cause and counted, that stops the engine and aborts its task: two writes of one
register, an operand condition, a branch in a delay bundle, a memory unit that is occupied (1); an address outside the map (2); a
wrong cycle (3); a queue that is not allowed (4); a refused emit, a fifth line in assembly at the outlet and a line already written among
them (5). A reserved operation code faults at the end of the cycle (1). An operation for an
engine that issues no bundle does nothing. -/
def Obligations.EngineFaults : Prop :=
  ∀ (s : State) (k : Fin 8) (e : Fin 16), (s.eng k e).pc < 2 ^ 24 →
    let x := s.eng k e
    let F := fun (cause : Nat) (c : Instr) => Gives c s (Faulted s k e cause)
    (¬ Issuing s k e → ∀ (o : VecOp) (l : LsOp) (c : SlOp) (m : ExtOp),
      exec (.vadd k e o) s = .next s ∧ exec (.vld k e l) s = .next s ∧ exec (.br k e c) s = .next s ∧ exec (.vmac k e m) s = .next s) ∧
    (Issuing s k e →
      (bundleReserved (s.bundleAt k e) = true → F 1 (.resultWriteback k e)) ∧
      (∀ o : VecOp, ¬ OnceEach s k e [.vec o.vd 0 0] → F 1 (.vadd k e o)) ∧
      (∀ d a : Fin 16, ¬ OnceEach s k e [.scal d 0] → F 1 (.sadd k e d a) ∧ F 1 (.smov k e d a)) ∧
      (∀ o : SlOp, Delayed x ∨ BodyEnd x → F 1 (.br k e o) ∧ F 1 (.brz k e o) ∧ F 1 (.brnz k e o) ∧ F 1 (.brneg k e o) ∧ F 1 (.loop k e o)) ∧
      (Delayed x → F 1 (.endBundle k e)) ∧
      (∀ o : SlOp, o.sd.val % 8 = 0 → F 1 (.pmov k e o)) ∧
      (∀ o : SlOp, (o.sd.val % 2 = 0 ∧ x.lc0 ≠ 0) ∨ (o.sd.val % 2 = 1 ∧ x.lc1 ≠ 0) ∨ o.imm.val % 2048 ≤ x.pc ∨
        ¬ Nested x (o.sd.val % 2) (o.imm.val % 2048) → F 1 (.loop k e o)) ∧
      (∀ o : ExtOp, o.imm.val % 16 = 0 → F 1 (.valu k e o)) ∧
      (∀ o : ExtOp, o.vd.val % 2 = 1 ∨ o.es = true → F 1 (.vmac k e o) ∧ F 1 (.vmacu k e o)) ∧
      (∀ o : ExtOp, o.va.val % 2 = 1 ∨ o.es = true → F 1 (.vnarrow k e o) ∧ F 1 (.vnarrowu k e o)) ∧
      (∀ o : ExtOp, o.vd.val % 8 = 0 ∨ 6 ≤ o.sh.val % 8 → F 1 (.vcmp k e o)) ∧
      (∀ o : ExtOp, 16 ≤ o.vd.val → F 1 (.vred k e o)) ∧
      (∀ o : ExtOp, (if o.es then 64 else 32) ≤ o.imm.val % 64 → F 1 (.vext k e o)) ∧
      (¬ MemoryFree x → ∀ (o : LsOp) (p : LxOp), F 1 (.vld k e o) ∧ F 1 (.vst k e o) ∧ F 1 (.vldo k e p) ∧ F 1 (.vgath k e p)) ∧
      (MemoryFree x →
        (∀ o : LsOp, (0x20000 ≤ x.sr (8 + o.ar) ∧ x.sr (8 + o.ar) < 0x100000) ∨ 0x207000 ≤ x.sr (8 + o.ar) →
          F 2 (.vld k e o) ∧ F 2 (.vst k e o) ∧ F 2 (.sld k e o)) ∧
        (∀ o : LsOp, 0x200000 ≤ x.sr (8 + o.ar) → F 2 (.vst k e o)) ∧
        (∀ o : LsOp, 0x100000 ≤ x.sr (8 + o.ar) → x.sr (8 + o.ar) < 0x200000 → x.sr (8 + o.ar) / 64 % 16 ≠ (x.t + e) % 16 →
          F 3 (.vld k e o) ∧ F 3 (.vst k e o) ∧ F 3 (.sld k e o)) ∧
        (∀ o : LxOp, 0x20000 ≤ x.sr (8 + o.ar) → F 2 (.vgath k e o)) ∧
        (∀ o : LxOp, o.ofs.val % 16 = 0 ∨ 12 < o.ofs.val % 16 → F 1 (.vlut k e o))) ∧
      (∀ o : CtlOp, 2 ≤ o.qsel.val ∨ (o.qsel.val = 1 ∧ ∀ a, s.task k x.task = some a → a.isBand = false) →
        F 4 (.qlen k e o) ∧ F 4 (.qpop k e o)) ∧
      (∀ o : CtlOp, o.qsel.val = 0 → 0x20000 < x.sr o.sa + x.sr o.sb → F 2 (.qpop k e o)) ∧
      (∀ (o : CtlOp) (a : TaskState), s.task k x.task = some a →
        (0x20000 < x.sr o.sb + x.sr o.sc → F 2 (.emit k e o)) ∧
        (x.sr o.sb + x.sr o.sc ≤ 0x20000 →
          a.isBand = false ∨ 16376 < x.sr o.sc ∨ ((4 ≤ s.linesAsm k ∨ x.sr o.sa % 65536 ∈ a.done) ∧ ∀ l ∈ a.asm, l.line ≠ x.sr o.sa % 65536) ∨
            (∃ l, a.asm.find? (fun l => l.line == x.sr o.sa % 65536) = some l ∧ ((∃ p ∈ l.segs, p.1 = e.val) ∨ 16376 < l.size + x.sr o.sc)) →
          F 5 (.emit k e o))))

/-- The status word of a qpop (R237): TRUNC, UE, KIND, CUT, LEN. -/
def Sys2Proof.popStatus (trunc ue : Bool) (kind : ItemKind) (cut : Bool) (len : Nat) : Word :=
  BitVec.ofNat 32 ((if trunc then 2 ^ 31 else 0) + (if ue then 2 ^ 30 else 0) + kind.code * 2 ^ 28 + (if cut then 2 ^ 27 else 0) + len % 65536)

/-- The engine has left its qpop `w` and runs: its status word is in flight, and the first `n` bytes of `bs` are in local memory, of
which no other byte has changed (R237). -/
def Sys2Proof.Resumed (s : State) (k e : Nat) (w : QpopWait) (bs : List Byte) (n : Nat) (status : Word) (t : State) : Prop :=
  (t.eng k e).phase = .running ∧ (t.eng k e).wait = none ∧
    (t.eng k e).flight = (s.eng k e).flight ++ [{ issue := (s.eng k e).t, left := 1, dst := .scal w.sd status }] ∧
    (∀ j, j < n → some (Memory.readByte (t.cl k).lmem (0x20000 * e + w.addr + j)) = bs[j]?) ∧
    (∀ a, (a < 0x20000 * e + w.addr ∨ 0x20000 * e + w.addr + n ≤ a) → Memory.readByte (t.cl k).lmem a = Memory.readByte (s.cl k).lmem a)

/-- The queue that QSEL names for the engine's task (R234). -/
def Sys2Proof.Selects (s : State) (k e : Nat) (o : CtlOp) (q : Nat) : Prop :=
  (o.qsel.val = 0 ∧ q = s.hdr k (s.eng k e).ctx 0x004 20 10) ∨
    (o.qsel.val = 1 ∧ (∃ a, s.task k (s.eng k e).task = some a ∧ a.isBand = true) ∧ q = s.hdr k (s.eng k e).ctx 0x004 10 10)

/-- qlen answers the committed, unclaimed items of the queue that QSEL names; a qpop claims its head item for the engine, and the engine
waits; where the head is not committed or there is none, the pop is cancelled and the task aborted, counted. So in a store that nothing
has struck. -/
def Sys2Proof.EnginesPop : Prop :=
  ∀ (s : State) (k : Fin 8) (e : Fin 16) (o : CtlOp) (q : Nat), Selects s k e o q →
    let x := s.eng k e
    (Ready s k e [.scal o.sd 0] →
      exec (.qlen k e o) s = .next (issued s k e x [(2, .scal o.sd (BitVec.ofNat 32 (s.q q).udepth))])) ∧
    (Issuing s k e → x.sr o.sa + x.sr o.sb ≤ 0x20000 → s.popAllowed q (18 + k) = true → Calm s →
      (∀ (pre rest : List CfsItem) (i : CfsItem), (s.q q).items = pre ++ i :: rest → pre.all (·.claimed) = true →
        i.committed = true → i.claimed = false →
        Gives (.qpop k e o) s (fun t => (t.eng k e).phase = .waiting ∧
          (t.eng k e).wait = some { queue := q, addr := x.sr o.sa, limit := x.sr o.sb, sd := o.sd } ∧
          (t.q q).items = pre ++ { i with claimed := true, owner := e + 1, ue := 0 } :: rest ∧ OtherQueues q s t ∧ t.regs = s.regs)) ∧
      ((∀ i, (s.q q).items.find? (fun y => !y.claimed) = some i → i.committed = false) →
        Gives (.qpop k e o) s (fun t => t.rd (CLU.QREAD_ABORT_CNT k) = sat32 (s.rd (CLU.QREAD_ABORT_CNT k)) 1 ∧
          t.rd CFS.CANCEL_CNT = sat32 (s.rd CFS.CANCEL_CNT) 1 ∧ (t.q q).stall = (s.q q).stall ∧
          (∀ a : TaskState, s.task k x.task = some a → bitOf a.mask e = true → (t.eng k e).phase = .idle ∧ t.bit (CLU.EVT k) 0 = true))))

/-- A qpop that waits ends when the read of its item has: the bytes it asked for are in local memory, the status word is in flight,
the item has left the queue, and each of its cells with an uncorrectable word counts in CLU.UE_CNT (in a store that nothing has struck).
An item that a flush cut ends it with the bytes that arrived, and the cells read by then count in the same way. -/
def Sys2Proof.EnginesResume : Prop :=
  ∀ (s : State) (k : Fin 8) (e : Fin 16) (w : QpopWait), (s.eng k e).wait = some w →
    (∀ (pre rest : List CfsItem) (i : CfsItem) (got : Nat) (err : ReadErrs), (∀ d ∈ s.delivered w.queue, d.owner ≠ e + 1) →
      (s.q w.queue).items = pre ++ i :: rest → (∀ y ∈ pre, y.claimed = false ∨ y.owner ≠ e + 1) → i.claimed = true → i.owner = e + 1 →
      err.ptr = false → Calm s →
      let n := (cfsReadCells s.cfs.mem i.cells i.len).length
      let ue := i.ue + (i.cells.filter (fun c => err.ue.any (fun u => u.1 == c))).length
      Gives (.qpopResume k e { got := got, err := err }) s (fun t => ∃ bs : List Byte,
        bs.length = n ∧ (err.ue = [] → bs = cfsReadCells s.cfs.mem i.cells i.len) ∧
        Resumed s k e w bs (min n w.limit) (popStatus (decide (w.limit < n)) (decide (ue ≠ 0)) i.kind false n) t ∧
        (t.q w.queue).items = pre ++ rest ∧ t.delivered w.queue = s.delivered w.queue ∧
        t.rd (CLU.UE_CNT k) = sat32 (s.rd (CLU.UE_CNT k)) ue)) ∧
    (∀ (pre post : List Delivered) (d : Delivered) (got : Nat) (err : ReadErrs), s.delivered w.queue = pre ++ d :: post →
      (∀ y ∈ pre, y.owner ≠ e + 1) → d.owner = e + 1 → d.cut = true → (∀ i ∈ (s.q w.queue).items, i.claimed = true → i.owner ≠ e + 1) →
      let n := min (min got d.bytes.length) w.limit
      let ue := d.ue + ((d.cells.take ((min got d.bytes.length + 255) / 256)).filter (fun c => err.ue.any (fun u => u.1 == c))).length
      Gives (.qpopResume k e { got := got, err := err }) s (fun t =>
        Resumed s k e w d.bytes n (popStatus (decide (w.limit < d.bytes.length)) (decide (ue ≠ 0)) d.kind true n) t ∧
        t.delivered w.queue = pre ++ post ∧ t.rd (CLU.UE_CNT k) = sat32 (s.rd (CLU.UE_CNT k)) ue))

/-- An emit adds the engine's segment to the output line in assembly and occupies the memory unit for a cycle for each 64 bytes; once
every engine of the mask has emitted, the line goes to OUT_Q: its tag, then the segments in ascending engine order. A control
write enters its FIFO, or is refused, or is dropped where the FIFO is full, each counted; the submission after a lost parameter write is lost
the same way. -/
def Sys2Proof.EnginesWriteOutputs : Prop :=
  ∀ (s : State) (k : Fin 8),
    (∀ (e : Fin 16) (o : CtlOp) (a : TaskState),
      let x := s.eng k e
      let cur := a.asm.find? (fun l => l.line == x.sr o.sa % 65536)
      Ready s k e [] → s.task k x.task = some a → a.isBand = true → x.sr o.sb + x.sr o.sc ≤ 0x20000 →
      (cur = none → s.linesAsm k < 4 ∧ x.sr o.sa % 65536 ∉ a.done) → (∀ l, cur = some l → ∀ p ∈ l.segs, p.1 ≠ e.val) →
      (cur.map (·.size)).getD 0 + x.sr o.sc ≤ 16376 →
      Gives (.emit k e o) s (fun t =>
        (t.eng k e).flight = x.flight ++ [{ issue := x.t, left := 1, dst := .segment (x.sr o.sa % 65536) (x.sr o.sb) (x.sr o.sc) [] }] ∧
        (t.eng k e).memBusy = (if x.sr o.sc = 0 then x.memBusy else max x.memBusy (x.t + (x.sr o.sc + 63) / 64)) ∧
        (∃ b l, t.task k x.task = some b ∧ b.asm.find? (fun l => l.line == x.sr o.sa % 65536) = some l ∧
          l.segs = (cur.map (·.segs)).getD [] ++ [(e.val, none)] ∧ l.size = (cur.map (·.size)).getD 0 + x.sr o.sc) ∧ t.regs = s.regs)) ∧
    (∀ (idx : Nat) (a : TaskState) (l : LineAsm) (segs : List (List Byte)), s.task k idx = some a → a.phase = .run →
      a.asm.find? (fun y => y.line == l.line) = some l →
      ((List.range 16).filter (fun e => a.mask.testBit e)).map (fun e => (l.segs.find? (fun p => p.1 == e)).bind (·.2)) = segs.map some →
      Gives (.emitLineWrite k idx l.line) s (fun t => ∃ (u : State) (item : List Byte), t = u.push (s.hdr k a.ctx 0x004 0 10) (18 + k) item ∧
        u.cfs = s.cfs ∧ u.regs = s.regs ∧ item.drop 8 = segs.flatten ∧ le (slice item 6 2) = l.line % 65536 ∧
        le (slice item 4 2) = s.ctxFrame k a.ctx % 65536 ∧ le (slice item 2 2) = s.hdr k a.ctx 0x010 0 13 ∧
        ∃ b, u.task k idx = some b ∧ b.linesOut = a.linesOut + 1 ∧ b.done = l.line :: a.done ∧ ∀ y ∈ b.asm, y.line ≠ l.line)) ∧
    (∀ (e : Fin 16) (o : CtlOp) (r : CtrlRec), Issuing s k e →
      let x := s.eng k e
      r = { ctx := x.ctx, tgt := x.sr o.sa / 2 ^ 28, ofs := x.sr o.sa % 65536, data := x.sr o.sb } →
      (s.ctrlRefused k x.ctx r = true →
        Gives (.ctrlw k e o) s (fun t => (t.cl k).fifo = (s.cl k).fifo ∧ t.rd (CLU.CTRL_REF_CNT k) = sat32 (s.rd (CLU.CTRL_REF_CNT k)) 1 ∧
          t.bit (CLU.EVT k) 6 = true ∧ t.eng k e = x ∧ OnlyRegs [CLU.CTRL_REF_CNT k, CLU.EVT k] s t)) ∧
      (s.ctrlRefused k x.ctx r = false → (r.tgt ≠ 2 ∨ ∀ p ∈ (s.cl k).skipSubmit, p.1 ≠ x.ctx) →
        ((s.cl k).fifo.length < 32 →
          Gives (.ctrlw k e o) s (fun t => (t.cl k).fifo = (s.cl k).fifo ++ [r] ∧ t.eng k e = x ∧ t.regs = s.regs)) ∧
        (32 ≤ (s.cl k).fifo.length →
          Gives (.ctrlw k e o) s (fun t => (t.cl k).fifo = (s.cl k).fifo ∧ t.rd (CLU.CTRL_DROP_CNT k) = sat32 (s.rd (CLU.CTRL_DROP_CNT k)) 1 ∧
            t.bit (CLU.EVT k) 5 = true ∧ t.eng k e = x ∧ OnlyRegs [CLU.CTRL_DROP_CNT k, CLU.EVT k] s t))) ∧
      (∀ refused : Bool, s.ctrlRefused k x.ctx r = false → r.tgt = 2 → (s.cl k).skipSubmit.find? (fun p => p.1 == x.ctx) = some (x.ctx, refused) →
        Gives (.ctrlw k e o) s (fun t => (t.cl k).fifo = (s.cl k).fifo ∧ (∀ p ∈ (t.cl k).skipSubmit, p.1 ≠ x.ctx) ∧ t.eng k e = x ∧
          t.rd (CLU.CTRL_REF_CNT k) = sat32 (s.rd (CLU.CTRL_REF_CNT k)) (if refused then 1 else 0) ∧
          t.rd (CLU.CTRL_DROP_CNT k) = sat32 (s.rd (CLU.CTRL_DROP_CNT k)) (if refused then 0 else 1))))

/-- Engines pop queues and assemble output lines. -/
def Obligations.EnginesUseQueues : Prop := Sys2Proof.EnginesPop ∧ Sys2Proof.EnginesResume ∧ Sys2Proof.EnginesWriteOutputs

/-- A bundle that the encoder makes of operations of one engine and one predicate, in any of the four formats, decodes to exactly those
operations, at every operand. Every operation of a bundle that decodes is one that the encoder has. -/
def Obligations.BundlesDecodeAsEncoded : Prop :=
  ∀ (k : Fin 8) (e : Fin 16) (ps : Fin 4) (w : Nat),
    (∀ (v0 v1 : Instr) (ls sc : Option Instr), encodeFull k e ps v0 v1 ls sc = some w →
      decodeBundle k e w = some ([v0, v1] ++ ls.toList ++ sc.toList) ∧ w < 2 ^ 64) ∧
    (∀ (v0 : Instr) (ls sl : Option Instr), encodeScalarLong k e ps v0 ls sl = some w →
      decodeBundle k e w = some ([v0] ++ ls.toList ++ sl.toList) ∧ w < 2 ^ 64) ∧
    (∀ (v0 v1 : Instr) (lx : Option Instr), encodeMemoryLong k e ps v0 v1 lx = some w →
      decodeBundle k e w = some ([v0, v1] ++ lx.toList) ∧ w < 2 ^ 64) ∧
    (∀ i : Instr, encodeExtended k e i = some w → decodeBundle k e w = some [i] ∧ w < 2 ^ 64) ∧
    (∀ l : List Instr, decodeBundle k e w = some l → ∀ i ∈ l,
      encodeV k e (fin 2 w 60) i ≠ none ∨ encodeLs k e (fin 2 w 60) i ≠ none ∨ encodeSc k e i ≠ none ∨ encodeSl k e i ≠ none ∨
      encodeLx k e (fin 2 w 60) i ≠ none ∨ encodeX k e i ≠ none)

/-! ### Clusters -/

/-- A task starts at its start slot on a cluster in service: it gathers, with the context, mask, band and entry of its table entry, and
the carry items of that moment to take; CLU.TASK shows it; its engines are idle. In a cluster that is not in service no task starts,
and none of an entry that is not executed now.
The watchdog cancels a stalled intake pop, counted, and closes the intake to new pops. -/
def Sys2Proof.TaskStartsAndIsWatched : Prop :=
  ∀ (s : State) (k : Fin 8) (idx : Nat),
    (∀ en : Entry, s.taskEntry k idx = some en → (s.cl k).svc = 3 → s.task k idx = none → s.bit (CLU.CTL k) 0 = false →
      Gives (.taskStart k idx) s (fun t =>
        (∃ a, t.task k idx = some a ∧ a.ctx = fld en.w2 16 3 ∧ a.mask = fld en.w2 0 16 ∧ a.band = fld en.w2 24 8 ∧ a.isBand = (en.op == 1) ∧
          a.entry = fld en.w3 0 11 ∧ a.phase = .gather ∧ a.flags = 0 ∧ a.taken = [] ∧
          a.carryLeft = (if en.op = 1 then (s.q (s.hdr k (fld en.w2 16 3) 0x004 10 10)).udepth else 0)) ∧
        t.rd (CLU.TASK k) = 2 ^ 31 + fld en.w2 16 3 * 2 ^ 24 + fld en.w2 24 8 * 2 ^ 16 + idx % 1024 ∧
        (∀ e, e < 16 → (fld en.w2 0 16).testBit e = true → (t.eng k e).phase = .idle ∧ (t.eng k e).task = idx ∧ (t.eng k e).ctx = fld en.w2 16 3) ∧
        t.cfs = s.cfs)) ∧
    ((s.cl k).svc ≠ 3 → exec (.taskStart k idx) s = .next s) ∧
    (∀ (old : Bool) (en : Entry), (idx < 1024 ↔ old = false) → (nth [] (s.tableSet old).cluster k)[idx % 1024]? = some en →
      s.entryNow (35 + k) old en.slot en.carry = false → exec (.taskStart k idx) s = .next s) ∧
    (∀ (a : TaskState) (q : Nat) (c : Bool), s.task k idx = some a → s.intakeQueue k a = some (q, c) →
      ((s.q q).stall ≠ 0 →
        Gives (.watchdogCancel k idx) s (fun t => (t.q q).stall + 1 = (s.q q).stall ∧ t.rd (CLU.WD_CNT k) = sat32 (s.rd (CLU.WD_CNT k)) 1 ∧
          ∃ b, t.task k idx = some b ∧ b.wdPassed = true ∧ bitOf b.flags 2 = true)) ∧
      ((s.q q).stall = 0 →
        Gives (.watchdogCancel k idx) s (fun t => t.cfs = s.cfs ∧ t.regs = s.regs ∧ ∃ b, t.task k idx = some b ∧ b.wdPassed = true)))

/-- The intake of a task takes an item that has been read: a marker is counted and sets the gap flag of the band; a line of the open
frame in the window and not before NEXT_LINE is taken, and NEXT_LINE passes it; a line before NEXT_LINE is stale; a control task
keeps the item. -/
def Sys2Proof.IntakeTakesItems : Prop :=
  ∀ (s u : State) (k : Fin 8) (idx q : Nat) (a : TaskState) (d : Delivered),
    s.task k idx = some a → s.intakeQueue k a = some (q, false) → s.takeItem q = some (d, u) → d.cut = false →
    let line := le (slice d.bytes 6 2)
    let G := fun (P : State → TaskState → Prop) => Gives (.intakeItemTake k idx) s (fun t => ∃ b, t.task k idx = some b ∧ P t b)
    (a.isBand = true → d.kind ≠ .data →
      G (fun t b => t.rd (CLU.MARKER_CNT k) = sat32 (s.rd (CLU.MARKER_CNT k)) 1 ∧ bitOf b.flags 1 = true ∧ b.taken = a.taken)) ∧
    (a.isBand = true → d.kind = .data → d.bytes.length ≠ 32 → s.ctxOpen k a.ctx = true →
      le (slice d.bytes 4 2) = s.ctxFrame k a.ctx % 65536 →
      (s.winLo k a.ctx a.band ≤ line → s.cst k a.ctx 0x004 0 16 ≤ line → line ≤ s.winHi k a.ctx a.band →
        G (fun t b => b.taken = a.taken ++ [(line, d.bytes)] ∧ t.cst k a.ctx 0x004 0 16 = line + 1 ∧
          t.rd (CLU.STALE_CNT k) = s.rd (CLU.STALE_CNT k))) ∧
      (line < s.cst k a.ctx 0x004 0 16 →
        G (fun t b => b.taken = a.taken ∧ t.rd (CLU.STALE_CNT k) = sat32 (s.rd (CLU.STALE_CNT k)) 1 ∧ t.bit (CLU.EVT k) 10 = true))) ∧
    (a.isBand = false → G (fun _ b => b.item = some d ∧ b.taken = a.taken))

/-- Tasks start, are watched, and take their items. -/
def Obligations.TasksTakeTheirItems : Prop := Sys2Proof.TaskStartsAndIsWatched ∧ Sys2Proof.IntakeTakesItems

/-- At program start a band with a line of its own range runs on the engines of its mask, from its entry, with the frame number in s15; a
band whose frame has not come so far, and a control task without an item, are aborted. At its end edge a task is gone; one whose
program has not ended is an overrun, counted; a band leaves its band-close item, with its flags, in OUT_Q, and the last band closes
the context's frame. -/
def Obligations.ProgramStartsAndTaskEnds : Prop :=
  ∀ (s : State) (k : Fin 8) (idx : Nat) (a : TaskState), s.task k idx = some a →
    (∀ t0 : Nat, a.phase = .gather → a.isBand = true → s.ownLast k a.ctx a.band < s.cst k a.ctx 0x004 0 16 →
      (∃ l, l ∈ a.taken.map (·.1) ∧ a.band * (s.bandGeom k a.ctx).1 ≤ l ∧ l ≤ s.ownLast k a.ctx a.band) →
      Gives (.programStart k idx t0) s (fun t => (∃ b, t.task k idx = some b ∧ b.phase = .run ∧ b.taken = a.taken) ∧
        ∀ e, e < 16 → a.mask.testBit e = true → (t.eng k e).phase = .running ∧ (t.eng k e).pc = a.entry ∧ (t.eng k e).t = t0 ∧
          (t.eng k e).ctx = a.ctx ∧ sreg (t.eng k e) 15 = BitVec.ofNat 32 (s.ctxFrame k a.ctx))) ∧
    (∀ (t0 : Nat) (d : Delivered), a.phase = .gather → a.isBand = false → a.item = some d →
      Gives (.programStart k idx t0) s (fun t => (∃ b, t.task k idx = some b ∧ b.phase = .run) ∧
        ∀ e, e < 16 → a.mask.testBit e = true → (t.eng k e).phase = .running ∧ (t.eng k e).pc = a.entry ∧
          sreg (t.eng k e) 12 = BitVec.ofNat 32 (s.hdr k a.ctx 0x014 0 17))) ∧
    (∀ t0 : Nat, a.phase = .gather → a.ctx < 8 → a.band < 256 → (a.isBand = true ∧ s.cst k a.ctx 0x004 0 16 ≤ s.ownLast k a.ctx a.band) ∨ (a.isBand = false ∧ a.item = none) →
      Gives (.programStart k idx t0) s (fun t => (∃ b, t.task k idx = some b ∧ b.phase = .idle ∧ bitOf b.flags 0 = true) ∧
        t.bit (CLU.EVT k) 0 = true ∧ t.getF (CLU.LAST_ABORT k) 28 4 = 1)) ∧
    ((∀ e, e < 16 → (s.eng k e).phase ≠ .waiting) →
      let late := a.phase == .run && (List.range 16).any (fun e => a.mask.testBit e && !(s.eng k e).ended)
      Gives (.taskEnd k idx) s (fun t => t.task k idx = none ∧
        t.rd (CLU.OVERRUN_CNT k) = sat32 (s.rd (CLU.OVERRUN_CNT k)) (if late then 1 else 0) ∧
        (∀ e, e < 16 → a.mask.testBit e = true → (t.eng k e).phase ≠ .running) ∧
        (a.isBand = true → s.lastBand k a.ctx a.band = false → ∃ u : State, u.cfs = s.cfs ∧
          t = u.push (s.hdr k a.ctx 0x004 0 10) (18 + k) (bandCloseItem (s.ctxFrame k a.ctx) a.band (min 0xFFFF a.linesOut)
            (a.flags ||| (if late then 16 else 0)) (min 0xFFFF a.absentOwn) k a.ctx)) ∧
        (a.isBand = true → s.lastBand k a.ctx a.band = true → t.ctxOpen k a.ctx = false ∧ t.cst k a.ctx 0x004 0 16 = 0)))

/-- In a cluster that serves accesses: a commit is recorded with its target; a write of the pending buffer is performed and one of the active buffer, the header or the
state refused; the copy after a commit makes the pending buffer equal to the active one but for the words written meanwhile;
DBG_HALT changes in MAINTENANCE alone. -/
def Obligations.ContextsAndCommits : Prop :=
  ∀ (s : State) (k x : Fin 8) (v : Word),
    (wbit v 8 = true → Served s (CLU.CTX_COMMIT k) →
      Gives (.hostCommit k v) s (fun t => t.cst k (v.toNat % 8) 0x004 28 1 = 1 ∧
        (wbit v 4 = true → t.ctxWord k (v.toNat % 8) 0x1014 = s.rd (CLU.CTX_TGT k) ∧ v.toNat % 8 ∉ (t.cl k).noTarget) ∧
        (wbit v 4 = false → v.toNat % 8 ∈ (t.cl k).noTarget) ∧ OnlyRegs [CLU.CTX_COMMIT k] s t)) ∧
    (∀ o : Nat, o < 0x10000 → Served s (CLU.CTL k + 0x80000 + 0x10000 * x + o) →
      (∀ b i, bufferOffset o = some (b, i) → b ≠ s.activeBuf k x →
        Gives (.contextWrite k x o v) s (fun t => t.ctxWord k x (o / 4 * 4) = v.toNat ∧ t.regs = s.regs ∧
          ∀ n, n < 65536 * x + o / 4 * 4 ∨ 65536 * x + o / 4 * 4 + 4 ≤ n → Memory.readByte (t.cl k).ctx n = Memory.readByte (s.cl k).ctx n)) ∧
      ((bufferOffset o = none ∨ ∃ i, bufferOffset o = some (s.activeBuf k x, i)) →
        Gives (.contextWrite k x o v) s (fun t => t.clu = s.clu ∧ t.bit (CLU.EVT k) 8 = true ∧ OnlyRegs [CLU.EVT k] s t))) ∧
    (∀ ws : List (Nat × Word), (s.cl k).copying.find? (fun p => p.1 == x.val) = some (x.val, ws) → (∀ p ∈ ws, p.1 % 4 = 0) →
      Gives (.paramCopyDone k x) s (fun t => t.regs = s.regs ∧ (∀ p ∈ (t.cl k).copying, p.1 ≠ x.val) ∧
        (∀ i, i < 0x7000 → (∀ p ∈ ws, p.1 ≠ i / 4 * 4) →
          Memory.readByte (t.cl k).ctx (0x10000 * x + paramBase (s.activeBuf k x + 1) + i) =
            Memory.readByte (s.cl k).ctx (0x10000 * x + paramBase (s.activeBuf k x) + i)) ∧
        (∀ o w pre, ws = pre ++ [(o, w)] → t.ctxWord k x (paramBase (s.activeBuf k x + 1) + o) = w.toNat))) ∧
    (s.mode = 6 → Served s (CLU.CTL k) → Gives (.debugHalt k v) s (fun t => t.bit (CLU.CTL k) 0 = wbit v 0 ∧ OnlyRegs [CLU.CTL k] s t ∧ t.clu = s.clu)) ∧
    (s.mode ≠ 6 → Served s (CLU.CTL k) → Gives (.debugHalt k v) s (fun t => t.bit (CLU.EVT k) 8 = true ∧ OnlyRegs [CLU.EVT k] s t ∧ t.clu = s.clu))

/-- The oldest control write is delivered to its target: a shadow register of the camera's front end, a word of the back-channel
staging buffer, a request on the camera's back-channel, or a commit of a context; one for a powered-down front end or link is
discarded and counted. -/
def Obligations.ControlWritesAreDelivered : Prop :=
  ∀ (s : State) (k : Fin 8) (r : CtrlRec) (rest : List CtrlRec), (s.cl k).fifo = r :: rest →
    let cam := s.hdr k r.ctx 0x000 24 5
    let a := 0x10200000 + 0x10000 * cam + r.ofs
    let G := fun (P : State → Prop) => Gives (.ctrlWriteDeliver k) s (fun t => (t.cl k).fifo = rest ∧ P t)
    (r.tgt = 0 → cam < 18 → a ∈ feShadowed cam → s.domOn (camDomain cam) = true → s.underTest (8 + cam) = false →
      G (fun t => t.regs = s.regs ∧ ∀ i, i < 32 → bitOf (t.sh a) i = if (writable a).testBit i then r.data.testBit i else bitOf (s.sh a) i)) ∧
    (r.tgt = 0 ∨ r.tgt = 2 → s.domOn (camDomain cam) = false →
      G (fun t => t.shadow = s.shadow ∧ t.link = s.link ∧ t.rd SYS.OFF_ACCESS_CNT = sat32 (s.rd SYS.OFF_ACCESS_CNT) 1 ∧ OnlyRegs [SYS.OFF_ACCESS_CNT, SYS.EVT] s t)) ∧
    (r.tgt = 1 → G (fun t => Map.get 0 (t.cl k).staging (8 * r.ctx + r.ofs % 8) = BitVec.ofNat 32 r.data ∧ t.regs = s.regs ∧ t.link = s.link)) ∧
    (r.tgt = 2 → s.domOn (camDomain cam) = true → ((s.lnk cam).requests.filter (fun q => q.src != .host)).length < 7 → (s.lnk cam).inFlight ≠ none →
      (s.lnk cam).script = [] →
      G (fun t => ∃ p, (t.lnk cam).requests = (s.lnk cam).requests ++ [p] ∧ p.src = .cluster k r.ctx ∧ p.type = r.data % 256 ∧
        p.payload = ((List.range 5).flatMap (fun i => leBytes 4 (Map.get 0 (s.cl k).staging (8 * r.ctx + i)).toNat)).take (r.data / 256 % 32))) ∧
    (3 ≤ r.tgt → G (fun t => t.cst k (r.ofs % 8) 0x004 28 1 = 1 ∧ t.ctxWord k (r.ofs % 8) 0x1014 = r.data % 2 ^ 32 ∧ t.regs = s.regs))

/-! ### Garnet and the packetiser -/

/-- A Garnet range begins with the stream of its entry and pops its OUT_Q; an entry that is not executed now begins nothing. An item that Garnet takes in the range is handled by its kind: a
marker counts and marks a gap; a frame-open opens the frame; a line of the open frame goes on to the presented queue with its tag
and the line length of the format, one of another frame is stale; a frame-close raises the compare requests. At the end a stalled
pop is cancelled and counted. In the proof slot the open frame leaves a proof item of 144 bytes with its number, and closes. A compare
result, once the channel that FRZ_CFG names has raised its completion event, is the mismatch count of that channel; without that event
there is none. -/
def Obligations.GarnetHandlesItems : Prop :=
  ∀ (s : State),
    (∀ (old : Bool) (i : Nat) (e : Entry) (c : StreamCfg), (s.tableSet old).pkt[i]? = some e → (e.op = 1 ∨ e.op = 2) →
      s.entryNow 43 old e.slot e.carry = true → (s.tableSet old).stream (fld e.w2 24 6) = some c → c.preview = false → (s.grn (fld e.w2 24 6)).held = none →
      Gives (.garnetRangeStart old i) s (fun t => (t.grn (fld e.w2 24 6)).range = some { op := e.op, index := fld e.w2 0 16 } ∧
        (t.grn (fld e.w2 24 6)).cfg = c ∧ OtherQueues c.outQ s t ∧
        (s.delivered c.outQ = [] → (s.q c.outQ).items.any (·.claimed) = false → (s.q c.outQ).stall = 0 → s.popAllowed c.outQ 28 = true → Calm s →
          (∀ x rest, (s.q c.outQ).items = x :: rest → x.committed = true →
            (t.q c.outQ).stall = 0 ∧ (t.q c.outQ).items = { x with claimed := true, owner := 0, ue := 0 } :: rest) ∧
          ((∀ x, (s.q c.outQ).items.head? = some x → x.committed = false) → (t.q c.outQ).stall = 1)))) ∧
    (∀ (old : Bool) (i : Nat), (∀ e, (s.tableSet old).pkt[i]? = some e → s.entryNow 43 old e.slot e.carry = false) →
      exec (.garnetRangeStart old i) s = .next s ∧ exec (.garnetProofPush old i) s = .next s ∧ exec (.pktRangeStart old i) s = .next s) ∧
    (∀ (st : Fin 64) (r : PresRange) (d : Delivered) (u : State), (s.grn st).range = some r → r.done = false → r.ended = false →
      s.takeItem (s.grn st).cfg.outQ = some (d, u) → d.cut = false →
      let g := s.grn st
      let G := fun (P : State → Prop) => Gives (.garnetItemTake st) s P
      (outItem d = .marker → G (fun t => t.rd PRES.GRN_MARKER_CNT = sat32 (s.rd PRES.GRN_MARKER_CNT) 1 ∧ (t.grn st).gap = true ∧ (t.grn st).isOpen = g.isOpen)) ∧
      (outItem d = .frameOpen → G (fun t => (t.grn st).isOpen = true ∧ (t.grn st).fn = be (d.bytes.take 4) ∧ (t.grn st).gap = false ∧
        (t.grn st).closed = false ∧ (t.grn st).run = g.run)) ∧
      (outItem d = .line → r.op = 1 → g.isOpen = true → le (slice d.bytes 4 2) = g.fn % 65536 →
        G (fun t => (t.grn st).range = some { r with done := true } ∧ (t.grn st).isOpen = true ∧
          ∃ (v : State) (item : List Byte), v.cfs = u.cfs ∧ t.cfs = (v.push g.cfg.presQ 28 item).cfs ∧ item.take 8 = d.bytes.take 8 ∧
            (s.drawList st = [] → item = d.bytes.take 8 ++ fitBytes (lineBytes g.cfg.fmt g.cfg.outW) (d.bytes.drop 8)))) ∧
      (outItem d = .line → g.isOpen = false ∨ le (slice d.bytes 4 2) ≠ g.fn % 65536 →
        G (fun t => t.rd PRES.GRN_STALE_CNT = sat32 (s.rd PRES.GRN_STALE_CNT) 1 ∧ (t.grn st).isOpen = g.isOpen ∧ (t.grn st).parts = g.parts)) ∧
      (outItem d = .frameClose → g.isOpen = true → be (d.bytes.take 4) = g.fn →
        G (fun t => (t.grn st).closed = true ∧ ∀ j, j ∈ s.sampleSlots st → t.dmaReq.testBit (48 + j) = true))) ∧
    (∀ (st : Fin 64) (r : PresRange), (s.grn st).range = some r → r.done = false → (s.q (s.grn st).cfg.outQ).stall ≠ 0 →
      s.delivered (s.grn st).cfg.outQ = [] → (s.q (s.grn st).cfg.outQ).items.any (·.claimed) = false →
      Gives (.garnetRangeEnd st) s (fun t => (t.grn st).range = none ∧ t.rd PRES.GRN_CANCEL_CNT = sat32 (s.rd PRES.GRN_CANCEL_CNT) 1 ∧
        (t.q (s.grn st).cfg.outQ).stall + 1 = (s.q (s.grn st).cfg.outQ).stall)) ∧
    (∀ (old : Bool) (i : Nat) (e : Entry), (s.tableSet old).pkt[i]? = some e → e.op = 3 →
      s.entryNow 43 old e.slot e.carry = true → (s.grn (fld e.w2 24 6)).isOpen = true →
      Gives (.garnetProofPush old i) s (fun t => (t.grn (fld e.w2 24 6)).isOpen = false ∧
        ∃ (v : State) (item : List Byte), v.cfs = s.cfs ∧ t = v.push (s.grn (fld e.w2 24 6)).cfg.presQ 28 item ∧ item.length = 144 ∧
          item.take 4 = beBytes 4 (s.grn (fld e.w2 24 6)).fn ∧ slice item 5 1 = beBytes 1 (t.grn (fld e.w2 24 6)).run ∧
          ((s.grn (fld e.w2 24 6)).absent = true → (t.grn (fld e.w2 24 6)).run = 0 ∧ (t.grn (fld e.w2 24 6)).frozen = false))) ∧
    (∀ j : Fin 8, s.pres.compared.contains j.val = false → exec (.frozenCompareResult j) s = .next s) ∧
    (∀ j : Fin 8, let st := s.getF (PRES.FRZ_CFG j) 24 6
      s.pres.compared.contains j.val = true → (s.sampleSlots st).head? = some j.val → (s.grn st).isOpen = true → (s.grn st).closed = true →
      Gives (.frozenCompareResult j) s (fun t => (t.grn st).cmp = some (s.rd (DMA.CH_MISMATCH (s.getF (PRES.FRZ_CFG j) 0 5))) ∧
        t.pres.compared.contains j.val = false ∧ t.regs = s.regs))

/-- The draw memory is written in BOOT and MAINTENANCE, byte for byte, and a write in any other mode ends in a bus error and is counted. A packetiser
UNIT range begins with its stream, a TRAILER and a legacy STATS range with an open frame, the TRAILER range served at once where the close
and the proof are held, and a PASS range with its index and its expected time; the line it waits for becomes the unit of that line, in its AVTP frame; a range that ends without
it sends a black line, counted. A TRAILER range builds the trailer, with a missing close or proof counted, and closes the frame; a
legacy STATS range builds the statistics unit. (A unit whose launch was offered to a full queue does not wait for one: no such launch is
noted here.) -/
def Sys2Proof.PacketiserBuildsUnits : Prop :=
  ∀ (s : State),
    (∀ (o : Fin 0x40000) (v : Word), s.domOn 7 = true →
      (s.mode = 2 ∨ s.mode = 6 → Gives (.drawMemoryWrite o v) s (fun t => t.regs = s.regs ∧ t.mgmt.answer = { status := 0, words := [] } ∧
        (∀ i, i < 4 → Memory.readByte t.pres.draw (o.val / 4 * 4 + i) = BitVec.ofNat 8 (v.toNat / 256 ^ i)) ∧
        ∀ x, (x < o.val / 4 * 4 ∨ o.val / 4 * 4 + 4 ≤ x) → Memory.readByte t.pres.draw x = Memory.readByte s.pres.draw x)) ∧
      (s.mode ≠ 2 → s.mode ≠ 6 → Gives (.drawMemoryWrite o v) s (fun t => t.pres = s.pres ∧ t.mgmt.answer = { status := 5, words := [] } ∧
        t.rd PRES.DRAW_REF_CNT = sat32 (s.rd PRES.DRAW_REF_CNT) 1 ∧ t.bit PRES.EVT 9 = true ∧ OnlyRegs [PRES.DRAW_REF_CNT, PRES.EVT] s t))) ∧
    (∀ (old : Bool) (i : Nat) (e : Entry) (c : StreamCfg), (s.tableSet old).pkt[i]? = some e → e.op = 4 → s.entryNow 43 old e.slot e.carry = true →
      (s.tableSet old).stream (fld e.w2 24 6) = some c → c.preview = false → fld e.w2 0 16 < c.outH → (s.pkt c.stream).held = none →
      (fld e.w2 0 16 = 0 → (s.pkt c.stream).isOpen = false) →
      Gives (.pktRangeStart old i) s (fun t => (t.pkt c.stream).range = some { op := 4, index := fld e.w2 0 16 } ∧ (t.pkt c.stream).cfg = c ∧
        OtherQueues c.presQ s t)) ∧
    (∀ (old : Bool) (i : Nat) (e : Entry) (c : StreamCfg), (s.tableSet old).pkt[i]? = some e → s.entryNow 43 old e.slot e.carry = true →
      (s.tableSet old).stream (fld e.w2 24 6) = some c → c.preview = false → (s.pkt c.stream).held = none → (s.pkt c.stream).statHeld = none →
      (s.pkt c.stream).isOpen = true →
      (e.op = 5 → (s.pkt c.stream).trailerDone = false →
        Gives (.pktRangeStart old i) s (fun t => (t.pkt c.stream).cfg = c ∧
          (t.pkt c.stream).range = some { op := 5, index := 0, done := (s.pkt c.stream).close.isSome && (s.pkt c.stream).proof.isSome })) ∧
      (e.op = 7 → c.legacy = true → c.statQ ≠ none →
        Gives (.pktRangeStart old i) s (fun t => (t.pkt c.stream).cfg = c ∧ (t.pkt c.stream).statRange = some { op := 7, index := 0 }))) ∧
    (∀ (old : Bool) (i : Nat) (e : Entry), (s.tableSet old).pkt[i]? = some e → s.entryNow 43 old e.slot e.carry = true → e.op = 6 →
      s.eth.passHeld = none →
      Gives (.pktRangeStart old i) s (fun t => t.eth.passRange = some (fld e.w2 0 16, e.w3, false, false) ∧
        t.eth.passFrom = (s.tableSet old).loads.passQ.getD 0 ∧ OtherQueues ((s.tableSet old).loads.passQ.getD 0) s t)) ∧
    (∀ (st : Fin 64) (r : PresRange), (s.pkt st).range = some r → r.ended = false → s.time.refused = [] → (s.pkt st).cfg.stream = st → (s.pkt st).kids = [] →
      let p := s.pkt st
      let c := p.cfg
      let key := 65536 * st.val + r.index
      (∀ (d : Delivered) (u : State), r.op = 4 → r.done = false → r.index ≠ 0 → s.takeItem c.presQ = some (d, u) → d.cut = false →
        outItem d = .line → p.isOpen = true → fld (le (d.bytes.take 8)) 32 16 = p.fn % 65536 → fld (le (d.bytes.take 8)) 48 16 = r.index →
        Gives (.pktItemTake st false) s (fun t => (t.pkt st).range = some { r with done := true } ∧ (t.pkt st).seq = (p.seq + 1) % 256 ∧
          t.rd PRES.FILL_LINE_CNT = s.rd PRES.FILL_LINE_CNT ∧
          ∃ x, Map.get none t.eth.units key = some x ∧ x.fn = p.fn ∧ x.line = true ∧
            x.frame.drop (x.frame.length - lineBytes c.fmt c.outW) = fitBytes (lineBytes c.fmt c.outW) (d.bytes.drop 8))) ∧
      (r.op = 4 → r.done = false → p.isOpen = true →
        Gives (.pktRangeEnd st) s (fun t => (t.pkt st).fills = p.fills + 1 ∧ t.rd PRES.FILL_LINE_CNT = sat32 (s.rd PRES.FILL_LINE_CNT) 1 ∧
          ∃ x, Map.get none t.eth.units key = some x ∧ x.fn = p.fn ∧
            x.frame.drop (x.frame.length - (blackLine c.fmt c.outW).length) = blackLine c.fmt c.outW)) ∧
      (r.op = 5 → p.isOpen = true → p.trailerDone = false →
        Gives (.trailerRangeEnd st) s (fun t => (t.pkt st).trailerDone = true ∧ (t.pkt st).isOpen = (c.legacy && c.statQ.isSome) ∧
          t.rd PRES.NO_CLOSE_CNT = sat32 (s.rd PRES.NO_CLOSE_CNT) (if p.close.isNone then 1 else 0) ∧
          t.rd PRES.PROOF_MISS_CNT = sat32 (s.rd PRES.PROOF_MISS_CNT) (if p.proof.isNone then 1 else 0) ∧
          ∃ x, Map.get none t.eth.units (65536 * st.val + c.outH) = some x ∧ x.fn = p.fn ∧ x.line = false))) ∧
    (∀ (st : Fin 64) (r : PresRange), (s.pkt st).statRange = some r → r.op = 7 → r.ended = false → s.time.refused = [] → (s.pkt st).isOpen = true →
      (s.pkt st).cfg.legacy = true → (s.pkt st).cfg.statQ ≠ none → (s.pkt st).cfg.stream = st →
      Gives (.statsRangeEnd st) s (fun t => (t.pkt st).isOpen = false ∧
        t.rd PRES.STATS_MISS_CNT = sat32 (s.rd PRES.STATS_MISS_CNT) (if (s.pkt st).stats.isNone then 1 else 0) ∧
        ∃ x, Map.get none t.eth.units (65536 * st.val + (s.pkt st).cfg.outH + (s.pkt st).frags) = some x ∧ x.fn = (s.pkt st).fn ∧ x.line = false))

/-- A pass-through range takes an item that has arrived within the tolerance of its expected time, and keeps it for its launch without
its stamp, unless that launch has been offered to a full queue; an earlier item is stale, counted; a later one is held back, and the range sends nothing, counted. A range that ends
unserved is counted. -/
def Sys2Proof.PassThroughRanges : Prop :=
  ∀ (s : State) (index expect : Nat),
    let q := s.eth.passFrom
    (∀ (d : Delivered) (u : State), s.eth.passRange = some (index, expect, false, false) → s.takeItem q = some (d, u) → d.cut = false → d.kind = .data →
      let diff := (BitVec.ofNat 32 (le (d.bytes.take 4)) - BitVec.ofNat 32 expect).toInt
      let tol : Int := s.getF ETH.PASS_CFG 0 16
      (-tol ≤ diff → diff ≤ tol → s.time.refused = [] →
        Gives .passItemTake s (fun t => Map.get none t.eth.pass index = some (d.bytes.drop 8) ∧ t.eth.passRange = some (index, expect, true, false) ∧ t.regs = u.regs)) ∧
      (diff < -tol →
        Gives .passItemTake s (fun t => t.rd (ETH.PASS_STALE_CNT 1) = sat32 (s.rd (ETH.PASS_STALE_CNT 1)) 1 ∧ t.bit ETH.EVT 11 = true ∧
          t.eth.pass = s.eth.pass ∧ t.eth.passRange = s.eth.passRange)) ∧
      (tol < diff →
        Gives .passItemTake s (fun t => t.rd (ETH.PASS_MISS_CNT 1) = sat32 (s.rd (ETH.PASS_MISS_CNT 1)) 1 ∧ t.bit ETH.EVT 10 = true ∧
          t.eth.passHeld = some d.bytes ∧ t.eth.pass = s.eth.pass))) ∧
    (s.eth.passRange = some (index, expect, false, false) → s.comes q = false →
      Gives .passRangeEnd s (fun t => t.eth.passRange = none ∧ t.rd (ETH.PASS_MISS_CNT 1) = sat32 (s.rd (ETH.PASS_MISS_CNT 1)) 1 ∧ t.bit ETH.EVT 10 = true))

/-- The packetiser builds units and passes others through. -/
def Obligations.PacketiserAndPassThrough : Prop := Sys2Proof.PacketiserBuildsUnits ∧ Sys2Proof.PassThroughRanges


/-! ### Ethernet ports -/

/-- Port `p` goes to full training: the receiver's precoding stays where PRECODE_REQ asks for it, and ends on the lanes in use where it
does not (R281). -/
def Sys2Proof.TrainsAnew (p : Nat) (s t : State) : Prop :=
  ∀ l, l < s.lanesUsed p → t.getF (ETH.LANE_RXCFG p l) 4 1 = if s.bit (ETH.PCFG p) 5 then s.getF (ETH.LANE_RXCFG p l) 4 1 else 0

/-- A port enabled in OFF goes to FAST, AN or TRAIN as its configuration says; a disabled port goes to OFF; a running port keeps the
fields that may not change, with the event; lane settings are written in OFF alone (a DFE byte of 0x80, outside the taps' range, is the
model's choice, log entry 169); FAST ends after its time in full training,
counted, or at a training marker, uncounted; training that fails starts again, counted; a port comes UP with its latencies
recorded, its receiver precoded after training as PRECODE_REQ asks (the model's reading, log entry 213), its transmitter taps and
precoding kept after FAST, and loses its link to FAST, counted; a received fault is held while it lasts; loopback is granted or refused; a
codeword error is counted. -/
def Obligations.PortsChangeState : Prop :=
  ∀ (s : State) (p : Fin 2), s.Shaped → s.hasPort p = true → Served s (ETH.PCFG p) → Served s (ETH.LOOP_CTL p) →
    let x := s.prt p
    let again := if s.bit (ETH.PCFG p) 3 then PortLink.an else PortLink.train
    (∀ v : Word, wbit v 0 = true → s.bit (ETH.PCFG p) 0 = false → x.link = .off → v.toNat / 2 % 4 ≠ 3 →
      Gives (.portEnable p v) s (fun t => t.rd (ETH.PCFG p) = v.toNat &&& 0xFF3F ∧
        (t.prt p).link = (if wbit v 4 then .fast else if wbit v 3 then .an else .train))) ∧
    (∀ v : Word, wbit v 0 = false → x.link ≠ .off →
      Gives (.portDisable p v) s (fun t => (t.prt p).link = .off ∧ t.bit (ETH.PCFG p) 0 = false ∧ (∀ l, l < 4 → t.rd (ETH.LANE_STAT p l) = 0) ∧
        t.rd (ETH.LINK_DOWN_CNT p) = s.rd (ETH.LINK_DOWN_CNT p))) ∧
    (∀ v : Word, wbit v 0 = true → s.bit (ETH.PCFG p) 0 = true → x.link ≠ .off → v.toNat / 2 % 4 ≠ 3 →
      (v.toNat &&& 0xFF2E) ≠ (s.rd (ETH.PCFG p) &&& 0xFF2E) →
      Gives (.portCfgWrite p v) s (fun t => t.bit ETH.EVT 8 = true ∧ (t.rd (ETH.PCFG p) &&& 0xFF2E) = (s.rd (ETH.PCFG p) &&& 0xFF2E) ∧
        t.bit (ETH.PCFG p) 4 = wbit v 4 ∧ t.eth = s.eth ∧ OnlyRegs [ETH.PCFG p, ETH.EVT] s t)) ∧
    (∀ (l : Fin 4) (r : LaneReg) (v : Word), Served s (laneAddr r p l) →
      (x.link = .off → Gives (.laneSettingsWrite p l r v) s (fun t => OnlyRegs [laneAddr r p l] s t ∧ t.eth = s.eth ∧
        ((∀ i, r ≠ .dfe i) → ∀ i, i < 32 → (writable (laneAddr r p l)).testBit i = true → t.bit (laneAddr r p l) i = wbit v i) ∧
        (∀ i j, r = .dfe i → j < 4 → fld v.toNat (8 * j) 8 ≠ 0x80 → t.getF (laneAddr r p l) (8 * j) 8 = fld v.toNat (8 * j) 8))) ∧
      (x.link ≠ .off → Gives (.laneSettingsWrite p l r v) s (fun t => t.bit ETH.EVT 8 = true ∧ OnlyRegs [ETH.EVT] s t ∧ t.eth = s.eth))) ∧
    let lanes := (List.range 4).map (fun l => ETH.LANE_RXCFG p l)
    (x.link = .fast →
      Gives (.fastTimeout p) s (fun t => (t.prt p).link = again ∧ t.rd (ETH.FR_FAIL_CNT p) = sat32 (s.rd (ETH.FR_FAIL_CNT p)) 1 ∧
        t.bit ETH.EVT (4 * p + 2) = true ∧ TrainsAnew p s t ∧ OnlyRegs ([ETH.FR_FAIL_CNT p, ETH.EVT] ++ lanes) s t) ∧
      Gives (.trainingMarkerDetect p) s (fun t => (t.prt p).link = again ∧ TrainsAnew p s t ∧ OnlyRegs lanes s t)) ∧
    (x.link = .an → Gives (.anComplete p) s (fun t => (t.prt p).link = .train ∧ t.regs = s.regs)) ∧
    (x.link = .an ∨ x.link = .train →
      Gives (.portTrainTimeout p) s (fun t => (t.prt p).link = again ∧ t.rd (ETH.TRAIN_FAIL_CNT p) = sat32 (s.rd (ETH.TRAIN_FAIL_CNT p)) 1 ∧
        t.bit ETH.EVT (4 * p + 3) = true ∧ TrainsAnew p s t ∧ OnlyRegs ([ETH.TRAIN_FAIL_CNT p, ETH.EVT] ++ lanes) s t)) ∧
    (∀ (lanes : List LaneLive) (rx tx : Fin 65536), x.link = .fast ∨ x.link = .train →
      Gives (.portUp p lanes rx tx) s (fun t => (t.prt p).link = .up ∧ t.bit ETH.EVT (4 * p) = true ∧
        t.rd (TIME.PORT_LAT p) = 65536 * tx + rx ∧ (t.bit (ETH.PSTAT p) 11 = true ↔ x.link = .fast) ∧
        ∀ (l : Nat) (v : LaneLive), lanes[l]? = some v → l < s.lanesUsed p → t.rd (ETH.LANE_STAT p l) = 256 * v.eye.toNat + 1 ∧
          (x.link = .train → t.bit (ETH.LANE_RXCFG p l) 4 = s.bit (ETH.PCFG p) 5) ∧
          (x.link = .fast → t.getF (ETH.LANE_RXCFG p l) 4 2 = s.getF (ETH.LANE_RXCFG p l) 4 2 ∧
            t.rd (ETH.LANE_TXEQ p l) = s.rd (ETH.LANE_TXEQ p l)))) ∧
    (x.link = .up →
      Gives (.portLinkLoss p) s (fun t => (t.prt p).link = .fast ∧ t.rd (ETH.LINK_DOWN_CNT p) = sat32 (s.rd (ETH.LINK_DOWN_CNT p)) 1 ∧
        t.bit ETH.EVT (4 * p + 1) = true ∧ t.rd (TIME.PDELAY p) = 0)) ∧
    Gives (.linkFaultReceive p) s (fun t => (t.prt p).fault = true ∧ (t.prt p).link = x.link ∧ t.carries p = false ∧ t.regs = s.regs) ∧
    Gives (.linkFaultClear p) s (fun t => (t.prt p).fault = false ∧ (t.prt p).link = x.link ∧ t.regs = s.regs) ∧
    (∀ (v : Word) (errs : Nat), v.toNat % 4 ≠ 0 →
      (s.mode = 6 ∨ s.sceneUsesPort p = false →
        Gives (.portLoopbackSelect p v errs) s (fun t => (t.prt p).link = .loop ∧ t.rd (ETH.LOOP_CTL p) = v.toNat % 4 ∧
          t.rd (ETH.LB_ERR_CNT p) = sat32 (s.rd (ETH.LB_ERR_CNT p)) (if s.lbRuns p then errs else 0))) ∧
      (s.mode ≠ 6 → s.sceneUsesPort p = true →
        Gives (.portLoopbackSelect p v errs) s (fun t => (t.prt p).link = x.link ∧ t.rd (ETH.LOOP_CTL p) = 0 ∧ t.bit ETH.EVT 8 = true))) ∧
    (∀ b : Bool, Gives (.fecCodewordError p b) s (fun t =>
      t.rd (ETH.FEC_UNCORR_CNT p) = sat32 (s.rd (ETH.FEC_UNCORR_CNT p)) (if b then 1 else 0) ∧
      t.rd (ETH.FEC_CORR_CNT p) = sat32 (s.rd (ETH.FEC_CORR_CNT p)) (if b then 0 else 1) ∧
      OnlyRegs [ETH.FEC_UNCORR_CNT p, ETH.FEC_CORR_CNT p] s t ∧ t.eth = s.eth))

/-- The bytes that the MAC sends for the frame `g`: padded to 60, then its FCS (R252). -/
def Sys2Proof.onWire (g : List Byte) : List Byte := padFrame g ++ leBytes 4 (crc32 (padFrame g))

/-- A received frame with a bad FCS or a wrong length is discarded and counted; a management frame for this device waits for its
requests; a pass-through frame goes with its arrival time to its queue. A launch entry that is executed now is handed over, and one that
is not hands over nothing; offered to a full queue it is dropped, counted, and its frame leaves the egress queue, now where it stands there
for this launch, else when it is built. A handed launch waits for its time; then its frame, from the queue it names, starts on
the port if it is free, late launches counted, and dropped beyond the tolerance; behind an earlier frame it waits and starts
when that ends; a frame of queue 7 starts between launches if it fits. -/
def Obligations.FramesAreReceivedAndLaunched : Prop :=
  ∀ (s : State), s.Shaped →
    (∀ (p : Fin 2) (f : List Byte) (age : Nat), (s.prt p).link = .up →
      let n := f.length - (frameType f).2
      Gives (.ethFrameReceive p f false age) s (fun t => t.rd (ETH.RX_FCS_CNT p) = sat32 (s.rd (ETH.RX_FCS_CNT p)) 1 ∧ OnlyRegs [ETH.RX_FCS_CNT p] s t ∧ t.mgmt = s.mgmt) ∧
      (n < 46 → Gives (.ethFrameReceive p f true age) s (fun t =>
        t.rd (ETH.RX_DISCARD_CNT p) = sat32 (s.rd (ETH.RX_DISCARD_CNT p)) 1 ∧ OnlyRegs [ETH.RX_DISCARD_CNT p] s t ∧ t.mgmt = s.mgmt)) ∧
      (46 ≤ n → n ≤ 9000 → p.val = 0 → s.macsecOn = false → (frameType f).1 = s.getF ETH.MGMT_ETYPE 0 16 → (frameType f).1 ≠ 0x88F7 →
        be (f.take 6) = s.uplAddress →
        Gives (.ethFrameReceive p f true age) s (fun t => t.mgmt.frames = s.mgmt.frames ++ [f] ∧ t.regs = s.regs ∧ t.cfs = s.cfs ∧ t.power.hostAt = s.now)) ∧
      (46 ≤ n → n ≤ 9000 → p.val = 1 → (frameType f).1 = 0x22F0 → s.getF ETH.MGMT_ETYPE 0 16 ≠ 0x22F0 →
        ∀ q, s.sched.cur.loads.passQ = some q →
        Gives (.passthroughFrameReceive f true age) s (fun t =>
          t = s.push q 27 (leBytes 4 ((s.time.dt / 2 ^ 40 - age) % 2 ^ 32) ++ List.replicate 4 0 ++ f)))) ∧
    (∀ (old : Bool) (i : Nat) (e : Entry), (s.tableSet old).launch[i]? = some e →
      (s.entryNow 44 old e.slot e.carry = false → exec (.launchHandover old i) s = .next s) ∧
      (s.entryNow 44 old e.slot e.carry = true → s.time.launches.length < 448 → Gives (.launchHandover old i) s (fun t => ∃ l, t.time.launches = s.time.launches ++ [l] ∧ l.port = fld e.w2 20 1 ∧
        l.due = s.sched.periodStart + e.w1 * 2 ^ 40 + fld e.w2 0 16 * 2 ^ 24 ∧ l.handed = s.time.dt ∧ l.stream = fld e.w3 24 6 ∧
        l.index = fld e.w3 0 16 ∧ l.pass = (e.op == 2) ∧ l.queue = fld e.w2 16 3 ∧ t.regs = s.regs)) ∧
      (s.entryNow 44 old e.slot e.carry = true → 448 ≤ s.time.launches.length → e.op ≠ 2 →
        let key := 65536 * fld e.w3 24 6 + fld e.w3 0 16
        Gives (.launchHandover old i) s (fun t => t.time.launches = s.time.launches ∧
          t.rd (TIME.LAUNCH_DROP_CNT + 4 * fld e.w2 20 1) = sat32 (s.rd (TIME.LAUNCH_DROP_CNT + 4 * fld e.w2 20 1)) 1 ∧ t.bit TIME.EVT 9 = true ∧
          (∀ u, Map.get none s.eth.units key = some u → u.queue = fld e.w2 16 3 →
            (∀ x ∈ s.time.launches, x.pass = true ∨ x.stream ≠ fld e.w3 24 6 ∨ x.index ≠ fld e.w3 0 16) →
            Map.get none t.eth.units key = none ∧ t.time.refused = s.time.refused) ∧
          (Map.get none s.eth.units key = none → t.eth = s.eth ∧ ∃ l, t.time.refused = s.time.refused ++ [l] ∧ l.pass = false ∧
            l.stream = fld e.w3 24 6 ∧ l.index = fld e.w3 0 16)))) ∧
    (∀ (l : PendLaunch) (u : EgressUnit), l.port < 2 → l.pass = false → Map.get none s.eth.units (65536 * l.stream + l.index) = some u →
      u.queue = l.queue →
      let due := max l.due l.handed
      let tol := s.getF TIME.LATE_TOL 0 16 * 2 ^ 40
      let Sent := fun (at_ : Nat) (g : List Byte) (t : State) => (t.prt l.port).sent = some { bytes := onWire g, at_ := at_ } ∧
        Map.get none t.eth.units (65536 * l.stream + l.index) = none ∧
        t.rd (TIME.LAUNCH_LATE_CNT + 4 * l.port) = sat32 (s.rd (TIME.LAUNCH_LATE_CNT + 4 * l.port)) (if at_ = l.due then 0 else 1) ∧
        t.rd (TIME.LAUNCH_DROP_CNT + 4 * l.port) = s.rd (TIME.LAUNCH_DROP_CNT + 4 * l.port)
      (∀ i : Nat, s.time.launches[i]? = some l →
        (s.carries l.port = true → (s.prt l.port).busyUntil ≤ due → due - l.due ≤ tol → ∀ g, (s.protect l.port u.frame).1 = some g →
          Gives (.launchFire i) s (fun t => Sent due g t ∧ t.time.launches = s.time.launches.eraseIdx i)) ∧
        (s.carries l.port = true → (s.prt l.port).busyUntil ≤ due → tol < due - l.due →
          Gives (.launchFire i) s (fun t => (t.prt l.port).sent = (s.prt l.port).sent ∧ t.bit TIME.EVT 9 = true ∧
            t.rd (TIME.LAUNCH_DROP_CNT + 4 * l.port) = sat32 (s.rd (TIME.LAUNCH_DROP_CNT + 4 * l.port)) 1)) ∧
        (s.carries l.port = true → due < (s.prt l.port).busyUntil →
          Gives (.launchFire i) s (fun t => (t.prt l.port).deferred = (s.prt l.port).deferred ++ [l] ∧ t.regs = s.regs)) ∧
        (s.carries l.port = false →
          Gives (.launchFire i) s (fun t => (t.prt l.port).sent = (s.prt l.port).sent ∧
            t.rd (ETH.LAUNCH_DOWN_CNT l.port) = sat32 (s.rd (ETH.LAUNCH_DOWN_CNT l.port)) 1))) ∧
      (∀ (p : Fin 2) (rest : List PendLaunch) (g : List Byte), p.val = l.port → (s.prt p).deferred = l :: rest → s.carries p = true →
        max due (s.prt p).busyUntil - l.due ≤ tol → (s.protect p u.frame).1 = some g →
        Gives (.launchDeferredStart p) s (fun t => Sent (max due (s.prt p).busyUntil) g t ∧ (t.prt p).deferred = rest))) ∧
    (∀ (p : Fin 2) (f : List Byte) (rest : List (List Byte)), s.carries p = true → (s.prt p).busyUntil ≤ s.time.dt → (s.prt p).deferred = [] →
      (s.prt p).q6 = [] → (s.prt p).q7 = f :: rest → ∀ g, (s.protect p f).1 = some g →
      (s.fits p (padFrame g).length = true →
        Gives (.unschedFrameStart p) s (fun t => (t.prt p).sent = some { bytes := onWire g, at_ := s.time.dt } ∧ (t.prt p).q7 = rest)) ∧
      (s.fits p (padFrame g).length = false → Gives (.unschedFrameStart p) s (fun t => (t.prt p).q7 = f :: rest ∧ (t.prt p).sent = (s.prt p).sent))) ∧
    (∀ (p : Nat) (f : List Byte), p ≠ 0 ∨ s.macsecOn = false → s.protect p f = (some f, s))

/-! ### Meridian -/

/-- The offset that a complete Sync of domain `d` gives, in 1/16 ns (R318). -/
def Sys2Proof.syncOffset (s : State) (d : Nat) (i : Machine.SyncInfo) (ingress : Nat) : Int :=
  (i.origin : Int) * 16 + i.correction / 4096 + (nth {} s.time.pdelay 0).delay + (BitVec.ofNat 32 (s.rd (TIME.DOM_ASYM d))).toInt - ingress

/-- A QUALIFIED domain that does not drive, without a step candidate, at position 0. -/
def Sys2Proof.Tracked (s : State) (d : Nat) : Prop :=
  s.position = 0 ∧ (s.gdom d).phase = .qualified ∧ (s.gdom d).candidate = none ∧ (s.time.selected && s.time.drive == d) = false

/-- The residual of an offset `o` at instant `at_` against the domain's record brought forward (R329). -/
def Sys2Proof.residual (s : State) (d : Nat) (o : Int) (at_ : Nat) : Int := o - s.carried (s.gdom d).rate (s.gdom d).ofs (s.gdom d).ofsAt at_

/-- A Sync of an enabled domain, one-step or completed by its Follow_Up, within the step threshold is the domain's new recorded offset;
beyond it, it is a step candidate and the record stands; a two-step Sync waits for its Follow_Up, and is dropped and counted when
none comes; a write of the asymmetry moves the record; time that passes without a Sync returns the domain to LISTEN, counted; the
step of a SUSPECT domain is accepted when its time ends. -/
def Sys2Proof.DomainsAreTracked : Prop :=
  ∀ (s : State), s.Shaped →
    (∀ (m : SyncMsg) (age : Nat) (d : Nat), s.syncFor m.domain.toNat = some d → Tracked s d →
      let at_ := s.ingressStamp 0 age
      let o := syncOffset s d m.info at_
      let thr := 16 * s.getF TIME.STEP_THR 0 16
      (m.twoStep = false → (residual s d o (at_ * 2 ^ 36)).natAbs ≤ thr →
        Gives (.syncReceive m age) s (fun t => (t.gdom d).ofs = o ∧ (t.gdom d).ofsAt = at_ * 2 ^ 36 ∧ (t.gdom d).phase = .qualified ∧
          (t.gdom d).logSync = m.logInterval.toNat ∧ t.time.dt = s.time.dt ∧ t.time.drive = s.time.drive)) ∧
      (m.twoStep = false → thr < (residual s d o (at_ * 2 ^ 36)).natAbs →
        Gives (.syncReceive m age) s (fun t => (t.gdom d).ofs = (s.gdom d).ofs ∧ (t.gdom d).candidate = some (residual s d o (at_ * 2 ^ 36)) ∧
          t.time.dt = s.time.dt)) ∧
      (m.twoStep = true →
        Gives (.syncReceive m age) s (fun t => t.time.twoStep = s.time.twoStep ++ [{ domain := m.domain.toNat, seq := m.seq, ingress := at_, correction := m.info.correction, logInterval := m.logInterval.toNat }] ∧ t.time.doms = s.time.doms ∧ t.regs = s.regs))) ∧
    (∀ (dom : Byte) (seq : Fin 65536) (i : Machine.SyncInfo) (w : TwoStep),
      s.time.twoStep.find? (fun p => p.domain == dom.toNat && p.seq == seq.val) = some w →
      (∀ d, s.syncFor dom.toNat = some d → Tracked s d →
        let o := syncOffset s d { i with correction := i.correction + w.correction } w.ingress
        (residual s d o (w.ingress * 2 ^ 36)).natAbs ≤ 16 * s.getF TIME.STEP_THR 0 16 →
        Gives (.followUpReceive dom seq i) s (fun t => (t.gdom d).ofs = o ∧ (t.gdom d).ofsAt = w.ingress * 2 ^ 36 ∧
          t.time.twoStep = s.time.twoStep.erase w ∧ t.time.dt = s.time.dt)) ∧
      Gives (.followUpTimeout dom seq) s (fun t => t.time.twoStep = s.time.twoStep.erase w ∧ t.time.doms = s.time.doms ∧
        t.rd TIME.RELAY_DROP_CNT = sat32 (s.rd TIME.RELAY_DROP_CNT) 1 ∧ t.bit TIME.EVT 10 = true)) ∧
    (∀ (d : Fin 2) (v : Word), Served s (TIME.DOM_ASYM d) →
      Gives (.asymWrite d v) s (fun t => t.rd (TIME.DOM_ASYM d) = v.toNat ∧
        (t.gdom d).ofs = (s.gdom d).ofs + (v.toInt - (BitVec.ofNat 32 (s.rd (TIME.DOM_ASYM d))).toInt) ∧ t.gdom (1 - d) = s.gdom (1 - d))) ∧
    (∀ d : Fin 2, s.domEnabled d = true → (s.gdom d).phase ≠ .listen →
      Gives (.syncReceiptTimeout d) s (fun t => (t.gdom d).phase = .listen ∧ (t.gdom d).recent = [] ∧
        t.rd TIME.SYNC_TO_CNT = sat32 (s.rd TIME.SYNC_TO_CNT) 1 ∧ t.bit TIME.EVT 4 = true ∧
        (s.time.selected = true → s.time.drive = d → s.time.dtState = .locked ∨ s.time.dtState = .slew → t.time.dtState = .hold))) ∧
    (∀ (d : Fin 2) (o : Int) (at_ : Nat), (s.gdom d).phase = .suspect → (s.gdom d).susp = some (o, at_) →
      ¬ (s.time.dtState = .hold ∧ s.time.drive = d) →
      Gives (.suspectTimeout d) s (fun t => (t.gdom d).phase = .qualified ∧ (t.gdom d).ofs = o ∧ (t.gdom d).ofsAt = at_))

/-- An acquisition step moves device time, and all that waits on it, by the offset rounded to whole ns, counted, unless the cores are
halted, whose swap points are not taken; a switch is decided at
position 0 and refused elsewhere, one to the driving domain cancels a pending one, and a switch takes effect by slew, counted, without a jump; the other domain is selected where PREF has not
qualified; a hold that ends unswitched makes device time FREE; a capture copies device time; the grandmaster sends its Sync and
Announce. -/
def Obligations.DeviceTimeIsSteered : Prop :=
  ∀ (s : State), s.Shaped →
    (s.power.coresHalted = true → exec .acqStepApply s = .next s) ∧
    (∀ o : Int, s.time.stepPend = some o → s.power.coresHalted = false → 0 ≤ (s.time.dt : Int) + (o + 8) / 16 * 2 ^ 40 →
      Gives .acqStepApply s (fun t => (∃ u : State, u = s.stepTime ((o + 8) / 16) ∧ t.time.trigs = u.time.trigs ∧ t.time.trigRecs = u.time.trigRecs ∧
          t.time.anchors = u.time.anchors ∧ t.time.twoStep = u.time.twoStep ∧ t.eth = u.eth ∧ t.pres = u.pres ∧ t.sched = u.sched) ∧
        (t.time.dt : Int) = s.time.dt + (o + 8) / 16 * 2 ^ 40 ∧ t.time.stepPend = none ∧
        t.rd TIME.ACQ_STEP_CNT = sat32 (s.rd TIME.ACQ_STEP_CNT) 1 ∧ t.bit TIME.EVT 6 = true ∧
        t.time.launches = s.time.launches.map (fun l => { l with due := movedBy ((o + 8) / 16) l.due, handed := movedBy ((o + 8) / 16) l.handed }))) ∧
    (∀ v : Word, wbit v 8 = true → s.position ≠ 0 → Served s TIME.CTL →
      Gives (.switchRequest v) s (fun t => t.bit TIME.EVT 11 = true ∧ t.time = s.time ∧ t.rd TIME.CTL = v.toNat &&& 0x1F)) ∧
    (∀ v : Word, wbit v 8 = true → s.position = 0 → Served s TIME.CTL → (s.time.selected && s.time.drive == v.toNat / 16 % 2) = true →
      Gives (.switchRequest v) s (fun t => t.time.switchTo = none ∧ t.time.drive = s.time.drive ∧ t.time.dtState = s.time.dtState)) ∧
    (∀ v : Word, wbit v 8 = true → s.position = 0 → Served s TIME.CTL → (s.gdom (v.toNat / 16 % 2)).phase ≠ .suspect →
      (s.time.selected && s.time.drive == v.toNat / 16 % 2) = false →
      Gives (.switchRequest v) s (fun t =>
        t.time.switchTo = some (v.toNat / 16 % 2, s.time.dt + s.getF TIME.SW_CFG 0 16 * 1000000 * 2 ^ 40) ∧ t.time.drive = s.time.drive ∧
        t.time.selSel = v.toNat / 16 % 2 ∧ t.time.selSeq = (s.time.selSeq + 1) % 256)) ∧
    (∀ (d at_ : Nat), s.time.switchTo = some (d, at_) → s.qualified d = true → (s.time.selected && s.time.drive == d) = false →
      s.time.dtState ≠ .free →
      Gives .domainSwitch s (fun t => t.time.drive = d ∧ t.time.selected = true ∧ t.time.dtState = .slew ∧ t.time.switchTo = none ∧ t.time.dt = s.time.dt ∧
        t.rd TIME.SWITCH_CNT = sat32 (s.rd TIME.SWITCH_CNT) 1 ∧ t.bit TIME.EVT 3 = true)) ∧
    (s.bit TIME.CTL 1 = true → s.qualified (1 - s.getF TIME.CTL 0 1) = true → s.qualified (s.getF TIME.CTL 0 1) = false →
      s.time.dtState = .free → s.time.selected = false → s.gm = false → s.position = 0 →
      Gives .autoSelectTimeout s (fun t => t.time.selected = true ∧ t.time.drive = 1 - s.getF TIME.CTL 0 1 ∧ t.regs = s.regs)) ∧
    (s.time.dtState = .hold → s.time.holdReason ≠ .step →
      Gives .holdTimeout s (fun t => t.time.dtState = .free ∧ t.bit TIME.EVT 1 = true ∧ t.time.dt = s.time.dt ∧
        (s.qualified 0 = false → s.qualified 1 = false → t.time.selected = false) ∧
        (s.position = 0 → s.gm = false → s.time.switchTo = none → s.qualified (s.getF TIME.CTL 0 1) = true →
          t.time.selected = true ∧ t.time.drive = s.getF TIME.CTL 0 1))) ∧
    (∀ v : Word, wbit v 0 = true → Served s TIME.NOW_CAP →
      Gives (.timeCapture v) s (fun t => t.time = s.time ∧
        t.rd TIME.NOW_NS = s.time.dt / 2 ^ 40 % 1000000000 ∧ t.rd TIME.NOW_SEC_LO = s.time.dt / 2 ^ 40 / 1000000000 % 2 ^ 32 ∧
        t.rd TIME.NOW_SEC_HI = s.time.dt / 2 ^ 40 / 1000000000 / 2 ^ 32 % 2 ^ 16 ∧ t.rd TIME.NOW_FRAC = s.time.dt % 2 ^ 40 / 2 ^ 24)) ∧
    (s.gm = true → (s.prt 0).link ≠ .off → (s.prt 0).q6.length + 2 ≤ 16 →
      Gives .gmSyncTransmit s (fun t => t.time.gmSeq = (s.time.gmSeq + 1) % 65536 ∧ ∃ b, (t.prt 0).q6 = (s.prt 0).q6 ++ [.gmSync s.time.gmSeq, .announce b]))

/-- Peer delay and messages: a Pdelay_Req is answered with its ingress time; an exchange that completes gives the mean link delay and
asCapable, shown in TIME.PDELAY; an interval without answer sends the next request; Signaling sets intervals within their ranges, which the
messages sent then carry; an
Announce is recorded and passed on down the chain; a relayed Sync leaves when the port is free, or is dropped after its time. -/
def Sys2Proof.TimeMessages : Prop :=
  ∀ (s : State), s.Shaped →
    (∀ (p : Fin 2) (seq : Fin 65536) (req : List Byte) (age : Nat), (s.prt p).link = .up → (s.prt p).q6.length < 16 →
      Gives (.pdelayReqReceive p seq req age) s (fun t =>
        (t.prt p).q6 = (s.prt p).q6 ++ [.pdelayResp seq req (s.ingressStamp p age)] ∧ t.time = s.time ∧ t.regs = s.regs)) ∧
    (∀ (p : Fin 2) (seq : Fin 65536) (t1 t2 t3 t4 age : Nat), (s.prt p).link = .up → (nth {} s.time.pdelay p).req = some (seq.val, some t1) →
      Gives (.pdelayRespReceive p false seq t2 age) s (fun t => (nth {} t.time.pdelay p).resp = some (t2, s.ingressStamp p age)) ∧
      ((nth {} s.time.pdelay p).resp = some (t2, t4) → (nth {} s.time.pdelay p).last = none → (nth {} s.time.pdelay p).nrr = 0 →
        let delay : Int := ((t4 : Int) - t1 - ((t3 : Int) - t2)) / 2
        Gives (.pdelayRespReceive p true seq t3 age) s (fun t => (nth {} t.time.pdelay p).delay = delay ∧ (nth {} t.time.pdelay p).req = none ∧
          (nth {} t.time.pdelay p).lost = 0 ∧ ((nth {} t.time.pdelay p).capable = true ↔ delay ≤ 12800) ∧
          (0 ≤ delay → delay ≤ 12800 → t.rd (TIME.PDELAY p) = delay.toNat)))) ∧
    (∀ p : Fin 2, (s.prt p).link = .up → (s.prt p).q6.length < 16 →
      Gives (.pdelayInterval p) s (fun t => (t.prt p).q6 = (s.prt p).q6 ++ [.pdelayReq (nth {} s.time.pdelay p).seq] ∧
        (nth {} t.time.pdelay p).req = some ((nth {} s.time.pdelay p).seq, none) ∧
        (nth {} t.time.pdelay p).lost = (nth {} s.time.pdelay p).lost + (if (nth {} s.time.pdelay p).req.isSome then 1 else 0))) ∧
    (∀ (p : Fin 2) (a b : Int), (s.prt p).link = .up →
      Gives (.signalingReceive p (some a) (some b) none) s (fun t => t.time.syncLog = max (-5) (min 0 a) ∧
        (nth {} t.time.pdelay p).log = max (-3) (min 3 b) ∧ t.time.doms = s.time.doms)) ∧
    (∀ (p : Fin 2) (at_ seq : Nat), (s.timeBytes p at_ (.gmSync seq))[47]? = some (BitVec.ofInt 8 s.time.syncLog) ∧
      (s.timeBytes p at_ (.pdelayReq seq))[47]? = some (BitVec.ofInt 8 (nth {} s.time.pdelay p).log)) ∧
    (∀ (b : List Byte) (d : Nat), s.syncFor (be (slice b 4 1)) = some d →
      Gives (.announceReceive b) s (fun t => (t.gdom d).utc ≠ none ∧ (t.gdom d).ofs = (s.gdom d).ofs ∧
        (s.hasPort 1 = true → (s.prt 1).link ≠ .off → (s.prt 1).q6.length < 16 → ∃ m, (t.prt 1).q6 = (s.prt 1).q6 ++ [.announce m]))) ∧
    (∀ (m : TimeMsg) (rest : List TimeMsg), (s.prt 1).q6 = m :: rest → isRelay m = true →
      (s.carries 1 = true → (s.prt 1).busyUntil ≤ s.time.dt → (s.prt 1).deferred = [] →
        s.fits 1 (padFrame (s.timeBytes 1 s.time.dt m)).length = true →
        Gives .relaySyncTransmit s (fun t => (t.prt 1).q6 = rest ∧
          (t.prt 1).sent = some { bytes := onWire (padFrame (s.timeBytes 1 s.time.dt m)), at_ := s.time.dt })) ∧
      Gives .relayTimeout s (fun t => (t.prt 1).q6 = rest ∧ t.rd TIME.RELAY_DROP_CNT = sat32 (s.rd TIME.RELAY_DROP_CNT) 1 ∧ t.bit TIME.EVT 10 = true))

/-- gPTP domains are tracked, and time messages are exchanged. -/
def Obligations.DomainsAndMessages : Prop := Sys2Proof.DomainsAreTracked ∧ Sys2Proof.TimeMessages

/-- The trigger `g` goes out: that of a parallel port waits for its edge, that of a link camera is queued on its link, and sent at once on
an idle back channel, with TARGET and UI_OFS from the link's anchor for the time I - CAM_DLY at the pin; on a link that is not in ACTIVE
it is skipped, counted, with reason LINK (R333, R334, R336). -/
def Sys2Proof.TriggerGoesOut (s : State) (g : PendTrig) (t : State) : Prop :=
  let x := s.trigTarget g.cam (g.instant - g.dly * 2 ^ 36)
  let p : BcPacket := .trigger x.1 g.out x.2 g.width
  (16 ≤ g.cam → t.time.ppPend = s.time.ppPend ++ [(g.cam - 16, g.width)] ∧ t.link = s.link ∧ t.rd TIME.TRIG_SKIP_CNT = s.rd TIME.TRIG_SKIP_CNT) ∧
  (g.cam < 16 → (s.lnk g.cam).training = .active → t.time.ppPend = s.time.ppPend ∧ t.rd TIME.TRIG_SKIP_CNT = s.rd TIME.TRIG_SKIP_CNT ∧
    OtherLinks g.cam s t ∧
    ((s.lnk g.cam).inFlight ≠ none → (t.lnk g.cam).inFlight = (s.lnk g.cam).inFlight ∧ (t.lnk g.cam).triggers = (s.lnk g.cam).triggers ++ [p]) ∧
    ((s.lnk g.cam).inFlight = none → (s.lnk g.cam).triggers = [] → (t.lnk g.cam).inFlight = some p ∧ (t.lnk g.cam).triggers = [])) ∧
  (g.cam < 16 → (s.lnk g.cam).training ≠ .active → t.time.ppPend = s.time.ppPend ∧ t.link = s.link ∧
    t.rd TIME.TRIG_SKIP_CNT = sat32 (s.rd TIME.TRIG_SKIP_CNT) 1 ∧ t.bit TIME.EVT 8 = true ∧ t.rd TIME.TRIG_LAST = 2 * 2 ^ 29 + g.cam * 2 ^ 24)

/-- The trigger of an entry that is executed now, handed over in time, waits for its instant; one handed over late but within the tolerance
is counted and goes out at once; one beyond it, and one offered to a full queue, is skipped, counted, with its reason. At its time a trigger
that waits goes out, or is skipped where its link is not in ACTIVE. The output of a parallel port whose trigger waits rises, and falls; one
without a trigger does not rise. -/
def Obligations.TriggersAreSent : Prop :=
  ∀ (s : State), s.Shaped →
    (∀ (old : Bool) (i : Nat) (e : Entry), (s.tableSet old).trig[i]? = some e → s.entryNow 45 old e.slot e.carry = true →
      let c := fld e.w2 16 5
      let inst := s.sched.periodStart + e.launchAt
      let g : PendTrig := { cam := c, instant := inst, dly := s.getF (TIME.CAM_DLY c) 0 20, out := fld e.w2 24 4, width := fld e.w3 0 16 }
      let late : Int := (s.time.dt : Int) - ((inst : Int) - g.dly * 2 ^ 36 - s.getF TIME.TRIG_CFG 0 8 * 1000 * 2 ^ 40)
      let Skipped := fun (reason ns : Nat) (t : State) => t.time.trigs = s.time.trigs ∧ t.time.ppPend = s.time.ppPend ∧ t.link = s.link ∧
        t.rd TIME.TRIG_LATE_CNT = s.rd TIME.TRIG_LATE_CNT ∧ t.rd TIME.TRIG_SKIP_CNT = sat32 (s.rd TIME.TRIG_SKIP_CNT) 1 ∧
        t.bit TIME.EVT 8 = true ∧ t.rd TIME.TRIG_LAST = reason * 2 ^ 29 + c * 2 ^ 24 + min ns 0xFFFF
      (64 ≤ s.time.trigs.length → Gives (.triggerHandover (.slot old i)) s (Skipped 4 0)) ∧
      (s.time.trigs.length < 64 →
        (late ≤ 0 →
          Gives (.triggerHandover (.slot old i)) s (fun t => t.time.trigs = s.time.trigs ++ [g] ∧ t.time.ppPend = s.time.ppPend ∧
            Map.get [] t.time.trigRecs c = Map.get [] s.time.trigRecs c ++ [{ instant := inst }] ∧ t.link = s.link ∧ t.regs = s.regs)) ∧
        (0 < late → late ≤ s.getF TIME.LATE_TOL 0 16 * 2 ^ 40 →
          Gives (.triggerHandover (.slot old i)) s (fun t => t.time.trigs = s.time.trigs ∧
            t.rd TIME.TRIG_LATE_CNT = sat32 (s.rd TIME.TRIG_LATE_CNT) 1 ∧ t.bit TIME.EVT 7 = true ∧ TriggerGoesOut s g t)) ∧
        (s.getF TIME.LATE_TOL 0 16 * 2 ^ 40 < late → Gives (.triggerHandover (.slot old i)) s (Skipped 1 (late / 2 ^ 40).toNat)))) ∧
    (∀ (old : Bool) (i : Nat), (∀ e, (s.tableSet old).trig[i]? = some e → s.entryNow 45 old e.slot e.carry = false) →
      exec (.triggerHandover (.slot old i)) s = .next s) ∧
    (∀ c : Fin 18,
      (s.time.trigs.find? (fun t => t.cam == c.val) = none → exec (.triggerHandover (.due c)) s = .next s) ∧
      (∀ g : PendTrig, s.time.trigs.find? (fun t => t.cam == c.val) = some g →
        Gives (.triggerHandover (.due c)) s (fun t => t.time.trigs = s.time.trigs.erase g ∧ TriggerGoesOut s g t))) ∧
    (∀ p : Fin 2,
      (s.time.ppPend.any (fun x => x.1 == p.val) = true →
        Gives (.ppTriggerAssert p) s (fun t => t = { s with time := t.time } ∧
          t.time = { s.time with ppTrig := setNth s.time.ppTrig p true, ppPend := s.time.ppPend.eraseP (fun x => x.1 == p.val) } ∧
          nth false t.time.ppTrig p = true)) ∧
      (s.time.ppPend.any (fun x => x.1 == p.val) = false → exec (.ppTriggerAssert p) s = .next s) ∧
      Gives (.ppTriggerRelease p) s (fun t => t = { s with time := t.time } ∧ t.time = { s.time with ppTrig := setNth s.time.ppTrig p false } ∧
        nth false t.time.ppTrig p = false ∧ nth false t.time.ppTrig (1 - p) = nth false s.time.ppTrig (1 - p)))/-! ### Schedule control and the chain swap -/

/-- With no swap pending, a request names the parts of the set that change, at no faster grade than the present one, and S is the first
period start of the set in force at or after the lead time; one that comes before the guard of a pending local swap joins it, a later one waits behind it; a cluster is taken out of service while no other one is, and a second one is refused and counted; one is admitted again
only after it has passed its latest test; a staged set that passes its checks is held for S, one
that fails is rejected with the event; a local swap that is not ready at the guard is put off by a period and counted, a chain swap
is missed. A sequencer starts on the new set at its switch slot, once; the slot counter counts. -/
def Sys2Proof.SwapsAreRequestedAndStaged : Prop :=
  ∀ (s : State),
    (∀ g : Fin 3, s.sched.next = none → s.sched.cur.period ≠ 0 →
      Gives (.swapRequest (some g) none) s (fun t => ∃ n, t.sched.next = some n ∧ n.kind = .grade ∧ n.graded = true ∧ n.grade = max g.val s.alm.grade ∧ n.scene = s.sched.cur.scene ∧
        n.variant = s.sched.cur.variant ∧ n.staging = true ∧ n.seq = 0 ∧
        n.at_ % s.sched.cur.period = 0 ∧ s.time.dt + s.getF SCHED.SWAP_CFG 0 16 * 1000000 * 2 ^ 40 ≤ n.at_ ∧
        n.at_ < s.time.dt + s.getF SCHED.SWAP_CFG 0 16 * 1000000 * 2 ^ 40 + s.sched.cur.period)) ∧
    (∀ v : Fin 9, v.val ≠ 0 →
      (s.sched.next = none → s.sched.waiting = none → (∀ k ∈ s.sched.oos, k + 1 = v.val) →
        Gives (.swapRequest none (some v)) s (fun t => ∃ n, t.sched.next = some n ∧ n.kind = .variant ∧ n.variant = v ∧ n.scene = s.sched.cur.scene ∧
          n.grade = max s.sched.cur.grade s.alm.grade)) ∧
      ((∃ k ∈ s.sched.oos, k + 1 ≠ v.val) ∨ (∃ n, s.sched.next = some n ∧ n.variant ≠ 0 ∧ n.variant ≠ v.val) ∨
          (∃ n, s.sched.waiting = some n ∧ n.variant ≠ 0 ∧ n.variant ≠ v.val) →
        Gives (.swapRequest none (some v)) s (fun t => t.sched = s.sched ∧ t.rd SCHED.MULTI_OOS_CNT = sat32 (s.rd SCHED.MULTI_OOS_CNT) 1 ∧ t.bit SCHED.EVT 6 = true))) ∧
    (∀ (g : Fin 3) (v : Fin 9), v.val ≠ 0 → s.sched.next = none → s.sched.waiting = none → (∀ k ∈ s.sched.oos, k + 1 = v.val) →
      (∀ n : Swap, n.at_ = s.swapPoint s.leadTime → s.afterGuard n = false) →
      Gives (.swapRequest (some g) (some v)) s (fun t => ∃ n, t.sched.next = some n ∧ n.variant = v ∧ n.grade = max g.val s.alm.grade ∧ n.graded = true ∧
        n.scene = s.sched.cur.scene)) ∧
    (∀ (g : Fin 3) (b : Swap), s.sched.next = some b → b.kind ≠ .acquisition → b.seq = 0 → s.sched.cur.period ≠ 0 →
      (s.afterGuard b = false →
        Gives (.swapRequest (some g) none) s (fun t => ∃ n, t.sched.next = some n ∧ n.graded = true ∧ n.grade = max g.val s.alm.grade ∧ n.scene = b.scene ∧
          n.variant = b.variant ∧ n.staging = true ∧ n.seq = 0 ∧ n.at_ % s.sched.cur.period = 0 ∧ b.at_ ≤ n.at_)) ∧
      (s.afterGuard b = true → s.sched.waiting = none →
        Gives (.swapRequest (some g) none) s (fun t => t.sched.next = some b ∧ t.sched.cur = s.sched.cur ∧
          ∃ w, t.sched.waiting = some w ∧ w.graded = true ∧ w.grade = g.val ∧ w.seq = 0 ∧
            (b.kind ≠ .early → w.scene = b.scene ∧ w.variant = b.variant)))) ∧
    exec (.swapRequest none none) s = .next s ∧
    ((∀ k ∈ s.sched.oos, k ∈ s.bist.passed) → s.sched.next = none →
      Gives (.swapRequest none (some 0)) s (fun t => ∃ n, t.sched.next = some n ∧ n.kind = .variant ∧ n.variant = 0)) ∧
    (∀ k ∈ s.sched.oos, k ∉ s.bist.passed → exec (.swapRequest none (some 0)) s = .next s) ∧
    (∀ (n : Swap) (loads : SetLoads), s.sched.next = some n → n.staging = true →
      (∀ (x : TableSet) (u : State), s.loadSet n.scene n.grade n.variant n.planId loads = (.ok x, u) →
        Gives (.stagingComplete loads) s (fun t => ∃ m, t.sched.next = some m ∧ m.staging = false ∧ m.set = some x ∧ m.scene = n.scene ∧
          (n.at_ ≠ 0 → s.sched.cur.period ≠ 0 → m.at_ = n.at_) ∧ t.sched.cur = s.sched.cur)) ∧
      (∀ (c : Nat) (u : State), s.loadSet n.scene n.grade n.variant n.planId loads = (.error c, u) →
        Gives (.stagingComplete loads) s (fun t => t.bit SCHED.EVT 2 = true ∧ t.sched.cur = s.sched.cur ∧ (n.graded = true → t.alm.refused = some n.grade)))) ∧
    (∀ n : Swap, s.sched.next = some n → s.swapReady n = false →
      (n.seq = 0 → Gives .swapGoGuard s (fun t => t.sched.next = some { n with deferred := true, at_ := n.at_ + s.sched.cur.period } ∧
        t.rd SCHED.SWAP_DEFER_CNT = sat32 (s.rd SCHED.SWAP_DEFER_CNT) (if n.deferred then 0 else 1) ∧ OnlyRegs [SCHED.SWAP_DEFER_CNT] s t)) ∧
      (n.seq ≠ 0 → s.sched.waiting = none → s.sched.stepWaits = false →
        Gives .swapGoGuard s (fun t => t.sched.next = none ∧ t.bit SCHED.EVT 4 = true ∧ ∃ m, t.sched.report = some m ∧ m.code = 0xF0 ∧ m.cmd = 4))) ∧
    (∀ q : Fin 46, s.sched.old ≠ none → s.sched.draining = false → q.val ∉ s.sched.switched →
      Gives (.switchSlot q) s (fun t => t.sched.switched = s.sched.switched ++ [q.val] ∧ t.sched.cur = s.sched.cur ∧ t.sched.old = s.sched.old)) ∧
    (∀ q : Fin 46, s.sched.old = none → exec (.switchSlot q) s = .next s) ∧
    Gives .slotBoundary s (fun t => t = { s with sched := { s.sched with slot := s.sched.slot + 1 } })

/-- A period start sets the slot counter to 0 and ends the overlap of the sets; a swap that is ready takes effect at the first period start
at or after S, counted, its set is the set in force, and OVERLAP lasts for that period; an acquisition step's swap point keeps the set;
while SCHED.CTL holds it, or it is not ready, a local swap is put off by a period (no sample of Almanac waits then, which could ask for a
grade) and a chain swap is missed; with the cores halted it goes on pending. In step 3 of the shutdown a period start stops traffic. -/
def Sys2Proof.PeriodStartTakesTheSwap : Prop :=
  ∀ (s : State), s.sched.cur.period ≠ 0 →
    (s.power.shutStep ≠ 3 ∨ s.power.coresHalted = true → s.sched.next = none →
      Gives .periodStart s (fun t => t.sched.slot = 0 ∧ t.sched.periods = s.sched.periods + 1 ∧ t.sched.cur = s.sched.cur ∧ t.sched.old = none ∧
        t.sched.startCycle = s.now ∧ t.sched.overlap = false ∧ t.sched.periodStart = s.time.dt / s.sched.cur.period * s.sched.cur.period)) ∧
    (s.power.coresHalted = true →
      Gives .periodStart s (fun t => t.sched.slot = 0 ∧ t.sched.cur = s.sched.cur ∧ t.sched.next = s.sched.next ∧ t.sched.overlap = false)) ∧
    (s.power.shutStep = 3 → s.power.coresHalted = false →
      Gives .periodStart s (fun t => t.power.shutStep = if s.power.latched.isSome then 5 else 4)) ∧
    (∀ n : Swap, s.power.shutStep ≠ 3 → s.sched.old = none → s.sched.autoOffDue = false → s.sched.next = some n → n.at_ ≠ 0 → n.at_ ≤ s.time.dt →
        s.power.coresHalted = false →
      (∀ x : TableSet, n.kind ≠ .acquisition → n.set = some x → s.swapReady n = true → s.bit SCHED.CTL 0 = false →
        Gives .periodStart s (fun t => t.sched.slot = 0 ∧ t.sched.cur = x ∧ t.sched.old = some s.sched.cur ∧ t.sched.overlap = true ∧
          t.rd SCHED.SWAP_CNT = sat32 (s.rd SCHED.SWAP_CNT) 1 ∧ t.getF SCHED.CUR 16 16 = (s.getF SCHED.CUR 16 16 + 1) % 65536 ∧
          t.bit SCHED.EVT 0 = true)) ∧
      (n.kind = .acquisition → s.swapReady n = true → s.bit SCHED.CTL 0 = false →
        Gives .periodStart s (fun t => t.sched.slot = 0 ∧ t.sched.cur = s.sched.cur ∧ t.sched.old = some s.sched.cur ∧ t.sched.stepping = true ∧
          t.sched.overlap = true ∧ t.rd SCHED.SWAP_CNT = sat32 (s.rd SCHED.SWAP_CNT) 1 ∧
          t.getF SCHED.CUR 16 16 = (s.getF SCHED.CUR 16 16 + 1) % 65536 ∧ t.bit SCHED.EVT 0 = true)) ∧
      (s.swapReady n = false ∨ s.bit SCHED.CTL 0 = true → s.alm.sampleDue = none →
        (n.seq = 0 →
          Gives .periodStart s (fun t => t.sched.slot = 0 ∧ t.sched.cur = s.sched.cur ∧
            t.sched.next = some { n with at_ := n.at_ + s.sched.cur.period })) ∧
        (n.seq ≠ 0 → s.sched.waiting = none → s.sched.stepWaits = false → s.mode ≠ 2 → s.mode ≠ 3 →
          Gives .periodStart s (fun t => t.sched.slot = 0 ∧ t.sched.cur = s.sched.cur ∧ t.sched.next = none ∧ t.bit SCHED.EVT 4 = true ∧
            ∃ m, t.sched.report = some m ∧ m.cmd = 4 ∧ m.code = if s.bit SCHED.CTL 0 then 0xF1 else 0xF0))))

/-- Swaps are requested, staged, and take effect at a period start. -/
def Obligations.SwapsTakeEffect : Prop := Sys2Proof.SwapsAreRequestedAndStaged ∧ Sys2Proof.PeriodStartTakesTheSwap

/-- Position 0 sends three copies of a PREP, and of a CANCEL when it is not ready in time; a device further down starts a swap at a new
PREP that comes before the guard, at the PREP's S whatever local request it joins, lets it wait behind a swap past its guard, drops further copies, reports one that comes too late, one after a failed main
pass of the image, and one for a scene that lacks a set, the last two with codes of the model's choice (log entry 173), and drops the swap at a CANCEL of its SEQ; a PREP that comes while the early-view set waits for its period start waits behind it; the outcome is
reported to the host. -/
def Obligations.ChainSwap : Prop :=
  ∀ (s : State), s.Shaped →
    (∀ m : ChainMsg, s.sched.chainOut = some m → s.hasPort 1 = true → (s.prt 1).q7.length < 16 →
      (s.sched.prepLeft ≠ 0 →
        Gives .chainPrepSend s (fun t => t.sched.prepLeft + 1 = s.sched.prepLeft ∧
          ∃ f, (t.prt 1).q7 = (s.prt 1).q7 ++ [f] ∧ f.take 6 = List.replicate 6 0xFF ∧ f.drop 22 = m.bytes)) ∧
      (s.sched.cancelLeft ≠ 0 →
        Gives .chainCancelSend s (fun t => t.sched.cancelLeft + 1 = s.sched.cancelLeft ∧
          ∃ f, (t.prt 1).q7 = (s.prt 1).q7 ++ [f] ∧ f.take 6 = List.replicate 6 0xFF ∧ f.drop 22 = ({ m with cmd := 2 } : ChainMsg).bytes))) ∧
    (s.sched.prepLeft = 0 → exec .chainPrepSend s = .next s) ∧ (s.sched.cancelLeft = 0 → exec .chainCancelSend s = .next s) ∧
    (s.sched.report = none → exec .swapReport s = .next s) ∧
    (∀ m : ChainMsg, s.chainHead = some m →
      let Dropped := fun (t : State) => t = { s with mgmt := { s.mgmt with frames := s.mgmt.frames.drop 1 } }
      (m.cmd = 1 → s.position = 0 ∨ s.fwActs = false ∨ s.mode = 7 ∨ s.sched.seenSeq = m.seq + 1 → Gives .chainPrepReceive s Dropped) ∧
      (m.cmd = 2 → s.position = 0 → Gives .chainCancelReceive s Dropped)) ∧
    (∀ m : ChainMsg, s.chainHead = some m → s.position ≠ 0 →
      (m.cmd = 1 → s.fwActs = true → s.mode ≠ 7 → s.sched.seenSeq ≠ m.seq + 1 →
        (s.time.dt + s.getF SCHED.SWAP_CFG 16 8 * 1000000 * 2 ^ 40 ≤ m.swapNs * 2 ^ 40 → (s.bit PWR.MODE 16 = false ∨ 4 ≤ s.mode) →
            (s.bit NVM.STAT 3 = false ∨ s.sceneHeld m.scene = true) →
            (s.sched.next = none ∨ ∃ b, s.sched.next = some b ∧ b.kind ≠ .acquisition ∧ b.kind ≠ .early ∧ s.afterGuard b = false) →
          Gives .chainPrepReceive s (fun t => t.sched.seenSeq = m.seq + 1 ∧ t.mgmt.frames = s.mgmt.frames.drop 1 ∧
            ∃ n, t.sched.next = some n ∧ n.scene = m.scene ∧ n.after = m.swapNs * 2 ^ 40 ∧ n.seq = (if m.seq = 0 then 256 else m.seq) ∧
              n.planId = some m.planId ∧ (4 ≤ s.mode → ∀ b, s.sched.next = some b → n.grade = max b.grade s.alm.grade ∧ n.variant = b.variant))) ∧
        (s.time.dt + s.getF SCHED.SWAP_CFG 16 8 * 1000000 * 2 ^ 40 ≤ m.swapNs * 2 ^ 40 → (s.bit PWR.MODE 16 = false ∨ 4 ≤ s.mode) →
            (s.bit NVM.STAT 3 = false ∨ s.sceneHeld m.scene = true) →
            (∃ b, s.sched.next = some b ∧ (b.kind = .acquisition ∨ s.afterGuard b = true)) →
          Gives .chainPrepReceive s (fun t => t.sched.next = s.sched.next ∧ t.mgmt.frames = s.mgmt.frames.drop 1 ∧
            ∃ w, t.sched.waiting = some w ∧ w.scene = m.scene ∧ w.after = m.swapNs * 2 ^ 40 ∧ w.seq = (if m.seq = 0 then 256 else m.seq))) ∧
        (s.time.dt + s.getF SCHED.SWAP_CFG 16 8 * 1000000 * 2 ^ 40 ≤ m.swapNs * 2 ^ 40 → s.bit PWR.MODE 16 = false → s.bit NVM.STAT 3 = false →
          (s.mode = 2 ∨ s.mode = 3) → (∃ b, s.sched.next = some b ∧ b.kind = .early) →
          Gives .chainPrepReceive s (fun t => t.sched.next = s.sched.next ∧
            ∃ w, t.sched.waiting = some w ∧ w.scene = m.scene ∧ w.after = m.swapNs * 2 ^ 40 ∧ w.seq = (if m.seq = 0 then 256 else m.seq) ∧ w.kind = .boot)) ∧
        (s.time.dt + s.getF SCHED.SWAP_CFG 16 8 * 1000000 * 2 ^ 40 ≤ m.swapNs * 2 ^ 40 →
          (s.mode = 2 ∨ s.mode = 3 → s.bit PWR.MODE 16 = true →
            Gives .chainPrepReceive s (fun t => t.sched.next = s.sched.next ∧ t.bit SCHED.EVT 4 = true ∧
              ∃ r, t.sched.report = some r ∧ r.cmd = 4 ∧ r.code = 0xF0)) ∧
          (4 ≤ s.mode → s.bit NVM.STAT 3 = true → s.sceneHeld m.scene = false →
            Gives .chainPrepReceive s (fun t => t.sched.next = s.sched.next ∧ t.bit SCHED.EVT 4 = true ∧
              ∃ r, t.sched.report = some r ∧ r.cmd = 4 ∧ r.code = 3))) ∧
        (m.swapNs * 2 ^ 40 < s.time.dt + s.getF SCHED.SWAP_CFG 16 8 * 1000000 * 2 ^ 40 →
          Gives .chainPrepReceive s (fun t => t.sched.next = s.sched.next ∧ t.bit SCHED.EVT 4 = true ∧
            ∃ r, t.sched.report = some r ∧ r.cmd = 4 ∧ r.code = 0xF2))) ∧
      (∀ n : Swap, m.cmd = 2 → s.sched.next = some n → s.sched.waiting = none → s.sched.stepWaits = false → n.seq ≠ 0 → n.seq % 256 = m.seq →
        Gives .chainCancelReceive s (fun t => t.sched.next = none ∧ t.mgmt.frames = s.mgmt.frames.drop 1 ∧ t.bit SCHED.EVT 4 = true ∧
          ∃ r, t.sched.report = some r ∧ r.cmd = 4))) ∧
    (∀ (m : ChainMsg) (n : Swap), s.sched.chainOut = some m → s.position = 0 → s.fwActs = true → s.time.dt < m.swapNs * 2 ^ 40 →
      s.sched.next = some n → n.seq ≠ 0 → n.seq % 256 = m.seq →
      (s.swapReady n = false → s.sched.waiting = none → s.sched.stepWaits = false →
        Gives .chainReadinessCheck s (fun t => t.sched.cancelLeft = 3 ∧ t.sched.prepLeft = 0 ∧ t.sched.next = none ∧
          ∃ r, t.sched.report = some r ∧ r.cmd = 4 ∧ r.code = 0xF0)) ∧
      (s.swapReady n = true → exec .chainReadinessCheck s = .next s)) ∧
    (∀ m : ChainMsg, s.sched.report = some m →
      Gives .swapReport s (fun t => t.mgmt.events = s.mgmt.events ++ [(2, m.bytes)] ∧ t.sched.report = none ∧ t.regs = s.regs))

/-! ### The mailbox and events -/

/-- Command `c` has left its queue and has been answered with `status` and `body`: through the device-to-host FIFO, or, for one that
came in a management frame, by a response that is kept (R533, R538, R540, R542). -/
def Sys2Proof.Replied (s : State) (c : MbxCmd) (status : Nat) (body : List Word) (t : State) : Prop :=
  (c.from_ = none → t.mgmt.h2d = s.mgmt.h2d.drop (1 + c.body.length) ∧ t.mgmt.h2dAt = s.mgmt.h2dAt.drop (1 + c.body.length) ∧ t.mgmt.cmds = s.mgmt.cmds ∧
    t.mgmt.reply = some (BitVec.ofNat 32 ((c.cmd ||| 128) * 2 ^ 24 + c.tag * 65536 + status * 4096 + body.length) :: body)) ∧
  (∀ f, c.from_ = some f → t.mgmt.cmds = s.mgmt.cmds.drop 1 ∧ t.mgmt.h2d = s.mgmt.h2d ∧ t.mgmt.reply = s.mgmt.reply ∧
    ∃ resp, t.mgmt.stored = some (f.src, f.seq, resp))

/-- Command `c` has left its queue and its reply with `status` has gone out already, through the device-to-host FIFO or by a response
that is kept (R539: OK is sent before step 1 of R415). -/
def Sys2Proof.RepliedAtOnce (s : State) (c : MbxCmd) (status : Nat) (t : State) : Prop :=
  (c.from_ = none → t.mgmt.h2d = s.mgmt.h2d.drop (1 + c.body.length) ∧ t.mgmt.reply = none ∧
    t.mgmt.d2h = s.mgmt.d2h ++ [BitVec.ofNat 32 ((c.cmd ||| 128) * 2 ^ 24 + c.tag * 65536 + status * 4096)]) ∧
  (∀ f, c.from_ = some f → t.mgmt.cmds = s.mgmt.cmds.drop 1 ∧ t.mgmt.d2h = s.mgmt.d2h ∧ ∃ resp, t.mgmt.stored = some (f.src, f.seq, resp))

/-- The firmware takes command `cmd` next, with its body and its source in `c`. -/
def Sys2Proof.Taking (s : State) (cmd : Nat) (c : MbxCmd) : Prop := s.nextCmd = some c ∧ c.cmd = cmd ∧ s.mbxServes = true

/-- The host-to-device FIFO takes a word while it holds fewer than 1,040, else the word is lost, counted, and no command is taken
until a reset; a pop answers the oldest word, or 0, counted, with EMPTY set; a write of MGMT.CTL keeps its fields and empties both FIFOs
with MBX_RESET; a reply enters the FIFO whole once there is room, and a SHUTDOWN that waited for that begins; with the cores halted no
reply enters it. -/
def Sys2Proof.MailboxFifos : Prop :=
  ∀ s : State, s.domOn 1 = true →
    (∀ v : Word, Served s MGMT.MBX_PUSH → Served s MGMT.CTL →
      (s.mgmt.h2d.length < 1040 → Gives (.mailboxPush v) s (fun t => t.mgmt = { s.mgmt with h2d := s.mgmt.h2d ++ [v], h2dAt := s.mgmt.h2dAt ++ [s.time.dt] } ∧ t.regs = s.regs ∧ Still s t)) ∧
      (1040 ≤ s.mgmt.h2d.length →
        Gives (.mailboxPush v) s (fun t => t.mgmt = s.mgmt ∧ t.rd MGMT.MBX_OVF_CNT = sat32 (s.rd MGMT.MBX_OVF_CNT) 1 ∧ t.bit MGMT.EVT 1 = true ∧
          t.bit MGMT.STAT 2 = true ∧ t.mbxServes = false ∧ OnlyRegs [MGMT.MBX_OVF_CNT, MGMT.EVT, MGMT.STAT] s t ∧ Still s t)) ∧
      Gives (.mailboxReset v) s (fun t =>
        t.rd MGMT.CTL = v.toNat / 256 % 256 * 256 + v.toNat % 4 ∧
        t.mgmt = (if wbit v 2 then { s.mgmt with h2d := [], h2dAt := [], d2h := [] } else s.mgmt) ∧ (wbit v 2 = true → t.bit MGMT.STAT 2 = false) ∧
        OnlyRegs [MGMT.CTL, MGMT.STAT] s t ∧ Still s t)) ∧
    (∀ (w : Word) (rest : List Word), s.mgmt.d2h = w :: rest →
      Gives .mailboxPop s (fun t => t.mgmt.answer.words = [w] ∧ t.mgmt.d2h = rest ∧ t.bit MGMT.MBX_LEVEL 31 = false ∧
        OnlyRegs [MGMT.MBX_LEVEL] s t ∧ Still s t)) ∧
    (s.mgmt.d2h = [] →
      Gives .mailboxPop s (fun t => t.mgmt.answer.words = [0] ∧ t.mgmt.d2h = [] ∧ t.bit MGMT.MBX_LEVEL 31 = true ∧
        t.rd MGMT.MBX_EMPTY_CNT = sat32 (s.rd MGMT.MBX_EMPTY_CNT) 1 ∧ OnlyRegs [MGMT.MBX_LEVEL, MGMT.MBX_EMPTY_CNT] s t ∧ Still s t)) ∧
    (s.power.coresHalted = true → exec .mailboxReplyWrite s = .next s) ∧
    (∀ ws : List Word, s.mgmt.reply = some ws → s.power.coresHalted = false →
      (s.mgmt.d2h.length + ws.length ≤ 256 → s.mgmt.shutAfter = true → s.sched.cur.period ≠ 0 →
        Gives .mailboxReplyWrite s (fun t => t.mgmt.d2h = s.mgmt.d2h ++ ws ∧ t.mgmt.reply = none ∧ t.mgmt.shutAfter = false ∧ t.mode = 7 ∧
          t.getF PWR.MODE 8 4 = 6 ∧ t.power.shutStep = 3)) ∧
      (s.mgmt.d2h.length + ws.length ≤ 256 → s.mgmt.shutAfter = false →
        Gives .mailboxReplyWrite s (fun t => t.mgmt = { s.mgmt with d2h := s.mgmt.d2h ++ ws, reply := none } ∧ t.bit MGMT.EVT 0 = true ∧
          OnlyRegs [MGMT.EVT] s t ∧ Still s t)) ∧
      (256 < s.mgmt.d2h.length + ws.length → Gives .mailboxReplyWrite s (fun t => t = s)))

/-- Command `c` is refused by mode, position or state: status REFUSED, counted and signalled (R395). -/
def Sys2Proof.RefusedByMode (s : State) (c : MbxCmd) (t : State) : Prop :=
  Replied s c 1 [] t ∧ t.mode = s.mode ∧ t.rd PWR.CMD_REF_CNT = sat32 (s.rd PWR.CMD_REF_CNT) 1 ∧ t.bit PWR.MODE_EVT 5 = true

/-- Commands on modes, time and keys: each is answered OK with its effect in the modes that accept it, and refused with status 1,
counted and signalled, in the others; a command that R539 does not list is answered with status 2. SHUTDOWN is answered before it begins,
so that it waits while the FIFO is full; IMG_BEGIN in SHUTDOWN_RECORD counts with the refusals of R390 and of R395. -/
def Sys2Proof.ModeCommands : Prop :=
  ∀ (s : State) (c : MbxCmd),
    (Taking s 0x00 c → Gives .nop s (fun t => Replied s c (if c.body = [] then 0 else 2) [] t)) ∧
    (∀ n, Taking s n c → n ∉ mbxCommands → Gives .mbxInvalidCommand s (fun t => Replied s c 2 [] t)) ∧
    (Taking s 0x40 c → (s.mode = 4 ∨ s.mode = 5) → c.body = [] →
      Gives .maintEnter s (fun t => Replied s c 0 [] t ∧ t.mode = 6 ∧ t.getF PWR.MODE 8 4 = 5 ∧ t.bit PWR.MODE_EVT 0 = true)) ∧
    (Taking s 0x40 c → s.mode ≠ 4 → s.mode ≠ 5 →
      Gives .maintEnter s (RefusedByMode s c)) ∧
    (Taking s 0x41 c → s.mode ≠ 6 → Gives .maintExit s (RefusedByMode s c)) ∧
    (s.imageMode = false ∨ s.fwActs = false →
      (Taking s 0x30 c → Gives .timeSet s (RefusedByMode s c)) ∧ (Taking s 0x20 c → Gives .keyProv s (RefusedByMode s c)) ∧
      (Taking s 0x50 c → Gives .shutdown s (RefusedByMode s c))) ∧
    (s.imageMode = false →
      (Taking s 0x11 c → Gives .imgData s (RefusedByMode s c)) ∧ (Taking s 0x12 c → Gives .imgCommit s (RefusedByMode s c)) ∧
      (Taking s 0x13 c → Gives .imgAbort s (RefusedByMode s c))) ∧
    (Taking s 0x01 c → s.mode ∉ [4, 5, 6] ∨ s.position ≠ 0 → Gives .sceneSelect s (fun t => RefusedByMode s c t ∧ t.sched = s.sched)) ∧
    (Taking s 0x41 c → s.mode = 6 → c.body = [] → s.maintBusy = false →
      Gives .maintExit s (fun t => Replied s c 0 [] t ∧ t.mode = (if s.degraded then 5 else 4) ∧ t.getF PWR.MODE 8 4 = 5)) ∧
    (Taking s 0x41 c → s.mode = 6 → c.body = [] → s.maintBusy = true → Gives .maintExit s (RefusedByMode s c)) ∧
    (Taking s 0x50 c → s.imageMode = true → s.fwActs = true → c.body = [] →
      (c.from_ ≠ none ∨ s.mgmt.d2h.length < 256 →
        (s.sched.cur.period ≠ 0 →
          Gives .shutdown s (fun t => RepliedAtOnce s c 0 t ∧ t.mode = 7 ∧ t.getF PWR.MODE 8 4 = 6 ∧ t.power.shutStep = 3)) ∧
        (s.sched.cur.period = 0 →
          Gives .shutdown s (fun t => RepliedAtOnce s c 0 t ∧ t.power.shutStep = if s.power.latched.isSome then 5 else 4))) ∧
      (c.from_ = none → 256 ≤ s.mgmt.d2h.length →
        Gives .shutdown s (fun t => Replied s c 0 [] t ∧ t.mgmt.shutAfter = true ∧ t.mode = s.mode ∧ t.power = s.power))) ∧
    (Taking s 0x10 c → s.mode = 7 →
      Gives .imgBegin s (fun t => Replied s c 1 [] t ∧ t.nvm = s.nvm ∧ t.rd NVM.WR_REF_CNT = sat32 (s.rd NVM.WR_REF_CNT) 1 ∧ t.bit NVM.EVT 4 = true ∧
        t.rd PWR.CMD_REF_CNT = sat32 (s.rd PWR.CMD_REF_CNT) 1 ∧ t.bit PWR.MODE_EVT 5 = true)) ∧
    (∀ hi lo ns : Word, Taking s 0x30 c → s.imageMode = true → s.fwActs = true → s.time.dtState = .free → c.body = [hi, lo, ns] →
      hi.toNat < 65536 → ns.toNat < 1000000000 →
      Gives .timeSet s (fun t => Replied s c 0 [] t ∧ t.time.dt = s.time.dt ∧
        t.time.stepPend = some (((16 * ((hi.toNat * 2 ^ 32 + lo.toNat) * 1000000000 + ns.toNat) : Nat) : Int) - ((c.at_ / 2 ^ 36 : Nat) : Int)) ∧
        c.at_ = (match c.from_ with | some f => f.at_ | none => nth 0 s.mgmt.h2dAt c.body.length))) ∧
    (Taking s 0x30 c → s.time.dtState ≠ .free → Gives .timeSet s (fun t => RefusedByMode s c t ∧ t.time = s.time)) ∧
    (∀ n : Word, Taking s 0x01 c → s.mode ∈ [4, 5, 6] → s.position = 0 → c.body = [n] → n.toNat < 8 → s.sceneUsable n.toNat = true →
      (s.sched.cur.period = 0 ∨ s.sched.cur.scene ≠ n.toNat) → s.sched.next = none →
      Gives .sceneSelect s (fun t => Replied s c 0 [] t ∧ ∃ sw, t.sched.next = some sw ∧ sw.kind = .scene ∧ sw.scene = n.toNat ∧
        sw.grade = max s.sched.cur.grade s.alm.grade ∧ sw.variant = s.sched.cur.variant ∧ sw.staging = true)) ∧
    (∀ n : Word, Taking s 0x01 c → s.mode ∈ [4, 5, 6] → s.position = 0 → c.body = [n] → n.toNat < 8 →
      (s.sched.cur.period ≠ 0 → s.sched.cur.scene = n.toNat → Gives .sceneSelect s (fun t => Replied s c 0 [] t ∧ t.sched = s.sched)) ∧
      (s.sched.cur.period = 0 ∨ s.sched.cur.scene ≠ n.toNat → s.sceneUsable n.toNat = true → s.sched.next.isSome = true →
        Gives .sceneSelect s (fun t => Replied s c 0 [] t ∧ ∃ sw, (t.sched.next = some sw ∨ t.sched.waiting = some sw) ∧ sw.scene = n.toNat))) ∧
    (∀ w0 pn : Word, ∀ key : List Word, Taking s 0x20 c → s.imageMode = true → s.fwActs = true → s.scanActive = false → c.body = w0 :: pn :: key →
      key.length = 8 → s.bit ETH.MS_CTL 1 = true →
      (w0.toNat / 2 ^ 24 = 2 → s.position = 0 →
        Gives .keyProv s (fun t => Replied s c 0 [] t ∧ t.bit BIST.STAT 5 = false ∧
          Map.get none t.eth.ms.rxKeys (w0.toNat % 4) = some (key.flatMap (fun x => beBytes 4 x.toNat)) ∧
          Map.get 0 t.eth.ms.rxNext (w0.toNat % 4) = pn.toNat)) ∧
      (w0.toNat / 2 ^ 24 = 1 → s.position = 0 → s.eth.ms.txKeys = [] →
        Gives .keyProv s (fun t => Replied s c 0 [] t ∧ t.bit BIST.STAT 5 = false ∧ t.eth.ms.txAn = w0.toNat % 4 ∧ t.eth.ms.next = none ∧
          t.eth.ms.pn = pn.toNat - 1 ∧ Map.get none t.eth.ms.txKeys (w0.toNat % 4) = some (key.flatMap (fun x => beBytes 4 x.toNat)))) ∧
      (w0.toNat / 2 ^ 24 = 3 →
        Gives .keyProv s (fun t => Replied s c 0 [] t ∧ t.nvm.decryptKey = some (key.flatMap (fun x => beBytes 4 x.toNat)) ∧
          t.bit BIST.STAT 5 = false ∧ t.eth.ms = s.eth.ms ∧
          ∃ j ∈ t.nvm.ops, j.op = .journal (.key (Config.keyWrap s.nvm.deviceKey (key.flatMap (fun x => beBytes 4 x.toNat)))))) ∧
      (w0.toNat / 2 ^ 24 = 2 → s.position ≠ 0 → Gives .keyProv s (fun t => Replied s c 1 [] t ∧ t.eth.ms = s.eth.ms)))

/-- Command `c` is answered INVALID and does nothing else (R539). -/
def Sys2Proof.RepliedInvalid (s : State) (c : MbxCmd) (t : State) : Prop :=
  Replied s c 2 [] t ∧ (c.from_ = none → t.regs = s.regs) ∧ t.sched = s.sched ∧ t.time = s.time ∧ t.eth.ms = s.eth.ms ∧ t.nvm = s.nvm ∧ t.power = s.power

/-- In the modes that accept it, a command whose body R539 does not allow is answered INVALID, with no other effect: another number of
words, a scene that does not exist or that the image does not hold whole, a time out of range, and keys of an unknown kind; while an
internal scan chain is enabled no key is taken, and no image data, commit or abort without a session. -/
def Sys2Proof.InvalidBodies : Prop :=
  ∀ (s : State) (c : MbxCmd), s.imageMode = true → s.fwActs = true →
    (Taking s 0x01 c → s.mode ∈ [4, 5, 6] → s.position = 0 →
      (c.body.length ≠ 1 → Gives .sceneSelect s (RepliedInvalid s c)) ∧
      (∀ n : Word, c.body = [n] → 8 ≤ n.toNat → Gives .sceneSelect s (RepliedInvalid s c)) ∧
      (∀ n : Word, c.body = [n] → n.toNat < 8 → s.sched.cur.period = 0 ∨ s.sched.cur.scene ≠ n.toNat → s.sceneUsable n.toNat = false →
        Gives .sceneSelect s (RepliedInvalid s c))) ∧
    (Taking s 0x30 c → s.time.dtState = .free →
      (c.body.length ≠ 3 → Gives .timeSet s (RepliedInvalid s c)) ∧
      (∀ hi lo ns : Word, c.body = [hi, lo, ns] → 65536 ≤ hi.toNat ∨ 1000000000 ≤ ns.toNat → Gives .timeSet s (RepliedInvalid s c))) ∧
    (Taking s 0x20 c →
      (s.scanActive = true → Gives .keyProv s (fun t => Replied s c 1 [] t ∧ t.eth.ms = s.eth.ms ∧ t.nvm = s.nvm)) ∧
      (s.scanActive = false → (nth 0 c.body 0).toNat / 2 ^ 24 ∉ [1, 2, 3] ∨ (c.body.length ≠ 10 ∧ s.position = 0) → Gives .keyProv s (RepliedInvalid s c))) ∧
    (Taking s 0x40 c → (s.mode = 4 ∨ s.mode = 5) → c.body ≠ [] → Gives .maintEnter s (RepliedInvalid s c)) ∧
    (Taking s 0x41 c → s.mode = 6 → c.body ≠ [] → Gives .maintExit s (RepliedInvalid s c)) ∧
    (Taking s 0x50 c → c.body ≠ [] → Gives .shutdown s (RepliedInvalid s c)) ∧
    (Taking s 0x10 c → s.nvm.bank.isSome = true → c.body.length ≠ 1 → Gives .imgBegin s (RepliedInvalid s c)) ∧
    (Taking s 0x11 c → (c.body.length < 2 ∨ 1025 < c.body.length) → Gives .imgData s (RepliedInvalid s c)) ∧
    (Taking s 0x12 c → c.body ≠ [] → Gives .imgCommit s (RepliedInvalid s c)) ∧
    (Taking s 0x13 c → c.body ≠ [] → Gives .imgAbort s (RepliedInvalid s c)) ∧
    (s.nvm.session = none →
      let Refused := fun (t : State) => Replied s c 1 [] t ∧ t.nvm = s.nvm ∧ t.rd NVM.WR_REF_CNT = sat32 (s.rd NVM.WR_REF_CNT) 1 ∧ t.bit NVM.EVT 4 = true
      (Taking s 0x11 c → 2 ≤ c.body.length → c.body.length ≤ 1025 → Gives .imgData s Refused) ∧
      (Taking s 0x12 c → c.body = [] → Gives .imgCommit s Refused))

/-- The image-write operations: BEGIN opens the session on the bank that does not run; DATA at the next offset queues its program;
COMMIT of a whole image is begun, once; ABORT ends the session, and leaves of what is queued only what marks the bank WRITING; one out of order or of
another length is refused and counted, and a block of fewer than 256 bytes that is not the last, or one that goes beyond the image, is invalid. -/
def Sys2Proof.ImageCommands : Prop :=
  ∀ (s : State) (c : MbxCmd), s.imageMode = true →
    (∀ (b : Nat) (len : Word), Taking s 0x10 c → s.nvm.bank = some b → c.body = [len] → len.toNat ≤ 50331648 →
      (s.nvm.session = none →
        Gives .imgBegin s (fun t => Replied s c 0 [BitVec.ofNat 32 (1 - b)] t ∧ t.nvm.session = some { bank := 1 - b, len := len.toNat } ∧
          t.bit NVM.WR_STAT 31 = true ∧ t.getF NVM.WR_STAT 0 26 = 0)) ∧
      (s.nvm.session.isSome = true →
        Gives .imgBegin s (fun t => Replied s c 3 [] t ∧ t.nvm = s.nvm ∧ t.rd NVM.WR_REF_CNT = sat32 (s.rd NVM.WR_REF_CNT) 1 ∧ t.bit NVM.EVT 4 = true))) ∧
    (∀ (w : WriteSession) (ofs : Word) (ws : List Word), Taking s 0x11 c → s.nvm.session = some w → c.body = ofs :: ws → 1 ≤ ws.length → ws.length ≤ 1024 →
      (w.commit = false → ofs.toNat = w.next → ws.length % 64 = 0 → w.next + 4 * ws.length ≤ w.len →
        Gives .imgData s (fun t => Replied s c 0 [] t ∧ t.nvm.session = some { w with next := w.next + 4 * ws.length } ∧
          ∃ j ∈ t.nvm.ops, j.op = .program (bankAddr w.bank + w.next) (ws.flatMap (fun x => beBytes 4 x.toNat)))) ∧
      (w.commit = false → ofs.toNat = w.next → w.len ≤ w.next + 4 * ws.length → w.next + 4 * ws.length < w.len + 4 →
        Gives .imgData s (fun t => Replied s c 0 [] t ∧ t.nvm.session = some { w with next := w.len } ∧
          ∃ j ∈ t.nvm.ops, j.op = .program (bankAddr w.bank + w.next) ((ws.flatMap (fun x => beBytes 4 x.toNat)).take (w.len - w.next)))) ∧
      (ws.length < 64 → (ofs.toNat + 4 * ws.length < w.len ∨ w.len + 4 ≤ ofs.toNat + 4 * ws.length) →
        Gives .imgData s (fun t => Replied s c 2 [] t ∧ t.nvm = s.nvm)) ∧
      (w.commit = false → ofs.toNat = w.next → ws.length % 64 = 0 → w.len + 4 ≤ w.next + 4 * ws.length →
        Gives .imgData s (fun t => Replied s c 2 [] t ∧ t.nvm = s.nvm)) ∧
      (ofs.toNat ≠ w.next ∨ w.commit = true ∨ (ws.length % 64 ≠ 0 ∧ w.next + 4 * ws.length < w.len) →
        (64 ≤ ws.length ∨ (w.len ≤ ofs.toNat + 4 * ws.length ∧ ofs.toNat + 4 * ws.length < w.len + 4)) →
        Gives .imgData s (fun t => Replied s c 1 [] t ∧ t.nvm = s.nvm ∧ t.rd NVM.WR_REF_CNT = sat32 (s.rd NVM.WR_REF_CNT) 1 ∧ t.bit NVM.EVT 4 = true))) ∧
    (∀ w : WriteSession, Taking s 0x12 c → s.nvm.session = some w → c.body = [] → w.commit = true →
      Gives .imgCommit s (fun t => Replied s c 3 [] t ∧ t.nvm = s.nvm)) ∧
    (∀ w : WriteSession, Taking s 0x12 c → s.nvm.session = some w → c.body = [] → w.commit = false →
      (w.len ≤ w.next → Gives .imgCommit s (fun t => Replied s c 0 [] t ∧ t.nvm = { s.nvm with session := some { w with commit := true } })) ∧
      (w.next < w.len → Gives .imgCommit s (fun t => Replied s c 1 [] t ∧ t.nvm = s.nvm))) ∧
    (Taking s 0x13 c → c.body = [] →
      (s.nvm.session.isSome = true →
        Gives .imgAbort s (fun t => Replied s c 0 [] t ∧ t.nvm.session = none ∧ t.bit NVM.WR_STAT 31 = false ∧ t.getF NVM.WR_STAT 28 3 = 3 ∧
          ∀ j, j ∈ t.nvm.ops → j.op.isImage = true → j.op.opensBank = true)) ∧
      (s.nvm.session = none → Gives .imgAbort s (fun t => Replied s c 1 [] t ∧ t.nvm = s.nvm)))

/-- The commands of the mailbox. -/
def Obligations.MailboxCommands : Prop := Sys2Proof.ModeCommands ∧ Sys2Proof.InvalidBodies ∧ Sys2Proof.ImageCommands

/-- An event report goes out as one frame for the host, if its address is set; an IRQ event starts its hold-off, within which a change
is kept, and the end of the hold-off sends it or ends the hold-off. -/
def Sys2Proof.EventReports : Prop :=
  ∀ s : State,
    (∀ (code : Nat) (data : List Byte) (rest : List (Nat × List Byte)), s.mgmt.events = (code, data) :: rest →
      (s.getF MGMT.HOST_ADDR_HI 0 16 = 0 → s.rd MGMT.HOST_ADDR_LO = 0 →
        Gives (.eventReport false) s (fun t => t.mgmt = { s.mgmt with events := rest } ∧ t.eth = s.eth ∧ t.regs = s.regs)) ∧
      (s.Shaped → s.rd MGMT.HOST_ADDR_LO ≠ 0 → (s.prt 0).q7.length < 16 →
        Gives (.eventReport false) s (fun t => t.mgmt = { s.mgmt with events := rest } ∧ t.regs = s.regs ∧ t.free = s.free + 1 ∧
          ∃ f, (t.prt 0).q7 = (s.prt 0).q7 ++ [f] ∧ slice f 0 6 = beBytes 6 (s.getF MGMT.HOST_ADDR_HI 0 16 * 2 ^ 32 + s.rd MGMT.HOST_ADDR_LO)))) ∧
    (s.bit MGMT.CTL 0 = true → s.irqLow = true → s.mgmt.irqHold = false →
      Gives (.eventReport true) s (fun t => t.mgmt.irqHold = true ∧ t.mgmt.irqPend = false)) ∧
    (s.bit MGMT.CTL 0 = true → s.irqLow = true → s.mgmt.irqHold = true →
      Gives (.eventReport true) s (fun t => t.mgmt = { s.mgmt with irqPend := true } ∧ t.eth = s.eth ∧ t.regs = s.regs)) ∧
    (s.mgmt.irqPend = false → Gives .irqEventHoldoffEnd s (fun t => t.mgmt = { s.mgmt with irqHold := false, irqPend := false } ∧ t.eth = s.eth ∧ t.regs = s.regs)) ∧
    (s.mgmt.irqPend = true → s.irqLow = true → s.bit MGMT.CTL 0 = true →
      Gives .irqEventHoldoffEnd s (fun t => t.mgmt.irqHold = true ∧ t.mgmt.irqPend = false))

/-- The FIFOs of the mailbox, and the reports of events. -/
def Obligations.MailboxAndEvents : Prop := Sys2Proof.MailboxFifos ∧ Sys2Proof.EventReports

/-! ### The SPI target and management requests -/

/-- The SPI target: a read answers the words of the addresses in order, or of one address over and over; written words are posted, at
most four of them, and performed in order; a word that finds no room or is cut off, a reserved command and a word that is not ready in
time are counted; a bus error ends a read with its own token, counted, and is the status of a write; an exclusive read takes the semaphore
that an exclusive write needs, which fails without it; a target that does not serve reads 0. Before each
word a read drives from 1 to 255 wait bytes and a token, and the status byte is driven over and over. The command byte selects the
command. That a word not ready in time is the last read's next one is the model's choice (log entry 216). -/
def Obligations.SpiTransactions : Prop :=
  (∀ (addr : Word) (n : Nat) (v : Word), let a := beBytes 4 addr.toNat
    spiCommand (0x02#8 :: a ++ beBytes 4 v.toNat) n = some (.spiWrite addr [(0, v)] false) ∧
    spiCommand (0x03#8 :: a) n = some (.spiRead addr n) ∧ spiCommand [0x05#8] n = some .spiStatus ∧
    spiCommand (0x0A#8 :: a ++ beBytes 4 v.toNat) n = some (.spiWriteFixed addr [(0, v)] false) ∧
    spiCommand (0x0B#8 :: a) n = some (.spiReadFixed addr n) ∧
    spiCommand (0x12#8 :: a ++ beBytes 4 v.toNat) n = some (.spiExclWrite addr (some v)) ∧
    spiCommand (0x13#8 :: a) n = some (.spiExclRead addr) ∧
    ∀ (c : Byte) (bs : List Byte), c.toNat ∉ [0x02, 0x03, 0x05, 0x0A, 0x0B, 0x12, 0x13] →
      spiCommand (c :: bs) n = some .spiReservedCommand) ∧
  ∀ (s : State) (e : Nat × Nat) (addr : Word), e ∈ blockEvents → addr.toNat = e.2 → Served s e.2 →
    (s.spiServes = true →
      Gives (.spiRead addr 1) s (fun t => t.mgmt.answer = { status := 0, words := [BitVec.ofNat 32 (s.rd e.2)] } ∧ t.regs = s.regs ∧
        t.power.hostAt = s.now ∧ t.mgmt.posted = s.mgmt.posted ∧ t.mgmt.spi.reads = true ∧ t.mgmt.spi.fill = 0 ∧
        ∃ k, 1 ≤ k ∧ k ≤ 255 ∧ t.mgmt.spi.miso = List.replicate k 0 ++ [0xA5#8] ++ beBytes 4 (s.rd e.2)) ∧
      (∀ n, Gives (.spiReadFixed addr n) s (fun t => t.mgmt.answer = { status := 0, words := List.replicate n (BitVec.ofNat 32 (s.rd e.2)) } ∧ t.regs = s.regs)) ∧
      (∀ v : Word, s.mgmt.posted.length < 4 →
        Gives (.spiWrite addr [(0, v)] false) s (fun t => t.mgmt.posted = s.mgmt.posted ++ [{ addr := e.2, value := v }] ∧ t.regs = s.regs ∧ Still s t) ∧
        Gives (.spiExclWrite addr (some v)) s (fun t => t.mgmt.posted = s.mgmt.posted ++ [{ addr := e.2, value := v, exclusive := true }] ∧ t.regs = s.regs)) ∧
      (∀ v w : Word, s.mgmt.posted = [] →
        Gives (.spiWriteFixed addr [(0, v), (1, w)] true) s (fun t => t.mgmt.posted = [{ addr := e.2, value := w }] ∧ t.mgmt.spiLast = 0 ∧
          t.bit MGMT.EVT 2 = true ∧
          (∀ i, i < 32 → t.bit e.2 i = if (writable e.2).testBit i then wbit v i else s.bit e.2 i))) ∧
      (∀ v : Word, s.mgmt.posted.length = 4 →
        Gives (.spiWrite addr [(0, v)] false) s (fun t => t.mgmt.posted = s.mgmt.posted ∧ t.rd MGMT.SPI_ERR_CNT = sat32 (s.rd MGMT.SPI_ERR_CNT) 1 ∧
          t.bit MGMT.EVT 2 = true ∧ OnlyRegs [MGMT.SPI_ERR_CNT, MGMT.EVT] s t)) ∧
      (∀ (v : Word) (rest : List PostedWrite), s.mgmt.posted = { addr := e.2, value := v } :: rest →
        Gives .postedWriteDone s (fun t => t.mgmt.posted = rest ∧ t.mgmt.spiLast = 0 ∧
          (∀ i, i < 32 → t.bit e.2 i = if (writable e.2).testBit i then wbit v i else s.bit e.2 i) ∧ OnlyRegs [e.2] s t)) ∧
      Gives .spiStatus s (fun t => t.mgmt.answer.words = [BitVec.ofNat 32 (128 + (if s.mgmt.posted = [] then 0 else 8) + s.mgmt.spiLast)] ∧
        t.mgmt.spi.miso = [BitVec.ofNat 8 (128 + (if s.mgmt.posted = [] then 0 else 8) + s.mgmt.spiLast)] ∧
        t.mgmt.spi.fill = BitVec.ofNat 8 (128 + (if s.mgmt.posted = [] then 0 else 8) + s.mgmt.spiLast) ∧ t.regs = s.regs) ∧
      (Map.get none s.dma.sems (semOf e.2) = none →
        Gives (.spiExclRead addr) s (fun t => t.mgmt.answer = { status := 0, words := [BitVec.ofNat 32 (s.rd e.2)] } ∧
          Map.get none t.dma.sems (semOf e.2) = some (.spi, e.2) ∧ t.mgmt.spiLast = 0 ∧ t.regs = s.regs ∧
          ∃ k, 1 ≤ k ∧ k ≤ 255 ∧ t.mgmt.spi.miso = List.replicate k 0 ++ [0xA5#8] ++ beBytes 4 (s.rd e.2))) ∧
      Gives .spiReservedCommand s (fun t => t.rd MGMT.SPI_ERR_CNT = sat32 (s.rd MGMT.SPI_ERR_CNT) 1 ∧ t.bit MGMT.EVT 2 = true ∧
        OnlyRegs [MGMT.SPI_ERR_CNT, MGMT.EVT] s t ∧ Still s t) ∧
      Gives .spiReadTimeout s (fun t => t.mgmt.answer = { status := 4, words := t.mgmt.spi.words } ∧
        t.mgmt.spi.fill = 0xFF#8 ∧
        (∀ ws : List Word, ∀ out : List Byte, s.mgmt.spi = { reads := true, words := ws, miso := out } →
          t.mgmt.spi.words = ws ∧ t.mgmt.spi.miso = out ++ List.replicate 255 0 ++ [0x5A#8, 0, 0, 0, 4]) ∧
        (s.mgmt.spi.reads = false → t.mgmt.spi.words = [] ∧ t.mgmt.spi.miso = List.replicate 255 0 ++ [0x5A#8, 0, 0, 0, 4]) ∧ t.rd MGMT.SPI_ERR_CNT = sat32 (s.rd MGMT.SPI_ERR_CNT) 1 ∧
        OnlyRegs [MGMT.SPI_ERR_CNT, MGMT.EVT] s t ∧ Still s t)) ∧
    (s.spiServes = true → s.domOn 1 = true →
      (∀ a n, a % 4 = 0 → a + 4 * n ≤ 0x40000 →
        Gives (.spiRead (BitVec.ofNat 32 a) n) s (fun t =>
          t.mgmt.answer = { status := 0, words := (upto n).map (fun i => BitVec.ofNat 32 (Memory.readWord s.dma.ram (a + 4 * i))) } ∧ t.regs = s.regs ∧ t.dma = s.dma)) ∧
      (∀ (x : Word) (n : Nat), busMapped (x.toNat / 4 * 4) = false →
        let Failed := fun (t : State) => t.mgmt.answer = { status := 5, words := [] } ∧ t.rd MGMT.SPI_ERR_CNT = sat32 (s.rd MGMT.SPI_ERR_CNT) 1 ∧
          t.bit MGMT.EVT 2 = true ∧ OnlyRegs [MGMT.SPI_ERR_CNT, MGMT.EVT] s t ∧ t.mgmt.spi.fill = 0xFF ∧
          ∃ k, 1 ≤ k ∧ k ≤ 255 ∧ t.mgmt.spi.miso = List.replicate k 0 ++ [0x5A#8, 0, 0, 0, 5]
        Gives (.spiRead x (n + 1)) s Failed ∧ Gives (.spiReadFixed x (n + 1)) s Failed ∧ Gives (.spiExclRead x) s (fun t => Failed t ∧ t.mgmt.spiLast = 5)) ∧
      (s.mgmt.posted = [] → Gives .postedWriteDone s (fun t => t = s)) ∧
      (∀ w rest, s.mgmt.posted = w :: rest → w.exclusive = false → busMapped (w.addr / 4 * 4) = false →
        Gives .postedWriteDone s (fun t => t.mgmt = { s.mgmt with posted := rest, spiLast := 5 } ∧ t.regs = s.regs)) ∧
      (∀ (v : Word) (rest : List PostedWrite), s.mgmt.posted = { addr := e.2, value := v, exclusive := true } :: rest →
        (Map.get none s.dma.sems (semOf e.2) = some (.spi, e.2) →
          Gives .postedWriteDone s (fun t => t.mgmt.posted = rest ∧ t.mgmt.spiLast = 0 ∧ Map.get none t.dma.sems (semOf e.2) = none ∧
            (∀ i, i < 32 → t.bit e.2 i = if (writable e.2).testBit i then wbit v i else s.bit e.2 i) ∧ OnlyRegs [e.2] s t)) ∧
        (Map.get none s.dma.sems (semOf e.2) ≠ some (.spi, e.2) →
          Gives .postedWriteDone s (fun t => t.mgmt = { s.mgmt with posted := rest, spiLast := 6 } ∧ t.rd BRG.EXFAIL_CNT = sat32 (s.rd BRG.EXFAIL_CNT) 1 ∧
            t.bit BRG.EVT 1 = true ∧ OnlyRegs [BRG.EXFAIL_CNT, BRG.EVT] s t)))) ∧
    (s.spiServes = false →
      (∀ n, Gives (.spiRead addr n) s (fun t => t.mgmt.answer = { status := 0, words := List.replicate n 0 } ∧ t.regs = s.regs)) ∧
      (∀ ws cut, Gives (.spiWrite addr ws cut) s (fun t => t.mgmt.posted = s.mgmt.posted ∧ t.regs = s.regs)))

/-- The oldest management frame is a new valid request `r` with operation `op`, to a running device with LEARN off. -/
def Sys2Proof.NewRequest (s : State) (op : Nat) (r : MgmtReq) : Prop :=
  s.mgmtHead = some r ∧ r.valid = true ∧ r.op = op ∧ s.power.phase = .running ∧ s.bit MGMT.CTL 1 = false ∧ s.storedFor r = none ∧
    ∀ c, c ∈ s.mgmt.cmds → ¬(c.src = r.src ∧ c.seq = r.seq)

/-- A management request is executed once: READ answers the words, WRITE performs them and answers how many, a bus error ends either with
its status; with LEARN the host's address follows; MBX queues its command or,
with four queued, is answered BUSY; the response is kept, and a repeated request is answered from it without a second execution; a
request that is not valid is answered INVALID and counted, an EVENT or CHAIN frame to this device alone is discarded; a broadcast that is no
CHAIN frame is discarded and counted. That a broadcast CHAIN frame which is no chain swap message of R367 is discarded without a count is
the model's choice (log entry 217). -/
def Obligations.ManagementRequests : Prop :=
  ∀ (s : State) (r : MgmtReq),
    (∀ e : Nat × Nat, e ∈ blockEvents → Served s e.2 → r.addr = e.2 →
      (NewRequest s 1 r → r.count = 1 →
        Gives .mfRead s (fun t => t.mgmt.frames = s.mgmt.frames.drop 1 ∧ t.rd e.2 = s.rd e.2 ∧
          t.mgmt.stored = some (r.src, r.seq, s.mgmtFrame (be r.src) 129 r.seq 0 s.position (beBytes 4 (s.rd e.2))))) ∧
      (∀ v : Word, NewRequest s 2 r → r.words 8 = [v] →
        Gives .mfWrite s (fun t => t.mgmt.frames = s.mgmt.frames.drop 1 ∧
          t.mgmt.stored = some (r.src, r.seq, s.mgmtFrame (be r.src) 130 r.seq 0 s.position (beBytes 2 1)) ∧
          (∀ i, i < 32 → t.bit e.2 i = if (writable e.2).testBit i then wbit v i else s.bit e.2 i)))) ∧
    (s.domOn 1 = true → r.fixed = false →
      (NewRequest s 1 r → r.addr + 4 * r.count ≤ 0x40000 →
        Gives .mfRead s (fun t => t.mgmt.frames = s.mgmt.frames.drop 1 ∧ t.dma = s.dma ∧
          t.mgmt.stored = some (r.src, r.seq, s.mgmtFrame (be r.src) 129 r.seq 0 s.position
            ((upto r.count).flatMap (fun i => beBytes 4 (Memory.readWord s.dma.ram (r.addr + 4 * i) % 2 ^ 32)))))) ∧
      (NewRequest s 2 r → s.dma.codeEnd ≤ r.addr → r.addr + 4 * (r.words 8).length ≤ 0x40000 →
        Gives .mfWrite s (fun t => t.mgmt.frames = s.mgmt.frames.drop 1 ∧
          t.mgmt.stored = some (r.src, r.seq, s.mgmtFrame (be r.src) 130 r.seq 0 s.position (beBytes 2 (r.words 8).length)) ∧
          (∀ i, i < (r.words 8).length → Memory.readWord t.dma.ram (r.addr + 4 * i) = (nth 0 (r.words 8) i).toNat) ∧
          ∀ x, (x < r.addr ∨ r.addr + 4 * (r.words 8).length ≤ x) → Memory.readByte t.dma.ram x = Memory.readByte s.dma.ram x)) ∧
      (busMapped r.addr = false →
        (NewRequest s 1 r → r.count ≠ 0 →
          Gives .mfRead s (fun t => t.mgmt.stored = some (r.src, r.seq, s.mgmtFrame (be r.src) 129 r.seq 5 s.position []))) ∧
        (NewRequest s 2 r → r.words 8 ≠ [] →
          Gives .mfWrite s (fun t => t.mgmt.stored = some (r.src, r.seq, s.mgmtFrame (be r.src) 130 r.seq 5 s.position (beBytes 2 0)))))) ∧
    (s.mgmtHead = some r → r.valid = true → r.op = 3 → s.power.phase = .running → s.bit MGMT.CTL 1 = true → s.storedFor r = none → s.mgmt.cmds = [] → r.src.length = 6 →
      Gives .mfMbx s (fun t => t.getF MGMT.HOST_ADDR_HI 0 16 * 2 ^ 32 + t.rd MGMT.HOST_ADDR_LO = be r.src ∧ t.mgmt.cmds.length = 1 ∧
        OnlyRegs [MGMT.HOST_ADDR_HI, MGMT.HOST_ADDR_LO] s t)) ∧
    (NewRequest s 3 r →
      (s.mgmt.cmds.length < 4 →
        Gives .mfMbx s (fun t => t.mgmt = { s.mgmt with frames := s.mgmt.frames.drop 1, cmds := s.mgmt.cmds ++ [{ words := r.words 0, src := r.src, seq := r.seq, at_ := s.time.dt }] } ∧
          t.eth = s.eth ∧ t.regs = s.regs)) ∧
      (4 ≤ s.mgmt.cmds.length →
        Gives .mfMbx s (fun t => t.mgmt = { s.mgmt with frames := s.mgmt.frames.drop 1 }))) ∧
    (∀ resp, s.mgmtHead = some r → r.valid = true → s.power.phase = .running → s.bit MGMT.CTL 1 = false → s.storedFor r = some resp →
      (r.op = 1 → Gives .mfRead s (fun t => t.rd MGMT.MF_DUP_CNT = sat32 (s.rd MGMT.MF_DUP_CNT) 1 ∧ t.mgmt = { s.mgmt with frames := s.mgmt.frames.drop 1 })) ∧
      (r.op = 2 → Gives .mfWrite s (fun t => t.rd MGMT.MF_DUP_CNT = sat32 (s.rd MGMT.MF_DUP_CNT) 1 ∧ t.mgmt = { s.mgmt with frames := s.mgmt.frames.drop 1 })) ∧
      (r.op = 3 → Gives .mfMbx s (fun t => t.rd MGMT.MF_DUP_CNT = sat32 (s.rd MGMT.MF_DUP_CNT) 1 ∧ t.mgmt = { s.mgmt with frames := s.mgmt.frames.drop 1 }))) ∧
    (s.mgmtHead = some r → r.valid = false → r.broadcast = false → s.power.phase = .running →
      (r.op ≠ 4 → r.op ≠ 5 →
        Gives .mfInvalidRequest s (fun t => t.rd MGMT.MF_ERR_CNT = sat32 (s.rd MGMT.MF_ERR_CNT) 1 ∧ t.bit MGMT.EVT 3 = true ∧
          t.mgmt = { s.mgmt with frames := s.mgmt.frames.drop 1 })) ∧
      ((r.op = 4 ∨ r.op = 5) →
        Gives .mfInvalidRequest s (fun t => t.mgmt = { s.mgmt with frames := s.mgmt.frames.drop 1 } ∧ t.regs = s.regs ∧ t.eth = s.eth))) ∧
    (s.mgmtHead = some r → r.broadcast = true → s.power.phase = .running →
      (r.op ≠ 5 → Gives .mfInvalidRequest s (fun t => t.mgmt = { s.mgmt with frames := s.mgmt.frames.drop 1 } ∧ t.eth = s.eth ∧
        t.rd MGMT.MF_ERR_CNT = sat32 (s.rd MGMT.MF_ERR_CNT) 1 ∧ t.bit MGMT.EVT 3 = true)) ∧
      (r.op = 5 → (∀ m, s.chainHead = some m → m.cmd ≠ 1 ∧ m.cmd ≠ 2) →
        Gives .mfInvalidRequest s (fun t => t.mgmt = { s.mgmt with frames := s.mgmt.frames.drop 1 } ∧ t.regs = s.regs ∧ t.eth = s.eth)))

/-! ### The service DMA and the bridge -/

/-- The other channels are as they were. -/
def Sys2Proof.OtherChans (c : Nat) (s t : State) : Prop := ∀ d, d ≠ c → t.chan d = s.chan d

/-- The words of the descriptor at control-RAM address `a` (R422). -/
def Sys2Proof.descriptorAt (s : State) (a : Nat) : List Nat := (upto 5).map (fun i => Memory.readWord s.dma.ram (a + 4 * i))

/-- Channel `x` moves 32-bit elements, aligned, to control RAM above the protected code, with both addresses rising (R422, R426). -/
def Sys2Proof.ToRam (s : State) (x : Channel) : Prop :=
  x.esize = 4 ∧ x.flag 26 = false ∧ x.flag 27 = false ∧ x.dst % 4 = 0 ∧ x.len % 4 = 0 ∧ x.done % 4 = 0 ∧ x.done ≤ x.len ∧ x.item = none ∧
    s.dma.codeEnd ≤ x.dst ∧ x.dst < 0x40000 ∧ x.dst + x.len ≤ 0x40000

/-- The bytes of the next burst of channel `x` (R425). -/
def Sys2Proof.burstSize (x : Channel) : Nat := min x.burst (x.len - x.done)

/-- Channel `c`'s burst has been granted and none of its accesses made, and no other channel's accesses come before them (R425, R438). -/
def Sys2Proof.BurstBegun (s : State) (c : Nat) : Prop :=
  (s.chan c).phase = .burst ∧ (s.chan c).code = 0 ∧ (s.chan c).abort = false ∧ (s.chan c).flash = false ∧
    (s.chan c).todo = (s.chan c).program (burstSize (s.chan c)) ∧ (s.dma.order.head? = some c ∨ c ∉ s.dma.order)

/-- What a fill has buffered for `n` bytes (R427). -/
def Sys2Proof.fillBuf (x : Channel) (n : Nat) : List Byte := (List.replicate (n / 4) (leBytes 4 x.src)).flatten

/-- What channel `c` is after a burst that left it with `done` bytes (R425, R432). -/
def Sys2Proof.BurstEnds (s : State) (c : Fin 32) (done : Nat) (t : State) : Prop :=
  (t.chan c).phase = (if done = (s.chan c).len then .drain else .wait) ∧ (t.chan c).code = (if done = (s.chan c).len then 1 else 0) ∧
    (t.chan c).done = done ∧ OtherChans c s t ∧
    (s.bit (DMA.CH_CTL c) 5 = true → (s.chan c).halfRaised = false → (s.chan c).len / 2 ≤ done → t.bit (DMA.CH_EVT c) 0 = true) ∧
    OnlyRegs [DMA.CH_EVT c] s t ∧ t.cfs = s.cfs

/-- A channel: GO on an idle one starts the fetch of its descriptor, a host's write to a locked one is refused; ABORT ends a waiting
descriptor at once and others at the end of what they do; a fetched descriptor waits for its bursts, or ends with the code of the rule it
breaks; a granted burst has its accesses to make, and has moved its bytes when it is done; a domain power-down leaves those written by
then; the last burst ends the descriptor, whose status is written back and whose event line may pulse, and the chain goes on at NEXT. -/
def Obligations.DmaChannels : Prop :=
  ∀ (s : State) (c : Fin 32), s.domOn 1 = true →
    (∀ (m : Master) (v : Word), s.bit (DMA.CH_CTL c) 8 = false ∨ m = .core ∨ m = .dma →
      (wbit v 0 = true → wbit v 1 = false → (s.chan c).phase = .idle →
        Gives (.dmaGo c m v) s (fun t => t.chan c = { phase := .fetch, cur := s.rd (DMA.CH_DESC c) / 32 * 32 % 0x40000 } ∧ OtherChans c s t ∧
          OnlyRegs [DMA.CH_CTL c] s t ∧ Still s t ∧ t.dma.ram = s.dma.ram ∧ t.cfs = s.cfs)) ∧
      (wbit v 0 = true → (s.chan c).phase ≠ .idle ∨ wbit v 1 = true →
        Gives (.dmaGo c m v) s (fun t => t.dma.chans = s.dma.chans ∧ t.rd DMA.REFUSED_CNT = sat32 (s.rd DMA.REFUSED_CNT) 1 ∧ t.bit DMA.EVT 0 = true ∧
          OnlyRegs [DMA.REFUSED_CNT, DMA.EVT] s t)) ∧
      (wbit v 0 = false → wbit v 1 = true →
        ((s.chan c).phase = .wait → (s.chan c).srcQ = none →
          Gives (.dmaAbort c m v) s (fun t => (t.chan c).phase = .drain ∧ (t.chan c).code = 5 ∧ (t.chan c).done = (s.chan c).done ∧ OtherChans c s t)) ∧
        (((s.chan c).phase = .fetch ∨ (s.chan c).phase = .burst) →
          Gives (.dmaAbort c m v) s (fun t => t.chan c = { s.chan c with abort := true } ∧ OtherChans c s t)) ∧
        ((s.chan c).phase = .idle → Gives (.dmaAbort c m v) s (fun t => t.dma.chans = s.dma.chans)))) ∧
    (∀ (m : Master) (v : Word), s.bit (DMA.CH_CTL c) 8 = true → (m = .spi ∨ m = .frame) →
      Gives (.dmaGo c m v) s (fun t => t.dma.chans = s.dma.chans ∧ t.rd DMA.REFUSED_CNT = sat32 (s.rd DMA.REFUSED_CNT) 1 ∧ t.bit DMA.EVT 0 = true ∧
        OnlyRegs [DMA.REFUSED_CNT, DMA.EVT] s t)) ∧
    ((s.chan c).phase = .fetch → (s.chan c).abort = false → (s.chan c).words = (descriptorAt s (s.chan c).cur).take (s.chan c).fetched →
        (∀ d, s.dom d ≠ .falling) →
      (({ words := descriptorAt s (s.chan c).cur } : Channel).programError = none →
        Gives (.descriptorFetchDone c) s (fun t => t.chan c = { phase := .wait, cur := (s.chan c).cur, words := descriptorAt s (s.chan c).cur } ∧
          OtherChans c s t ∧ t.regs = s.regs ∧ Still s t)) ∧
      (∀ code, ({ words := descriptorAt s (s.chan c).cur } : Channel).programError = some code →
        Gives (.descriptorFetchDone c) s (fun t => (t.chan c).phase = .drain ∧ (t.chan c).code = code ∧ (t.chan c).done = 0 ∧ OtherChans c s t ∧
          t.rd DMA.PROG_ERR_CNT = sat32 (s.rd DMA.PROG_ERR_CNT) 1 ∧ t.bit DMA.EVT 1 = true ∧ t.bit (DMA.CH_EVT c) 3 = true))) ∧
    (s.arbiter = some c.val → ToRam s (s.chan c) → (s.chan c).code = 0 → (s.chan c).done < (s.chan c).len →
      (s.chan c).mode = 1 ∨ ((s.chan c).mode = 0 ∧ (s.chan c).src < 0x40000) →
      Gives (.dmaBurstGrant {}) s (fun t =>
        t.chan c = { s.chan c with phase := .burst, todo := (s.chan c).program (burstSize (s.chan c)), buf2 := [], err := {}, flash := false,
                                   buf := if (s.chan c).mode = 1 then fillBuf (s.chan c) (burstSize (s.chan c)) else [] } ∧
          t.dma.order = s.dma.order ++ [c.val] ∧ OtherChans c s t ∧ t.regs = s.regs ∧ t.dma.ram = s.dma.ram ∧ t.cfs = s.cfs)) ∧
    (BurstBegun s c → ToRam s (s.chan c) →
      ((s.chan c).mode = 1 → (s.chan c).buf = fillBuf (s.chan c) (burstSize (s.chan c)) →
        Gives (.dmaBurstDone c) s (fun t =>
          let n := burstSize (s.chan c)
          let a := (s.chan c).dst + (s.chan c).done
          BurstEnds s c ((s.chan c).done + n) t ∧
            (∀ i, 4 * i < n → Memory.readWord t.dma.ram (a + 4 * i) = (s.chan c).src % 2 ^ 32) ∧
            ∀ x, (x < a ∨ a + n ≤ x) → Memory.readByte t.dma.ram x = Memory.readByte s.dma.ram x)) ∧
      ((s.chan c).mode = 0 → (s.chan c).buf = [] → (s.chan c).src % 4 = 0 → (s.chan c).src + (s.chan c).len ≤ 0x40000 → (s.chan c).src < 0x40000 →
        (s.chan c).src + (s.chan c).len ≤ (s.chan c).dst ∨ (s.chan c).dst + (s.chan c).len ≤ (s.chan c).src →
        Gives (.dmaBurstDone c) s (fun t =>
          let n := burstSize (s.chan c)
          let a := (s.chan c).dst + (s.chan c).done
          BurstEnds s c ((s.chan c).done + n) t ∧
            (∀ i, i < n → Memory.readByte t.dma.ram (a + i) = Memory.readByte s.dma.ram ((s.chan c).src + (s.chan c).done + i)) ∧
            ∀ x, (x < a ∨ a + n ≤ x) → Memory.readByte t.dma.ram x = Memory.readByte s.dma.ram x))) ∧
    ((s.chan c).phase = .burst → (s.chan c).code = 0 → (s.chan c).abort = false → (s.chan c).flash = false → (s.chan c).todo = [] →
      (s.chan c).srcQ = none → s.dma.order.head? = some c.val ∨ c.val ∉ s.dma.order →
      Gives (.dmaBurstDone c) s (fun t =>
        let x := s.chan c
        (t.chan c).phase = (if x.done = x.total then .drain else .wait) ∧ (t.chan c).code = (if x.done = x.total then 1 else 0) ∧
          (t.chan c).done = x.done ∧ OtherChans c s t ∧ t.dma.ram = s.dma.ram ∧ t.cfs = s.cfs ∧
          (s.bit (DMA.CH_CTL c) 5 = true → x.halfRaised = false → x.len / 2 ≤ x.done → t.bit (DMA.CH_EVT c) 0 = true) ∧
          OnlyRegs [DMA.CH_EVT c] s t)) ∧
    ((s.chan c).phase = .burst → (s.chan c).abort = true → (s.chan c).code = 6 → ToRam s (s.chan c) → (s.chan c).mode = 1 →
      (s.chan c).todo = (s.chan c).program (burstSize (s.chan c)) → (s.chan c).buf = fillBuf (s.chan c) (burstSize (s.chan c)) →
      ∀ confirmed, Gives (.dmaDomainOffTimeout c confirmed) s (fun t =>
        let x := s.chan c
        let n := max x.done (min (x.done + burstSize x) (confirmed / 4 * 4))
        (t.chan c).phase = .drain ∧ (t.chan c).code = 6 ∧ (t.chan c).done = n ∧ OtherChans c s t ∧
          (∀ y, (y < x.dst + x.done ∨ x.dst + n ≤ y) → Memory.readByte t.dma.ram y = Memory.readByte s.dma.ram y) ∧
          (∀ i, x.done + 4 * i < n → Memory.readWord t.dma.ram (x.dst + x.done + 4 * i) = x.src % 2 ^ 32) ∧
          t.rd DMA.DOMAIN_OFF_CNT = sat32 (s.rd DMA.DOMAIN_OFF_CNT) 1 ∧ t.bit DMA.EVT 3 = true)) ∧
    ((s.chan c).phase = .drain → (s.chan c).wrote = 0 → s.dma.codeEnd ≤ (s.chan c).cur → (s.chan c).cur % 32 = 0 → (s.chan c).cur < 0x40000 →
      Gives (.descriptorComplete c) s (fun t =>
        Memory.readWord t.dma.ram ((s.chan c).cur + 20) = (s.chan c).status % 2 ^ 32 ∧
        Memory.readWord t.dma.ram ((s.chan c).cur + 24) = (s.chan c).mismatchWord % 2 ^ 32 ∧
        Memory.readWord t.dma.ram ((s.chan c).cur + 28) = (s.chan c).aux % 2 ^ 32 ∧
        (∀ x, (x < (s.chan c).cur + 20 ∨ (s.chan c).cur + 32 ≤ x) → Memory.readByte t.dma.ram x = Memory.readByte s.dma.ram x) ∧
        t.getF (DMA.CH_STAT c) 28 4 = (s.chan c).code % 16 ∧ t.rd (DMA.CH_RESIDUE c) = (s.chan c).len - (s.chan c).done ∧ OtherChans c s t ∧
        (((s.chan c).code = 1 ∨ (s.chan c).code = 4) → (s.chan c).flag 15 = false → (s.chan c).abort = false →
          t.chan c = { phase := .fetch, cur := nth 0 (s.chan c).words 4 }) ∧
        (((s.chan c).code ≠ 1 ∧ (s.chan c).code ≠ 4) ∨ (s.chan c).flag 15 = true ∨ (s.chan c).abort = true → t.chan c = { cur := (s.chan c).cur }) ∧
        ((s.chan c).code = 1 → (s.bit (DMA.CH_CTL c) 6 = true → t.bit (DMA.CH_EVT c) 1 = true) ∧
          (s.bit (DMA.CH_CTL c) 7 = true → ∀ j, j < 8 → s.bit (PRES.FRZ_CFG j) 31 = true → s.getF (PRES.FRZ_CFG j) 0 5 = c → j ∈ t.pres.compared)) ∧
        ((s.chan c).code = 5 → t.rd DMA.ABORT_CNT = sat32 (s.rd DMA.ABORT_CNT) 1))) ∧
    (∀ (m : Master) (v : Word), Gives (.dmaSwRequest m v) s (fun t => t.dmaReq = s.dmaReq ||| (v.toNat % 65536) ∧ t.regs = s.regs ∧
      t.dma.chans = s.dma.chans ∧ Still s t))

/-- The bridge: an exclusive read takes a free semaphore, an exclusive write is performed and gives it back only for its holder with its
address, and fails with status 6, counted, for others; a semaphore not written in time or released by a core is free again; an aperture
access that meets a busy port is given a retry, and its repeat is served. -/
def Obligations.BridgeAndSemaphores : Prop :=
  ∀ s : State, s.domOn 1 = true →
    (∀ (e : Nat × Nat) (core : Bool) (addr v : Word), e ∈ blockEvents → addr.toNat = e.2 → Served s e.2 →
      (Map.get none s.dma.sems (semOf e.2) = none →
        Gives (.exclusiveRead core addr) s (fun t => t.mgmt.answer = { status := 0, words := [BitVec.ofNat 32 (s.rd e.2)] } ∧
          Map.get none t.dma.sems (semOf e.2) = some (if core then .core else .spi, e.2) ∧ t.regs = s.regs)) ∧
      (Map.get none s.dma.sems (semOf e.2) = some (if core then .core else .spi, e.2) →
        Gives (.exclusiveWrite core addr v) s (fun t => t.mgmt.answer = { status := 0, words := [] } ∧ Map.get none t.dma.sems (semOf e.2) = none ∧
          (∀ i, i < 32 → t.bit e.2 i = if (writable e.2).testBit i then wbit v i else s.bit e.2 i) ∧ OnlyRegs [e.2] s t)) ∧
      (Map.get none s.dma.sems (semOf e.2) ≠ some (if core then .core else .spi, e.2) →
        Gives (.exclusiveWrite core addr v) s (fun t => t.mgmt.answer = { status := 6, words := [] } ∧ t.dma = s.dma ∧
          t.rd BRG.EXFAIL_CNT = sat32 (s.rd BRG.EXFAIL_CNT) 1 ∧ t.bit BRG.EVT 1 = true ∧ OnlyRegs [BRG.EXFAIL_CNT, BRG.EVT] s t))) ∧
    (∀ i : Fin 16,
      (Map.get none s.dma.sems i.val ≠ none →
        Gives (.semaphoreTimeout i) s (fun t => Map.get none t.dma.sems i.val = none ∧ (∀ j, j ≠ i.val → Map.get none t.dma.sems j = Map.get none s.dma.sems j) ∧
          t.rd BRG.SEM_TO_CNT = sat32 (s.rd BRG.SEM_TO_CNT) 1 ∧ t.bit BRG.EVT 2 = true ∧ OnlyRegs [BRG.SEM_TO_CNT, BRG.EVT] s t)) ∧
      (Map.get none s.dma.sems i.val = none → Gives (.semaphoreTimeout i) s (fun t => t = s)) ∧
      (∀ (m : Master) (v : Word),
        Gives (.semaphoreRelease m v) s (fun t => t.regs = s.regs ∧ (m = .core → wbit v i = true → Map.get none t.dma.sems i.val = none) ∧
          (m ≠ .core ∨ wbit v i = false → i.val ≠ semOf BRG.SEM_REL → Map.get none t.dma.sems i.val = Map.get none s.dma.sems i.val)))) ∧
    (∀ x : C2dAccess, 0x20000000 ≤ x.addr → x.addr < 0x23000000 → x.master ≠ .dma → x ∉ s.dma.retries →
      Gives (.bridgeRetryTimeout x) s (fun t => t.dma.retries = s.dma.retries ++ [x] ∧ t.rd BRG.RETRY_CNT = sat32 (s.rd BRG.RETRY_CNT) 1 ∧
        t.bit BRG.EVT 0 = true ∧ OnlyRegs [BRG.RETRY_CNT, BRG.EVT] s t ∧ t.cfs = s.cfs)) ∧
    (∀ (x : C2dAccess) (rest : List C2dAccess), s.dma.retries = x :: rest → s.domOn 2 = true → 0x20000000 ≤ x.addr → x.addr < 0x23000000 →
      (x.write = none → Calm s →
        Gives .bridgeAccessRepeat s (fun t => t.dma.retries = rest ∧ t.cfs = s.cfs ∧
          t.mgmt.answer = { status := 0, words := [BitVec.ofNat 32 (Memory.readWord s.cfs.mem ((x.addr - 0x20000000) / 4 * 4))] })) ∧
      (∀ v, x.write = some v → s.mode = 2 ∨ s.mode = 6 →
        Gives .bridgeAccessRepeat s (fun t => t.dma.retries = rest ∧ t.mgmt.answer = { status := 0, words := [] } ∧
          (∀ i, i < 4 → Memory.readByte t.cfs.mem ((x.addr - 0x20000000) / 4 * 4 + i) = BitVec.ofNat 8 (v.toNat / 256 ^ i)) ∧
          ∀ y, (y < (x.addr - 0x20000000) / 4 * 4 ∨ (x.addr - 0x20000000) / 4 * 4 + 4 ≤ y) →
            Memory.readByte t.cfs.mem y = Memory.readByte s.cfs.mem y)))

/-! ### Self-test and ageing -/

/-- The verdict of a logic test on what the image expects: 3 INCOMPLETE, 2 FAIL, 1 PASS (R446, R447, R462). -/
def Sys2Proof.verdictOf (e : TestExpect) (t : UnitTest) (r : LogicResult) : Nat :=
  if r.count.val < e.count ∨ t.supply = true then 3 else if r.sig = e.sig then 1 else 2

/-- The verdict of a macro's march test of `steps` steps a word (R446, R452, R453): 3 INCOMPLETE, 1 PASS, 2 FAIL with more faults than
spares or a re-run that finds one, 4 PASS after repair. The steps of a word, 20 and with the retention elements 24, are the
model's choice (log entry 203). -/
def Sys2Proof.macroVerdictOf (s : State) (steps : Nat) (x : MacroTest) : Nat :=
  if x.count < steps * x.words then 3
  else if x.rows = [] ∧ x.cols = [] then 1
  else if (s.spares x.id).1 < x.rows.length ∨ (s.spares x.id).2 < x.cols.length ∨ x.rerun = false then 2 else 4

/-- The verdict of a memory test from those of its macros (R446, R447, R453). -/
def Sys2Proof.memoryVerdictOf (s : State) (t : UnitTest) (xs : List MacroTest) : Nat :=
  let vs := xs.map (macroVerdictOf s 20)
  if t.supply = true ∨ 3 ∈ vs then 3 else if 2 ∈ vs then 2 else if 4 ∈ vs then 4 else 1

/-- The spares that the macros of a memory test take into use (R453). -/
def Sys2Proof.repairsOf (s : State) (steps : Nat) (xs : List MacroTest) : Nat :=
  ((xs.filter (fun x => macroVerdictOf s steps x != 3)).map (fun x => min (s.spares x.id).1 x.rows.length + min (s.spares x.id).2 x.cols.length)).sum

/-- RUN in MAINTENANCE puts a unit out of service under test, and is refused and counted otherwise; an abort ends it as INCOMPLETE, and a
phase of key-on too (the model's choice, log entry 205); a memory test comes before the logic test and takes spares into use;
zeroisation clears every key before a logic test begins, or before the test port enables an internal scan chain and blocks the device
key, is tried twice, and a second failure blocks the logic tests and the scan; a test that ends
leaves its verdict in UNIT_RES and its mark on the unit; at key-off the pairs follow one another until step 5. -/
def Obligations.SelfTests : Prop :=
  ∀ s : State,
    (∀ v : Word, Served s BIST.RUN → wbit v 8 = true → wbit v 9 = false →
      (s.mode = 6 → s.bist.testing = [] → s.bit BIST.STAT 3 = false → v.toNat % 32 < 26 → (wbit v 7 = true ∨ wbit v 6 = true) → s.unitOut (v.toNat % 32) = true →
        Gives (.bistRun v) s (fun t =>
          t.bist.testing = [{ unit := v.toNat % 32, logic := wbit v 7, mem := wbit v 6, supply := s.warning }] ∧ t.getF BIST.STAT 0 4 = 12 ∧
          t.bist.waiting.isSome = !wbit v 6 ∧ t.power.testDoms = s.power.testDoms ++ [unitDomain (v.toNat % 32)] ∧
          (v.toNat % 32 < 8 → (t.cl (v.toNat % 32)).svc = 4) ∧ OnlyRegs [BIST.RUN, BIST.STAT] s t ∧ Still s t)) ∧
      ((s.mode ≠ 6 ∨ s.bist.testing ≠ [] ∨ 26 ≤ v.toNat % 32 ∨ s.unitOut (v.toNat % 32) = false ∨ (wbit v 7 = false ∧ wbit v 6 = false)) →
        Gives (.bistRun v) s (fun t => t.bist = s.bist ∧ t.rd BIST.REFUSED_CNT = sat32 (s.rd BIST.REFUSED_CNT) 1 ∧ t.bit BIST.EVT 6 = true ∧
          OnlyRegs [BIST.RUN, BIST.REFUSED_CNT, BIST.EVT] s t))) ∧
    (∀ v : Word, Served s BIST.RUN → wbit v 8 = false → wbit v 9 = true →
      (∀ t, s.bist.testing = [t] → t.unit < 26 → s.power.shutStep ≠ 4 → s.getF BIST.STAT 0 3 = 4 →
        Gives (.bistAbort v) s (fun u => u.bist.testing = [] ∧ u.bist.waiting = none ∧ u.bit (BIST.UNIT_RES t.unit) 9 = true ∧
          (t.logic = true → u.getF (BIST.UNIT_RES t.unit) 0 3 = if s.noLogic t.unit then 0 else 3) ∧ (t.mem = true → u.getF (BIST.UNIT_RES t.unit) 4 3 = 3) ∧
          (∀ m, t.mem = false → t.memV = some m → m < 8 → u.getF (BIST.UNIT_RES t.unit) 4 3 = m) ∧
          u.rd BIST.INCOMPLETE_CNT = sat32 (s.rd BIST.INCOMPLETE_CNT) (b2n (t.logic && !s.noLogic t.unit) + b2n t.mem) ∧ u.getF BIST.STAT 0 4 = 0)) ∧
      (s.bist.testing = [] → s.getF BIST.STAT 0 3 ≠ 1 → s.getF BIST.STAT 0 3 ≠ 2 →
        Gives (.bistAbort v) s (fun u => u.bist = s.bist ∧ OnlyRegs [BIST.RUN] s u)) ∧
      (s.bist.testing = [] → s.fwActs = false → s.getF BIST.STAT 0 3 = 1 ∨ s.getF BIST.STAT 0 3 = 2 →
        Gives (.bistAbort v) s (fun u => u.rd BIST.INCOMPLETE_CNT = sat32 (s.rd BIST.INCOMPLETE_CNT) 1 ∧ u.bit BIST.EVT 4 = true ∧
          (s.getF BIST.STAT 0 3 = 1 → u.getF BIST.STAT 0 3 = 2 ∧ u.bist.anaDone = true) ∧
          (s.getF BIST.STAT 0 3 = 2 → u.getF BIST.STAT 0 4 = 0 ∧ u.bist.memDone = true)))) ∧
    (∀ t, s.bist.waiting = some t → s.bist.testing = [t] → s.power.shutStep = 0 →
      (s.bit BIST.STAT 6 = false →
        Gives (.zeroiseDone { ok := true }) s (fun u => u.eth.ms.txKeys = [] ∧ u.eth.ms.rxKeys = [] ∧ u.nvm.decryptKey = none ∧ u.bit BIST.STAT 5 = true ∧
          u.bist.waiting = none ∧ u.bist.testing = [{ t with at_ := some s.now }] ∧ OnlyRegs [BIST.STAT] s u)) ∧
      (s.bist.zeroFailed = false →
        Gives (.zeroiseDone { ok := false }) s (fun u => u.eth.ms.txKeys = [] ∧ u.eth.ms.rxKeys = [] ∧ u.nvm.decryptKey = none ∧ u.bist = { s.bist with zeroFailed := true } ∧
          u.regs = s.regs)) ∧
      (s.bist.zeroFailed = true → t.unit < 26 →
        Gives (.zeroiseDone { ok := false }) s (fun u => u.eth.ms.txKeys = [] ∧ u.eth.ms.rxKeys = [] ∧ u.bit BIST.STAT 6 = true ∧
          u.rd BIST.ZERO_FAIL_CNT = sat32 (s.rd BIST.ZERO_FAIL_CNT) 1 ∧ u.bit BIST.EVT 5 = true ∧ u.bist.waiting = none ∧ u.bist.testing = [] ∧
          u.getF (BIST.UNIT_RES t.unit) 0 3 = 0 ∧ u.rd (BIST.UNIT_COUNT t.unit) = 0 ∧ u.getF BIST.STAT 0 4 = 0))) ∧
    (s.power.shutStep = 4 → s.bist.testing = [] → s.bit BIST.STAT 6 = false →
      Gives (.zeroiseDone { ok := true }) s (fun u => u.eth.ms.txKeys = [] ∧ u.nvm.decryptKey = none ∧
        u.bist.testing = (s.keyoffOrder.take 2).map (fun x => { unit := x, logic := true, mem := false, supply := s.warning, at_ := some s.now }) ∧
        u.bist.order = s.keyoffOrder.drop 2)) ∧
    (s.power.phase = .running → s.bit BIST.STAT 6 = false →
      (∀ ok, Gives (.zeroiseDone { port := true, ok := ok }) s (fun u => u.eth.ms.txKeys = [] ∧ u.eth.ms.rxKeys = [] ∧ u.nvm.decryptKey = none ∧ u.nvm.deviceKey = s.nvm.deviceKey ∧
        (ok = true → u.scanActive = true ∧ u.bist.keyBlocked = true ∧ u.bit BIST.STAT 5 = true ∧ OnlyRegs [BIST.STAT] s u) ∧
        (ok = false → s.bist.zeroFailed = false → u.bist = { s.bist with zeroFailed := true } ∧ u.regs = s.regs) ∧
        (ok = false → s.bist.zeroFailed = true → u.bist = { s.bist with zeroFailed := false } ∧ u.bit BIST.STAT 6 = true ∧
          u.rd BIST.ZERO_FAIL_CNT = sat32 (s.rd BIST.ZERO_FAIL_CNT) 1 ∧ u.bit BIST.EVT 5 = true)))) ∧
    (s.bit BIST.STAT 6 = true → ∀ ok, exec (.zeroiseDone { port := true, ok := ok }) s = .next s) ∧
    (∀ (t : UnitTest) (r : LogicResult) (m : UnitMem), s.bist.testing = [t] → s.bist.waiting = none → s.power.shutStep = 0 → t.unit < 26 →
      (∀ e, s.testExpect t.unit = some e → t.logic = true → t.mem = false → s.bit BIST.STAT 6 = false →
        Gives (.unitTestDone r m) s (fun u => u.getF (BIST.UNIT_RES t.unit) 0 3 = verdictOf e t r ∧ u.rd (BIST.UNIT_COUNT t.unit) = r.count.val ∧
          u.rd (BIST.UNIT_SIG_LO t.unit) = r.sig.toNat % 2 ^ 32 ∧ u.rd (BIST.UNIT_SIG_HI t.unit) = r.sig.toNat / 2 ^ 32 ∧
          u.bist.testing = [] ∧ u.getF BIST.STAT 0 4 = 0 ∧ u.bit BIST.EVT 2 = true ∧
          u.rd BIST.FAIL_CNT = sat32 (s.rd BIST.FAIL_CNT) (if verdictOf e t r = 2 then 1 else 0) ∧
          (∀ v, t.memV = some v → v < 8 → u.getF (BIST.UNIT_RES t.unit) 4 3 = v) ∧
          (verdictOf e t r = 1 → (Map.get {} u.alm.units t.unit).oos = false ∧ (Map.get {} u.alm.units t.unit).suspect = false) ∧
          (verdictOf e t r = 2 → (Map.get {} u.alm.units t.unit).oos = ((Map.get {} s.alm.units t.unit).oos || !(Map.get {} s.alm.units t.unit).suspect)))) ∧
      (t.mem = true →
        Gives (.unitTestDone r m) s (fun u =>
          (t.logic = false → u.getF (BIST.UNIT_RES t.unit) 4 3 = memoryVerdictOf s t m.macros ∧ u.bist.testing = [] ∧ u.getF BIST.STAT 0 4 = 0) ∧
          (t.logic = true → u.bist.testing = [{ t with mem := false, memV := some (memoryVerdictOf s t m.macros) }] ∧
            u.bist.waiting = some { t with mem := false, memV := some (memoryVerdictOf s t m.macros) }) ∧
          u.rd BIST.REPAIR_CNT = sat32 (s.rd BIST.REPAIR_CNT) (repairsOf s 20 m.macros) ∧
          u.rd BIST.FAIL_CNT = sat32 (s.rd BIST.FAIL_CNT) (if memoryVerdictOf s t m.macros = 2 then 1 else 0) ∧
          (∀ x, m.macros = [x] → macroVerdictOf s 20 x = 4 → (x.id, x.rows, x.cols) ∈ u.bist.repair)))) ∧
    (∀ (t1 t2 : UnitTest) (r1 r2 : LogicResult) (e1 e2 : TestExpect), s.power.shutStep = 4 → s.bist.testing = [t1, t2] → t1.unit < 26 → t2.unit < 26 →
      t1.unit ≠ t2.unit → s.bit BIST.STAT 6 = false → s.testExpect t1.unit = some e1 → s.testExpect t2.unit = some e2 →
      Gives (.logicTestPairDone [r1, r2]) s (fun u =>
        u.getF (BIST.UNIT_RES t1.unit) 0 3 = verdictOf e1 t1 r1 ∧ u.getF (BIST.UNIT_RES t2.unit) 0 3 = verdictOf e2 t2 r2 ∧
        (s.bist.order = [] → u.power.shutStep = 5 ∧ u.bist.testing = [] ∧ ∃ j ∈ u.nvm.ops, j.op = .journal .keyoff) ∧
        (s.bist.order ≠ [] → u.power.shutStep = 4 ∧ u.bist.order = s.bist.order.drop 2 ∧
          u.bist.testing = (s.bist.order.take 2).map (fun x => { unit := x, logic := true, mem := false, supply := s.warning, at_ := some s.now })))) ∧
    (s.power.firmware = true → Gives .keyWaitTimeout s (fun t => t.nvm = { s.nvm with keyWaitOver := true } ∧ t.regs = s.regs ∧ Still s t))

/-- The register of monitor `i` after a reading: delay and measured slack, 0 for one that takes no part (R468, R469). -/
def Sys2Proof.monitorWord (s : State) (r : AlmReading) (i : Nat) : Nat :=
  if s.monTaken i then 65536 * (nth 0 r.delays i % 65536) + tc 16 ((s.monPeriod i : Int) - nth 0 r.delays i) else 0

/-- Nothing of the boot sequence waits any more (R402). -/
def Sys2Proof.AfterBoot (s : State) : Prop :=
  s.power.step6 = true ∧ s.power.step7 = true ∧ s.power.asked = true ∧ s.bist.keyonDue = false

/-- A voltage step of 5 mV up has been started (R472, R473). -/
def Sys2Proof.RaiseBegun (s t : State) : Prop := t.alm.step = some { up := true, rail := s.getF ALM.AVS_CFG 28 4, mv := s.setMv + 5 }

/-- The worst slack of the last reading is below SLACK_MIN, and the setpoint has a step left below the ceiling (R475). -/
def Sys2Proof.ShortOfSlack (s t : State) : Prop := t.alm.worst < 40 * s.getF ALM.SLACK_MIN 0 8 ∧ s.setMv + 5 ≤ s.ceilMv

/-- A sample reads every monitor, and a worst slack below SLACK_MIN raises the voltage by a step below the ceiling; in the first period
after a swap point it waits. A step goes from its command over the acknowledgement to the settled setpoint, 5 mV on; a command that fails
twice stops the steps. The calendar is set by software; a record due each hour waits for the flash; a sounding that ends is kept, as the
baseline where the link has none. -/
def Obligations.AgeingAndCalendar : Prop :=
  ∀ s : State,
    (∀ r : AlmReading, s.fwActs = true →
      (s.sched.cur.period ≠ 0 → s.sched.overlap = false →
        Gives (.almSample r) s (fun t => t.bit ALM.EVT 0 = true ∧ (∀ i, i < 48 → t.rd (ALM.MON i) = monitorWord s r i) ∧
          (s.getF ALM.SLACK_CFG 8 8 = 0 → ∀ i, i < 48 → s.monTaken i = true → t.alm.worst ≤ 40 * ((s.monPeriod i : Int) - nth 0 r.delays i)) ∧
          (ShortOfSlack s t → s.stepFree = true → s.alm.due = none →
            (s.stepHeld = false → RaiseBegun s t) ∧ (s.stepHeld = true → t.alm.due = some true ∧ t.alm.step = none)))) ∧
      (s.sched.cur.period ≠ 0 → s.sched.overlap = true →
        Gives (.almSample r) s (fun t => t.alm = { s.alm with sampleDue := some r } ∧ t.regs = s.regs)) ∧
      (s.alm.climb ≠ 0 → s.alm.step = none →
        Gives (.avsRemeasure r) s (fun t => (∀ i, i < 48 → t.rd (ALM.MON i) = monitorWord s r i) ∧ t.alm.tempBins = s.alm.tempBins ∧
          (¬ t.alm.worst < 40 * s.getF ALM.SLACK_MIN 0 8 → t.alm.climb = 0 ∧ t.alm.step = none) ∧
          (ShortOfSlack s t → s.stepFree = true → s.stepHeld = false → s.alm.climb < 30 → RaiseBegun s t)))) ∧
    (∀ x, s.alm.step = some x → s.coresRun = true →
      Gives .avsAck s (fun t => t.alm = { s.alm with step := some { x with phase := .settle } } ∧ t.regs = s.regs ∧ Still s t) ∧
      (x.phase = .settle → x.mv < 1024 → s.alm.restoring = false → s.alm.target = none → AfterBoot s →
        Gives .avsSettleDone s (fun t =>
          t.rd ALM.AVS_STAT = x.mv ∧ t.rd PWR.AVS_SHADOW = x.mv ∧ (x.up = true → t.getF PWR.SUP_SET 0 10 = x.mv) ∧
          t.rd ALM.AVS_UP_CNT = sat32 (s.rd ALM.AVS_UP_CNT) (b2n x.up) ∧ t.rd ALM.AVS_DOWN_CNT = sat32 (s.rd ALM.AVS_DOWN_CNT) (b2n (!x.up)) ∧
          t.bit ALM.EVT 1 = true ∧ t.alm.step = none)) ∧
      (x.phase = .ack → x.failed = 0 →
        Gives .avsAckTimeout s (fun t => t.alm.step = some { x with failed := 1 } ∧ t.rd ALM.AVS_ERR_CNT = sat32 (s.rd ALM.AVS_ERR_CNT) 1 ∧
          t.bit ALM.EVT 6 = true ∧ OnlyRegs [ALM.AVS_ERR_CNT, ALM.EVT] s t)) ∧
      (x.phase = .ack → x.failed ≠ 0 → AfterBoot s →
        Gives .avsAckTimeout s (fun t => t.alm.step = none ∧ t.bit ALM.STAT 2 = true ∧ t.rd ALM.AVS_ERR_CNT = sat32 (s.rd ALM.AVS_ERR_CNT) 1 ∧
          t.bit PWR.FAULT_STAT 4 = true ∧ t.setMv = s.setMv ∧ t.stepFree = false))) ∧
    (∀ v : Word, Served s PWR.RTC_CTL →
      let sec := s.getF PWR.RTC_SET_HI 0 8 * 2 ^ 32 + s.rd PWR.RTC_SET_LO
      let alarm := s.getF PWR.RTC_ALARM_HI 0 8 * 2 ^ 32 + s.rd PWR.RTC_ALARM_LO
      (wbit v 0 = true → s.bit PWR.WAKE_CFG 2 = false →
        Gives (.rtcSet v) s (fun t => t.rtcSec = s.rtcSec ∧ (∀ m, m * 32768 / 1000000000 = s.aonCycle + 1 → ({ t with now := m } : State).rtcSec = sec) ∧
          t.bit PWR.RTC_STAT 0 = true ∧ t.getF PWR.RTC_STAT 4 2 = 1 ∧ t.bit ALM.EVT 10 = true ∧
          t.bit PWR.RTC_CTL 1 = (wbit v 1 && decide (sec < alarm)) ∧ OnlyRegs [PWR.RTC_CTL, PWR.RTC_STAT, ALM.EVT] s t)) ∧
      (wbit v 0 = true → wbit v 1 = true → alarm ≤ sec → s.bit PWR.WAKE_CFG 2 = true → s.power.phase = .running → s.mode = 7 → s.power.latched = none →
        s.wokeNow = false →
        Gives (.rtcSet v) s (fun t => t.power.latched = some 3 ∧ t.bit PWR.RTC_CTL 1 = false ∧ t.rd PWR.SHUT_ABORT_CNT = sat32 (s.rd PWR.SHUT_ABORT_CNT) 1)) ∧
      (wbit v 0 = false → Gives (.rtcSet v) s (fun t => t.bit PWR.RTC_CTL 1 = wbit v 1 ∧ OnlyRegs [PWR.RTC_CTL] s t ∧ t.alm = s.alm))) ∧
    (s.fwActs = true → s.mode ≠ 7 →
      Gives .hourlyRecordDue s (fun t => (∃ j ∈ t.nvm.ops, j.op = .journal .hourly) ∧ (∀ n, n < 16 → Map.get 0 t.alm.linkRead (8 * n) = s.rd (LNK.CV_CNT n)))) ∧
    (∀ v : Word, Served s ALM.REBASE →
      (s.mode = 6 → Gives (.rebaseWrite v) s (fun t => (∀ i, i < 32 → t.bit ALM.REBASE i = (s.bit ALM.REBASE i || (wbit v i && decide (i < 16)))) ∧
        OnlyRegs [ALM.REBASE] s t)) ∧
      (s.mode ≠ 6 → Gives (.rebaseWrite v) s (fun t => t = s))) ∧
    (∀ (n : Fin 16) (b : List Byte), (s.lnk n).sounding = .running → b.length = 768 →
      Gives (.soundingDone n b) s (fun t => (t.lnk n).sounding = .idle ∧ t.rd (LNK.SOUND_STAT n) % 65536 = 1 ∧ t.bit (LNK.EVT n) 6 = true ∧
        (∀ i, i < 192 → t.rd (LNK.SOUND_BUF n i) = le (slice b (4 * i) 4)) ∧ OtherLinks n s t ∧
        (s.fwActs = true → t.rd ALM.SOUND_CNT = sat32 (s.rd ALM.SOUND_CNT) 1) ∧
        (s.fwActs = true → Map.get none s.alm.base n.val = none → Map.get none t.alm.base n.val = some b ∧ ∃ j ∈ t.nvm.ops, j.op = .journal (.baseline n b))))

/-! ### Wake, resets, boot and shutdown -/

/-- Every register but those in `l` is at its reset value. -/
def Sys2Proof.RegsAtReset (l : List Nat) (t : State) : Prop := ∀ a, a ∉ l → t.rd a = (regReset a).toNat

/-- The rails are requested, after a wake or a reset. -/
def Sys2Proof.RailsAsked (t : State) : Prop :=
  t.power.phase = .rails ∧ t.power.pwrReq = true ∧ t.power.camPwrEn = true ∧ t.getF PWR.SUP_SET 0 10 = 750

/-- `s` has gone from STANDBY to the request of its rails, for wake source `src` that was seen `ago` core cycles before. -/
def Sys2Proof.Woken (s : State) (src ago : Nat) (t : State) : Prop :=
  RailsAsked t ∧ t.rd PWR.MODE = 0x112 ∧ t.rd PWR.WAKE_SRC = src ∧ t.rd PWR.WAKE_CNT = sat32 (s.rd PWR.WAKE_CNT) 1 ∧
    t.rd PWR.LIFE_KEY = min 0xFFFF (s.rd PWR.LIFE_KEY + 1) ∧ t.wakeAt = s.now - ago

/-- The device starts to run: CTRL is up and STORE powers up, the others follow it; the setpoint is that of the monitors and goes from there
to the recorded one within the limits `lo` to `hi`, and key-on waits for both (R402, R478, R504, R517). -/
def Sys2Proof.Running (s : State) (lo hi : Nat) (t : State) : Prop :=
  let mv := s.getF PWR.SUP_SET 0 10
  let goal := max lo (min hi (s.getF PWR.AVS_SHADOW 0 10))
  t.power.phase = .running ∧ (∀ d, d < 8 → t.dom d = if d ≤ 1 then .up else if d = 2 then .rising else .off) ∧ t.rd PWR.DOM_REQ = 4 ∧
    t.bist.keyonDue = true ∧ t.rd ALM.AVS_STAT = mv ∧
    (s.alm.step = none → goal < mv + 5 → mv < goal + 5 → t.alm.target = none ∧ t.getF PWR.AVS_SHADOW 0 10 = mv) ∧
    (¬(goal < mv + 5 ∧ mv < goal + 5) → t.alm.target = some goal)

/-- The flash is doing nothing that a reset cuts off (R490). -/
def Sys2Proof.NothingCut (s : State) : Prop := ∀ j, s.flashRun = some j → j.op.isWrite = false

/-- No other reset has been recorded in this AON cycle (R511). -/
def Sys2Proof.FirstCause (s : State) : Prop := s.power.causeAt ≠ some s.aonCycle

/-- What a reset of everything outside AON leaves (R511): the flash, the calendar, the straps, the registers of AON but those that the
reset writes; the store and every other register outside AON are lost. -/
def Sys2Proof.KeepsAon (s t : State) : Prop :=
  (NothingCut s → t.nvm.flash = s.nvm.flash) ∧ t.alm.rtc = s.alm.rtc ∧ t.alm.rtcAt = s.alm.rtcAt ∧ t.position = s.position ∧ t.pending = s.pending ∧
    t.cfs.mem = [] ∧ t.cfs.queues = [] ∧ t.link = [] ∧ t.fe = [] ∧ t.mgmt.h2d = [] ∧ t.power.firmware = false ∧
    (∀ a, aonRegister a = true →
      a ∉ [PWR.WAKE_SRC, PWR.WAKE_CNT, PWR.RST_CAUSE, PWR.PIN_RST_CNT, PWR.LIFE_SEC, PWR.SUP_SET, PWR.SUP_STAT, PWR.FAULT_STAT, PWR.PGOOD_RST_CNT,
        PWR.SUP_RST_CNT] → t.rd a = s.rd a) ∧
    (∀ a, aonRegister a = false → a ∉ [PWR.MODE, PWR.MODE_EVT, BIST.STAT] → t.rd a = (regReset a).toNat)

/-- Power-on leaves every register at its reset value and keeps the flash and the fuses; from STANDBY an enabled wake source requests
the rails, with the cycles it took to be seen, a source that is not enabled does nothing, and one in SHUTDOWN_RECORD is latched; good
rails start BOOT unless RESET_N is held low, rails that do not come end in STANDBY, rails that go are cycled. A power loss leaves of what the
flash was doing a first part, and of two wakes in one AON cycle the lowest source stands. -/
def Sys2Proof.WakesAndRails : Prop :=
  ∀ s : State,
    (∀ straps : Fin 4, Gives (.powerOnReset straps) s (fun t =>
      RegsAtReset [NVM.OTP_STAT, SYS.DEV_ID] t ∧ t.rd NVM.OTP_STAT = s.rd NVM.OTP_STAT ∧ t.rd SYS.DEV_ID = s.rd SYS.DEV_ID ∧ (NothingCut s → t.nvm.flash = s.nvm.flash) ∧
      t.power = { State.reset.power with straps := straps.val, causeAt := some s.aonCycle } ∧ t.position = (if s.isAS then 0 else straps.val) ∧ t.cfs = State.reset.cfs ∧
      t.pending = s.pending ∧ t.now = s.now)) ∧
    (∀ j a bs, s.flashRun = some j → j.op = .program a bs →
      Gives .powerLoss s (fun t => ∃ k, k ≤ bs.length ∧ (∀ i, i < k → t.flashByte (a + i) = s.flashByte (a + i) &&& nth 0 bs i) ∧
        ∀ x, (x < a ∨ a + k ≤ x) → t.flashByte x = s.flashByte x)) ∧
    (∀ j a len, s.flashRun = some j → j.op = .erase a len →
      Gives .powerLoss s (fun t => ∀ x, (x < a ∨ a + len ≤ x) → t.flashByte x = s.flashByte x)) ∧
    Gives .powerLoss s (fun t => RegsAtReset [NVM.OTP_STAT, SYS.DEV_ID] t ∧ (NothingCut s → t.nvm.flash = s.nvm.flash) ∧ t.power.phase = .off ∧ (∀ d, t.dom d = .off) ∧
      t.pending = s.pending) ∧
    (s.power.phase = .standby →
      (s.bit PWR.WAKE_CFG 0 = true → Gives .wakePinDeclare s (fun t => Woken s 1 1007080 t)) ∧
      (s.bit PWR.WAKE_CFG 1 = true → Gives .spiWake s (fun t => Woken s 2 0 t)) ∧
      (s.bit PWR.RTC_CTL 1 = true → s.bit PWR.WAKE_CFG 2 = true → Gives .rtcAlarm s (fun t => Woken s 3 0 t ∧ t.bit PWR.RTC_CTL 1 = false))) ∧
    (s.bit PWR.WAKE_CFG 0 = false → Gives .wakePinDeclare s (fun t => t = s)) ∧
    (s.bit PWR.WAKE_CFG 1 = false → Gives .spiWake s (fun t => t = s)) ∧
    (s.bit PWR.RTC_CTL 1 = false → Gives .rtcAlarm s (fun t => t = s)) ∧
    (s.power.phase = .running → s.mode = 7 → s.power.latched = none → s.wokeNow = false → s.power.shutStep ≠ 4 → s.bit PWR.WAKE_CFG 1 = true →
      (∀ n, (s.lnk n).sounding ≠ .running) →
      Gives .spiWake s (fun t => t.power = { s.power with latched := some 2, wokeAt := some s.aonCycle } ∧ t.rd PWR.SHUT_ABORT_CNT = sat32 (s.rd PWR.SHUT_ABORT_CNT) 1 ∧
        OnlyRegs [PWR.SHUT_ABORT_CNT] s t)) ∧
    (s.power.phase ≠ .standby → s.wokeNow = true → s.bit PWR.WAKE_CFG 0 = true →
      (s.power.latched = none →
        Gives .wakePinDeclare s (fun t => t.getF PWR.WAKE_SRC 0 3 = min 1 (s.getF PWR.WAKE_SRC 0 3) ∧ OnlyRegs [PWR.WAKE_SRC] s t ∧ t.power = s.power)) ∧
      (∀ x, s.power.latched = some x → Gives .wakePinDeclare s (fun t => t.power = { s.power with latched := some (min x 1) } ∧ t.regs = s.regs))) ∧
    (∀ f : FlashInit, s.power.phase = .rails → s.power.resetN = false →
      Gives (.pgoodRise f) s (fun t => t.power = { s.power with pgood := true, phase := .pin } ∧ t.regs = s.regs)) ∧
    (∀ f : FlashInit, s.power.phase ≠ .rails → s.power.phase ≠ .off →
      Gives (.pgoodRise f) s (fun t => t.power = { s.power with pgood := true } ∧ t.regs = s.regs)) ∧
    (∀ f : FlashInit, s.power.phase = .rails → s.power.resetN = true →
      Gives (.pgoodRise f) s (fun t => Running s (s.getF ALM.AVS_CFG 0 10) (s.getF ALM.AVS_CFG 10 10) t ∧ t.power.pgood = true ∧ t.pending = s.pending ∧
        (f.fail = true → t.bit NVM.STAT 7 = true ∧ t.bit PWR.MODE 16 = true ∧ t.rd NVM.FLASH_ERR_CNT = sat32 (s.rd NVM.FLASH_ERR_CNT) 1) ∧
        (f.fail = false → t.rd NVM.FLASH_ID = f.id.val ∧ t.bit NVM.STAT 1 = true ∧ t.getF NVM.STAT 8 8 = min 200 f.mhz.val))) ∧
    (s.power.phase = .rails →
      Gives .railTimeout s (fun t => t.power.phase = .standby ∧ t.power.pwrReq = false ∧ t.power.camPwrEn = false ∧
        t.rd PWR.RAIL_FAIL_CNT = sat32 (s.rd PWR.RAIL_FAIL_CNT) 1 ∧ t.rd PWR.FAULT_STAT = 0 ∧ t.nvm.flash = s.nvm.flash)) ∧
    (s.power.pgood = false ∨ s.power.pwrReq = false → Gives .pgoodFall s (fun t => t.power = { s.power with pgood := false } ∧ t.regs = s.regs)) ∧
    (s.power.pgood = true → s.power.pwrReq = true → FirstCause s →
      Gives .pgoodFall s (fun t => KeepsAon s t ∧ t.power.phase = .hold ∧ t.power.pwrReq = false ∧ t.power.pgood = false ∧ t.rd PWR.RST_CAUSE = 5 ∧ t.bit PWR.FAULT_STAT 5 = true ∧
        t.rd PWR.PGOOD_RST_CNT = sat32 (s.rd PWR.PGOOD_RST_CNT) 1)) ∧
    (s.power.phase = .hold → Gives .railRetry s (fun t => RailsAsked t ∧ OnlyRegs [PWR.SUP_SET] s t)) ∧
    (s.power.phase = .running → Gives .spiTargetReady s (fun t => t.power = { s.power with spiReady := true } ∧ t.regs = s.regs ∧ t.mgmt = s.mgmt))

/-- The reset pin, the supply monitors, the watchdog and the lockstep comparison: each reset keeps AON, records its cause and counts;
of causes in one AON cycle the first in the order of R511 stands; the watchdog warns before it resets, restarts at the right word only, and keeps its configuration once locked; a supply warning holds the
flash writes until it is released. -/
def Sys2Proof.ResetsAndSupervision : Prop :=
  ∀ s : State,
    (s.power.phase ≠ .off → s.power.resetN = true → FirstCause s →
      Gives .resetPin s (fun t => KeepsAon s t ∧
        t.power.phase = (if s.power.phase = .running ∨ s.power.phase = .standby then .pin else s.power.phase) ∧ t.power.resetN = false ∧ t.rd PWR.RST_CAUSE = 2 ∧ t.rd PWR.WAKE_SRC = 4 ∧
        t.rd PWR.PIN_RST_CNT = sat32 (s.rd PWR.PIN_RST_CNT) 1 ∧ t.rd PWR.MODE = 258 + 16 * (if s.power.phase = .standby then 1 else s.mode))) ∧
    (∀ (straps : Fin 4) (f : FlashInit), s.power.phase ≠ .off → s.power.phase ≠ .pin → s.power.resetN = false →
      Gives (.resetRelease straps f) s (fun t => t.power = { s.power with resetN := true, straps := straps.val } ∧ t.regs = s.regs ∧ t.wakeAt = s.now)) ∧
    (∀ (straps : Fin 4) (f : FlashInit), s.power.phase = .pin → s.power.resetN = false →
      (s.power.pwrReq = true → s.power.pgood = true →
        Gives (.resetRelease straps f) s (fun t => Running s (s.getF ALM.AVS_CFG 0 10) (s.getF ALM.AVS_CFG 10 10) t ∧ t.wakeAt = s.now ∧ t.power.resetN = true)) ∧
      (s.power.pwrReq = false ∨ s.power.pgood = false →
        Gives (.resetRelease straps f) s (fun t => RailsAsked t ∧ t.power.straps = straps.val ∧ t.position = (if s.isAS then 0 else straps.val) ∧ t.power.resetN = true))) ∧
    (s.power.monitor = true →
      Gives .supplyResetTrip s (fun t => KeepsAon s t ∧ t.power.phase = .hold ∧ (FirstCause s → t.rd PWR.RST_CAUSE = 4) ∧
        t.rd PWR.SUP_RST_CNT = sat32 (s.rd PWR.SUP_RST_CNT) 1) ∧
      (s.power.warnAt = none →
        Gives .supplyWarningAssert s (fun t => t.power.warnAt = some s.now ∧ t.bit PWR.EVT 0 = true ∧ t.bit PWR.FAULT_STAT 5 = true ∧
          t.rd PWR.DIP_TIME = s.time.dt / 2 ^ 40 % 2 ^ 32 ∧ t.pres.warnLog.head? = some (s.time.dt, none) ∧
          (∀ u, u ∈ t.bist.testing → u.supply = true) ∧
          (∀ j, t.flashRun = some j → j.op.isWrite = false) ∧ t.nvm.flash = s.nvm.flash))) ∧
    (s.power.monitor = false → s.power.tripAt = some s.aonCycle → s.power.causeAt = some s.aonCycle → s.rd PWR.RST_CAUSE = 5 →
      Gives .supplyResetTrip s (fun t => t.rd PWR.RST_CAUSE = 4 ∧ t.rd PWR.SUP_RST_CNT = sat32 (s.rd PWR.SUP_RST_CNT) 1 ∧ t.power = s.power ∧
        OnlyRegs [PWR.RST_CAUSE, PWR.SUP_RST_CNT, PWR.FAULT_STAT] s t)) ∧
    (s.power.monitor = false → s.power.tripAt ≠ some s.aonCycle → Gives .supplyResetTrip s (fun t => t = s)) ∧
    (∀ a, s.power.warnAt = some a → AfterBoot s ∨ s.fwActs = false →
      Gives .supplyWarningRelease s (fun t => t.power.warnAt = none ∧ t.rd PWR.DIP_CNT = sat32 (s.rd PWR.DIP_CNT) 1 ∧ t.bit PWR.EVT 1 = true ∧
        t.getF PWR.DIP_DUR 0 16 = min 0xFFFF ((s.now - a) / 1000) ∧ t.getF PWR.DIP_DUR 16 16 = max (min 0xFFFF ((s.now - a) / 1000)) (s.getF PWR.DIP_DUR 16 16))) ∧
    (s.power.pgood = true → s.power.pwrReq = true → Gives .supplyMonitorArm s (fun t => t.power = { s.power with monitor := true } ∧ t.regs = s.regs)) ∧
    (s.power.pgood = false ∨ s.power.pwrReq = false → Gives .supplyMonitorArm s (fun t => t = s)) ∧
    (∀ v : Word, Served s PWR.WDT_CFG →
      (s.bit PWR.WDT_CFG 31 = false →
        Gives (.wdtConfigWrite v) s (fun t => t.bit PWR.WDT_CFG 31 = wbit v 31 ∧ t.bit PWR.WDT_CFG 16 = s.bit PWR.WDT_CFG 16 ∧
          t.getF PWR.WDT_CFG 0 16 = max 100 (min 10000 (v.toNat % 2 ^ 14)) ∧ OnlyRegs [PWR.WDT_CFG] s t)) ∧
      (s.bit PWR.WDT_CFG 31 = true → Gives (.wdtConfigWrite v) s (fun t => t = s)) ∧
      (v.toNat % 65536 = 0xA5A5 → Gives (.watchdogKick v) s (fun t => t.power = { s.power with wdtFrom := s.now, wdtWarned := false } ∧ t.regs = s.regs)) ∧
      (v.toNat % 65536 ≠ 0xA5A5 → Gives (.watchdogKick v) s (fun t => t = s))) ∧
    (s.wdtRuns = true →
      (s.power.wdtWarned = false →
        Gives .watchdogWarning s (fun t => t.bit PWR.EVT 4 = true ∧ t.rd PWR.WDT_WARN_CNT = sat32 (s.rd PWR.WDT_WARN_CNT) 1 ∧ t.bit PWR.FAULT_STAT 6 = true ∧
          t.power = { s.power with wdtWarned := true } ∧ OnlyRegs [PWR.EVT, PWR.WDT_WARN_CNT, PWR.FAULT_STAT] s t)) ∧
      (∀ f : FlashInit, FirstCause s → Gives (.watchdogExpiry f) s (fun t => Running s 700 850 t ∧ t.rd PWR.RST_CAUSE = 3 ∧ t.rd PWR.WDT_RST_CNT = sat32 (s.rd PWR.WDT_RST_CNT) 1 ∧
        t.power.pwrReq = s.power.pwrReq ∧ t.power.firmware = false ∧ t.wakeAt = s.now ∧ t.bit PWR.FAULT_STAT 7 = true))) ∧
    (s.power.phase = .running → s.power.coresHalted = false →
      Gives .lockstepMismatch s (fun t => t.rd SYS.LOCKSTEP_CNT = sat32 (s.rd SYS.LOCKSTEP_CNT) 1 ∧ t.bit SYS.EVT 0 = true ∧
        OnlyRegs [SYS.LOCKSTEP_CNT, SYS.EVT] s t ∧
        (s.power.restartAt = none → t.power = { s.power with restartAt := some s.now }) ∧
        (∀ a, s.power.restartAt = some a → t.power = (if s.now - a < 1000000000 then { s.power with coresHalted := true } else { s.power with restartAt := some s.now }))))

/-- Wakes, resets and the supervision of the supply and of the management cores. -/
def Obligations.WakesAndResets : Prop := Sys2Proof.WakesAndRails ∧ Sys2Proof.ResetsAndSupervision

/-- A bank verifies for a commit: early section, hash table and main sections (R384, R390). -/
def Sys2Proof.BankGood (s : State) (b : Nat) : Prop := s.verifyEarly b = none ∧ s.verifyMain b 3 = none

/-- The macros of the memory phase whose verdict is FAIL (R446, R451-R453). The 24 steps of a word are the model's choice (log entry 203). -/
def Sys2Proof.Failed (s : State) (r : MemResult) (m : MacroId) : Prop := ∃ x ∈ r.macros, macroVerdictOf s 24 x = 2 ∧ x.id = m

/-- The steps of BOOT: the analogue phase leads to the memory phase, whose results retire macros; the store becomes ready; the firmware
starts with the main pass and the read of the journal queued and the watchdog running, but not after a fatal result of key-on; a main pass that verifies makes the image usable and delivers the boot scene's
sections, one that fails leaves the device EARLY_ONLY, as does a key that does not come in time; the timers of the boot pass, with the
service set of the wanted scene, of the default scene where the image lacks a set of that one, or none. -/
def Sys2Proof.BootSteps : Prop :=
  ∀ s : State,
    (∀ r : AnaResult, s.getF BIST.STAT 0 3 = 1 → s.bist.cut = [] →
      Gives (.analoguePhaseDone r) s (fun t => t.getF BIST.STAT 0 3 = 2 ∧ t.bist.anaDone = true ∧ t.rd BIST.ANA_LNK = r.links.val ∧
        t.getF BIST.KEYON_TIME 0 16 = r.us.val ∧ (∀ n, n < 16 → r.links.val.testBit n = true → n ∈ t.feOos) ∧
        (r.links.val ≠ 0 → t.bit BIST.EVT 1 = true) ∧ t.bit BIST.STAT 7 = (r.supmon || r.bandgap || decide (r.plls.val ≠ 0)))) ∧
    (∀ r : MemResult, s.getF BIST.STAT 0 3 = 2 → s.bist.cut = [] →
      Gives (.memoryPhaseDone r) s (fun t => t.getF BIST.STAT 0 4 = 0 ∧ t.bist.memDone = true ∧ t.bit BIST.EVT 0 = true ∧
        (∀ b i, (b.val, i) ∈ t.cfs.retired ↔ Failed s r (.cfs b i)) ∧ (∀ a n, (a, n) ∈ t.cfs.retiredPtr ↔ Failed s r (.ptr a n)) ∧
        t.getF BIST.MEM_STAT 24 8 = min 255 (t.cfs.retired.length + t.cfs.retiredPtr.length) ∧
        t.getF BIST.MEM_STAT 8 8 = min 255 (r.macros.filter (fun x => macroVerdictOf s 24 x == 4)).length ∧
        (∀ k : Fin 8, t.bit BIST.MEM_STAT (16 + k.val) = true ↔ ∃ i, Failed s r (.cluster k i)) ∧
        (∀ n : Fin 18, (t.bit BIST.MEM_FE n.val = true ↔ ∃ i, Failed s r (.frontEnd n i)) ∧ ((∃ i, Failed s r (.frontEnd n i)) → n.val ∈ t.feOos)) ∧
        (t.bit BIST.MEM_STAT 0 = true ↔ ∃ i, Failed s r (.draw i)) ∧ (t.bit BIST.MEM_STAT 1 = true ↔ ∃ i, Failed s r (.mac i)) ∧
        t.getF BIST.KEYON_TIME 16 16 = r.us.val ∧ t.rd BIST.REPAIR_CNT = sat32 (s.rd BIST.REPAIR_CNT) (repairsOf s 24 r.macros) ∧
        t.rd BIST.FAIL_CNT = sat32 (s.rd BIST.FAIL_CNT) (r.macros.filter (fun x => macroVerdictOf s 24 x == 2)).length)) ∧
    (s.cfs.ready = false → s.domOn 2 = true → (s.mode = 2 → s.bist.memDone = true) → Gives .storeInitDone s (fun t => t.cfs.ready = true ∧ t.cfs.retired = s.cfs.retired)) ∧
    (s.mode = 2 → s.bist.memDone = false → exec .storeInitDone s = .next s) ∧
    (∀ (cfg : DeviceConfig) (b : Nat), s.nvm.bank = some b → s.power.phase = .running → s.power.firmware = false → s.power.coresHalted = false →
        (∀ d, d < 8 → s.dom d = .up) → s.bit BIST.STAT 7 = true →
      Gives (.earlySectionVerified cfg) s (fun t => t.bit NVM.STAT 2 = true ∧ OnlyRegs [NVM.STAT] s t ∧ t.power = s.power ∧ t.nvm = s.nvm)) ∧
    (∀ (cfg : DeviceConfig) (b : Nat), s.nvm.bank = some b → s.power.phase = .running → s.power.firmware = false → s.power.coresHalted = false →
        (∀ d, d < 8 → s.dom d = .up) → s.bit BIST.STAT 7 = false →
      Gives (.earlySectionVerified cfg) s (fun t => t.power.firmware = true ∧ (∃ j ∈ t.nvm.ops, j.op = .mainPass) ∧ (∃ j ∈ t.nvm.ops, j.op = .journalRead) ∧
        (cfg.regs = [] → cfg.feTables = [] →
          t.bit NVM.STAT 2 = true ∧ t.bit PWR.WDT_CFG 16 = true ∧ t.bit PWR.WDT_CFG 31 = true ∧ t.getF PWR.WDT_CFG 0 14 = max 100 (min 10000 cfg.wdtMs) ∧
          (s.bit PWR.LAST_SCENE 31 = false → t.sched.wantScene = cfg.defaultScene)))) ∧
    (∀ (b : Nat) (x : MainLoads), x = s.nvm.config.main → b < 2 → s.nvm.bank = some b → (∃ j ∈ s.nvm.ops, j.op = .mainPass) → s.bootNeedsKey (s.mainSections b (s.imageHeader b)) = none →
      (s.verifyMain b 2 = none →
        Gives (.mainPassDone) s (fun t => t.bit NVM.STAT 3 = true ∧ t.bit NVM.EVT 0 = true ∧ t.nvm.sections = s.nvm.sections ++ s.mainSections b (s.imageHeader b) ∧
          (∀ j, j ∈ t.nvm.ops → j.op ≠ .mainPass) ∧
          (s.bist.memDone = true → x.draw ≠ [] → (∃ y ∈ s.mainSections b (s.imageHeader b), y.type = 4 ∧ s.bootNeeds y = true) → t.pres.drawRdy = true) ∧
          (∀ n sc, n < 16 → x.scripts = [(n, sc)] → (∃ y ∈ s.mainSections b (s.imageHeader b), y.type = 6 ∧ s.bootNeeds y = true ∧ y.id % 256 = n) →
            nth [] t.scripts n = sc))) ∧
      (∀ e, s.verifyMain b 2 = some e →
        Gives (.mainPassDone) s (fun t => t.bit NVM.STAT 4 = true ∧ t.rd NVM.IMG_ERR_CNT = sat32 (s.rd NVM.IMG_ERR_CNT) 1 ∧ t.bit PWR.MODE 16 = true ∧
          t.flashByte (stateSector b) = s.flashByte (stateSector b) &&& 0x7F ∧ ∀ j, j ∈ t.nvm.ops → j.op ≠ .mainPass))) ∧
    (∀ (b : Nat) (y : Section), b < 2 → s.nvm.bank = some b → (∃ j ∈ s.nvm.ops, j.op = .mainPass) →
      s.bootNeedsKey (s.mainSections b (s.imageHeader b)) = some y →
      (s.nvm.keyWaitOver = false → exec (.mainPassDone) s = .next s) ∧
      (s.nvm.keyWaitOver = true →
        Gives (.mainPassDone) s (fun t => t.bit NVM.STAT 4 = true ∧ t.rd NVM.IMG_ERR_CNT = sat32 (s.rd NVM.IMG_ERR_CNT) 1 ∧ t.bit PWR.MODE 16 = true))) ∧
    Gives .scriptWaitTimeout s (fun t => t.power.scriptOver = true ∧ t.cfs = s.cfs ∧ t.link = s.link ∧ t.fe = s.fe) ∧
    Gives .bootPrepTimer s (fun t => t.power.prepOk = true ∧ t.cfs = s.cfs ∧ t.link = s.link ∧ t.fe = s.fe ∧
      (s.fwActs = true → s.power.step7 = true → s.power.asked = false → (s.mode = 2 ∨ s.mode = 3) → s.bit NVM.STAT 3 = true →
        s.bit PWR.MODE 16 = false → s.sched.next = none → s.position = 0 → s.power.scriptOver = true →
        t.power.asked = true ∧
        (∀ n, n = (if s.sceneHeld s.sched.wantScene then s.sched.wantScene else s.nvm.config.defaultScene) →
          (s.sceneHeld n = true → ∃ sw, t.sched.next = some sw ∧ sw.kind = .boot ∧ sw.scene = n ∧ sw.grade = s.alm.grade ∧
            sw.variant = s.sched.bootVariant) ∧
          (s.sceneHeld n = false → t.sched = s.sched ∧ t.bit PWR.MODE 16 = true)))) ∧
    (∀ b, s.nvm.bank = some b → s.power.phase = .running → s.power.firmware = true → ∀ cfg, Gives (.earlySectionVerified cfg) s (fun t => t = s))

/-- Flash operations end with their effect on the bytes they name and on no others; a DMA burst's read ends its wait, or, failed, the burst as a
bus error does (the model's choice, log entry 214); the firmware's reads of the journal and of the early section end, or fail, too; the read-back of a commit queues the record and the
state bit that make its bank PENDING, or the bit that fails it, as does a third failed attempt of one of its reads, and the last of
these programs ends the session with its result. -/
def Sys2Proof.FlashOperations : Prop :=
  ∀ (s : State) (fails : Fin 4),
    (∀ j a bs, s.flashRun = some j → j.op = .program a bs →
      Gives (.flashOpDone fails) s (fun t => (∀ i, i < bs.length → t.flashByte (a + i) = s.flashByte (a + i) &&& nth 0 bs i) ∧
        (∀ x, (x < a ∨ a + bs.length ≤ x) → t.flashByte x = s.flashByte x) ∧ (∀ y, y ∈ t.nvm.ops → y.id ≠ j.id) ∧
        (a < 0x06000000 → t.getF NVM.WR_STAT 0 26 = (s.getF NVM.WR_STAT 0 26 + bs.length) % 2 ^ 26))) ∧
    (∀ j a len, s.flashRun = some j → j.op = .erase a len →
      Gives (.flashOpDone fails) s (fun t => (∀ x, a ≤ x → x < a + len → t.flashByte x = 0xFF) ∧
        (∀ x, (x < a ∨ a + len ≤ x) → t.flashByte x = s.flashByte x) ∧ ∀ y, y ∈ t.nvm.ops → y.id ≠ j.id)) ∧
    (∀ j, s.flashRun = some j → j.op = .fetch → fails.val < 3 →
      Gives (.flashOpDone fails) s (fun t => t.nvm.flash = s.nvm.flash ∧ t.rd NVM.RETRY_CNT = sat32 (s.rd NVM.RETRY_CNT) fails.val ∧ ∀ y, y ∈ t.nvm.ops → y.id ≠ j.id)) ∧
    (∀ j c l, s.flashRun = some j → j.op = .dmaRead c l →
      Gives (.flashOpDone fails) s (fun t => t.nvm.flash = s.nvm.flash ∧ (t.chan c).flash = false ∧ (∀ y, y ∈ t.nvm.ops → y.id ≠ j.id) ∧
        t.rd NVM.RETRY_CNT = sat32 (s.rd NVM.RETRY_CNT) (min 2 fails.val) ∧
        (fails.val < 3 → t.chan c = { s.chan c with flash := false } ∧ t.rd NVM.FLASH_ERR_CNT = s.rd NVM.FLASH_ERR_CNT) ∧
        (fails.val = 3 → t.rd NVM.FLASH_ERR_CNT = sat32 (s.rd NVM.FLASH_ERR_CNT) 1 ∧
          ((s.chan c).phase = .burst → (t.chan c).code = 4 ∧ (t.chan c).todo = [] ∧ t.rd DMA.BUS_ERR_CNT = sat32 (s.rd DMA.BUS_ERR_CNT) 1)))) ∧
    (∀ j, s.flashRun = some j → j.op = .journalRead →
      Gives (.flashOpDone fails) s (fun t => t.power.journal = true ∧ (∀ y, y ∈ t.nvm.ops → y.op ≠ .journalRead) ∧ t.nvm.flash = s.nvm.flash ∧
        t.rd NVM.RETRY_CNT = sat32 (s.rd NVM.RETRY_CNT) (min 2 fails.val))) ∧
    (∀ j, s.flashRun = some j → j.op = .refetch → s.fwActs = false ∨ s.power.step7 = true →
      Gives (.flashOpDone fails) s (fun t => (∀ y, y ∈ t.nvm.ops → y.op ≠ .refetch) ∧ t.nvm.flash = s.nvm.flash ∧
        (fails.val = 3 ∨ s.earlyAgrees = false → t.power.earlyBad = true) ∧
        (fails.val < 3 → s.earlyAgrees = true → t.power.earlyBad = s.power.earlyBad ∧ (s.nvm.config.draw ≠ [] → t.pres.drawRdy = true)))) ∧
    (∀ w, s.nvm.session = some w → w.commit = true → w.verdict = 0 → (∀ j, j ∈ s.nvm.ops → j.op.isImage = false) → w.bank < 2 →
      (BankGood s w.bank →
        Gives .commitDone s (fun t => t.nvm.session = some { w with verdict := 1 } ∧ t.nvm.flash = s.nvm.flash ∧ t.rd NVM.IMG_ERR_CNT = s.rd NVM.IMG_ERR_CNT ∧
          ∃ i ∈ t.nvm.ops, ∃ j ∈ t.nvm.ops, i.id < j.id ∧ i.op = .program (stateSector w.bank + 4) (commitRecord (s.imageHeader w.bank)) ∧
            j.op = .program (stateSector w.bank) [0xFD])) ∧
      (¬ BankGood s w.bank →
        Gives .commitDone s (fun t => t.nvm.session = some { w with verdict := 2 } ∧ t.nvm.flash = s.nvm.flash ∧
          t.rd NVM.IMG_ERR_CNT = sat32 (s.rd NVM.IMG_ERR_CNT) 1 ∧ t.bit NVM.EVT 1 = true ∧ ∃ j ∈ t.nvm.ops, j.op = .program (stateSector w.bank) [0x7F])) ∧
      (fails.val < 3 → s.flashRun = none →
        Gives (.flashOpDone fails) s (fun t => t.nvm = s.nvm ∧ t.rd NVM.RETRY_CNT = sat32 (s.rd NVM.RETRY_CNT) fails.val ∧ OnlyRegs [NVM.RETRY_CNT] s t)) ∧
      (fails.val = 3 → s.flashRun = none →
        Gives (.flashOpDone fails) s (fun t => t.nvm.session = some { w with verdict := 2 } ∧ t.rd NVM.RETRY_CNT = sat32 (s.rd NVM.RETRY_CNT) 2 ∧
          t.rd NVM.FLASH_ERR_CNT = sat32 (s.rd NVM.FLASH_ERR_CNT) 1 ∧
          t.bit NVM.EVT 5 = true ∧ ∃ j ∈ t.nvm.ops, j.op = .program (stateSector w.bank) [0x7F]))) ∧
    (∀ j a bs w, s.flashRun = some j → j.op = .program a bs → 0x06800000 ≤ a → s.nvm.session = some w → (w.verdict = 1 ∨ w.verdict = 2) →
      (∀ y, y ∈ s.nvm.ops → y.op.isImage = true → y.id = j.id) →
      Gives (.flashOpDone fails) s (fun t => t.nvm.session = none ∧ t.getF NVM.WR_STAT 28 3 = w.verdict ∧ t.bit NVM.WR_STAT 31 = false ∧
        t.bit NVM.EVT 3 = true ∧ (∃ data, t.mgmt.events = s.mgmt.events ++ [(4, data)]) ∧
        (w.verdict = 1 → w.bank < s.alm.commits.length → nth 0 t.alm.commits w.bank = nth 0 s.alm.commits w.bank + 1)))

/-- The steps of BOOT, and the operations of the flash. -/
def Obligations.BootAndFlash : Prop := Sys2Proof.BootSteps ∧ Sys2Proof.FlashOperations

/-- The last samples of the fault and overrun counts of cluster `k`, with the one taken now (R411). -/
def Sys2Proof.policyNow (s : State) (k : Nat) : List Nat :=
  let n := s.rd (CLU.FAULT_CNT k) + s.rd (CLU.OVERRUN_CNT k)
  let last := Map.get 0 s.power.policyRead k
  ((if n < last then n else n - last) :: Map.get [] s.power.policy k).take (10 * max 1 (s.getF PWR.SVC_POLICY 8 8))

/-- Without a host for the time of the policy the device shuts down; a cluster whose faults reach the limit within the window is asked
out of service, counted; the KEYOFF record moves the power-on seconds into the totals, and SHUTDOWN_RECORD ends in STANDBY, or in BOOT
where a wake was latched. -/
def Sys2Proof.ServicePolicyAndShutdown : Prop :=
  ∀ s : State,
    (s.getF PWR.WAKE_SRC 0 3 = 1 ∨ s.getF PWR.WAKE_SRC 0 3 = 3 → s.getF PWR.SVC_POLICY 16 16 ≠ 0 → s.fwActs = true → s.mode ≠ 7 →
      s.sched.cur.period ≠ 0 →
      Gives .noHostTimeout s (fun t => t.mode = 7 ∧ t.getF PWR.MODE 8 4 = 7 ∧ t.power.shutStep = 3)) ∧
    (s.getF PWR.WAKE_SRC 0 3 ≠ 1 → s.getF PWR.WAKE_SRC 0 3 ≠ 3 → Gives .noHostTimeout s (fun t => t = s)) ∧
    (s.fwActs = true → s.mode ≠ 7 →
      (s.getF PWR.SVC_POLICY 0 8 = 0 →
        Gives .faultPolicySample s (fun t => t.regs = s.regs ∧ t.sched = s.sched ∧
          ∀ k, k < 8 → s.domOn (cluDomain k) = true → Map.get [] t.power.policy k = policyNow s k)) ∧
      (∀ k, k < 8 → s.domOn (cluDomain k) = true → (s.cl k).svc = 3 → s.getF PWR.SVC_POLICY 0 8 ≠ 0 →
        s.getF PWR.SVC_POLICY 0 8 ≤ (policyNow s k).sum → (∀ j, j < 8 → j ≠ k → (s.cl j).svc ≠ 3) →
        Gives .faultPolicySample s (fun t => t.rd PWR.OOS_REQ_CNT = sat32 (s.rd PWR.OOS_REQ_CNT) 1 ∧ t.bit PWR.MODE_EVT 4 = true ∧
          Map.get [] t.power.policy k = []))) ∧
    (∀ f : FlashInit, s.Shaped → s.power.shutStep = 5 → s.power.coresHalted = false →
      (s.warning = false → s.power.latched = none → s.dom 7 = .up →
        Gives (.keyoffRecordWritten f) s (fun t => t.power.shutStep = 6 ∧ t.dom 7 = .falling ∧ t.bit PWR.DOM_REQ 7 = false ∧ t.nvm.ops = [] ∧ t.rd PWR.LIFE_SEC = 0 ∧ t.rd PWR.LIFE_KEY = 0 ∧
          t.alm.posSec = s.alm.posSec + s.lifeSec)) ∧
      (∀ src, src < 8 → s.warning = false → s.power.latched = some src →
        Gives (.keyoffRecordWritten f) s (fun t => t.power.phase = .running ∧ t.getF PWR.MODE 0 16 = 9 * 256 + 7 * 16 + 2 ∧ t.bit PWR.MODE_EVT 6 = true ∧
          t.rd PWR.WAKE_SRC = 256 + src ∧ t.power.latched = none ∧ t.power.shutStep = 0)) ∧
      (s.warning = true → Gives (.keyoffRecordWritten f) s (fun t => t = s)) ∧
      (s.warning = true → s.power.latched = none → s.dom 7 = .up →
        Gives (.journalWriteTimeout f) s (fun t => t.power.shutStep = 6 ∧ t.dom 7 = .falling ∧ t.bit PWR.DOM_REQ 7 = false ∧ t.nvm.ops = [] ∧ t.bit PWR.JRNL_PTR 30 = true ∧ t.nvm.flash = s.nvm.flash)) ∧
      (s.warning = false → Gives (.journalWriteTimeout f) s (fun t => t = s))) ∧
    (∀ f : FlashInit, s.power.coresHalted = true →
      Gives (.keyoffRecordWritten f) s (fun t => t = s) ∧ Gives (.journalWriteTimeout f) s (fun t => t = s)) ∧
    (∀ d, 2 ≤ d → d < 8 → s.dom d ≠ .off → Gives .shutdownComplete s (fun t => t = s)) ∧
    (s.power.shutStep = 6 → (∀ d, 2 ≤ d → d < 8 → s.dom d = .off) →
      (s.power.latched = none →
        Gives .shutdownComplete s (fun t => t.power.phase = .standby ∧ t.power.pwrReq = false ∧ t.power.camPwrEn = false ∧ t.rd PWR.FAULT_STAT = 0 ∧
          (∀ d, d < 8 → t.dom d = if d = 0 then .up else .off) ∧ t.nvm.flash = s.nvm.flash ∧ t.cfs.mem = [])) ∧
      (∀ src, src < 8 → s.power.latched = some src →
        Gives .shutdownComplete s (fun t => RailsAsked t ∧ t.rd PWR.WAKE_SRC = 256 + src ∧ t.bit PWR.MODE_EVT 6 = true ∧ t.power.latched = none)))

/-- The other domains are as they were. -/
def Sys2Proof.OtherDoms (d : Nat) (s t : State) : Prop := ∀ e, e ≠ d → t.dom e = s.dom e

/-- A request turns a domain on or off, is refused with its reason, or waits while the domain changes; a change that ends leaves the
domain up or off, an off domain with its registers but counters and snapshots at their reset values; at boot the others follow STORE, and
key-on follows them; a domain reset leaves them so with the domain up, and the
firmware then writes the control registers of its front ends again. -/
def Sys2Proof.PowerDomains : Prop :=
  ∀ (s : State) (d : Fin 8), s.Shaped → 2 ≤ d.val →
    (∀ v : Word, Served s PWR.DOM_REQ → (∀ i, 2 ≤ i → i < 8 → (wbit v i = s.bit PWR.DOM_REQ i ↔ i ≠ d.val)) →
      (s.dom d = .off → wbit v d = true → s.domRefusal d true = none →
        Gives (.domainRequest v) s (fun t => t.dom d = .rising ∧ t.bit PWR.DOM_REQ d = true ∧ OtherDoms d s t ∧ OnlyRegs [PWR.DOM_REQ] s t)) ∧
      (s.dom d = .up → wbit v d = false → s.domRefusal d false = none →
        Gives (.domainRequest v) s (fun t => t.dom d = .falling ∧ t.bit PWR.DOM_REQ d = false ∧ OtherDoms d s t)) ∧
      (∀ r, (s.dom d = .off ∨ s.dom d = .up) → s.domRefusal d (wbit v d) = some r →
        Gives (.domainRequest v) s (fun t => t.power = s.power ∧ t.rd PWR.DOM_REF_CNT = sat32 (s.rd PWR.DOM_REF_CNT) 1 ∧
          t.rd PWR.DOM_REF = 2 ^ 31 + 256 * r + d.val ∧ t.bit PWR.EVT 2 = true ∧ OnlyRegs [PWR.DOM_REF_CNT, PWR.DOM_REF, PWR.EVT] s t)) ∧
      (s.dom d = .rising ∨ s.dom d = .falling →
        Gives (.domainRequest v) s (fun t => t.power = { s.power with waiting := s.power.waiting ++ [(d.val, wbit v d)] } ∧ t.regs = s.regs))) ∧
    ((∀ p, p ∈ s.power.waiting → p.1 ≠ d.val) →
      (s.dom d = .rising → s.power.shutStep ≠ 6 →
        (s.bist.keyonDue = false →
          Gives (.domainPowerUpDone d) s (fun t => t.dom d = .up ∧ t.bit PWR.EVT 3 = true ∧ OtherDoms d s t ∧ OnlyRegs [PWR.EVT] s t)) ∧
        (s.bist.keyonDue = true → d.val = 2 →
          Gives (.domainPowerUpDone d) s (fun t => t.dom d = .up ∧ t.bit PWR.EVT 3 = true ∧
            ∀ i, 3 ≤ i → i < 8 → t.dom i = .rising ∧ t.bit PWR.DOM_REQ i = true)) ∧
        (s.bist.keyonDue = true → d.val ≠ 2 → (∀ i, i < 8 → i ≠ d.val → s.dom i = .up) → s.alm.target = none →
          Gives (.domainPowerUpDone d) s (fun t => t.dom d = .up ∧ t.bist.keyonDue = false ∧ t.getF BIST.STAT 0 4 = 9))) ∧
      (s.dom d = .falling → s.dmaHolds d = false → s.power.shutStep ≠ 6 →
        Gives (.domainPowerDownDone d) s (fun t => t.dom d = .off ∧ t.bit PWR.DOM_REQ d = false ∧ t.bit PWR.EVT 3 = true ∧ OtherDoms d s t ∧
          ∀ a, windowDomain a = some d.val → isCounter a = false → isSnapshot a = false → ¬(0x10091000 ≤ a ∧ a < 0x10091800) → t.rd a = (regReset a).toNat))) ∧
    (s.dom d = .falling → s.dmaHolds d = false → s.power.shutStep = 6 → 2 < d.val → (∀ p, p ∈ s.power.waiting → p.1 ≠ d.val) →
        (∀ e, d.val < e → e < 8 → s.dom e = .off) → s.dom (d.val - 1) = .up →
      Gives (.domainPowerDownDone d) s (fun t => t.dom d = .off ∧ t.dom (d.val - 1) = .falling)) ∧
    (s.dmaHolds d = true → Gives (.domainPowerDownDone d) s (fun t => t = s)) ∧
    (∀ v : Word, Served s PWR.DOM_RST → (∀ i, 2 ≤ i → i < 8 → (wbit v i = true ↔ i = d.val)) → s.dom d = .up → s.bist.testing = [] →
      Gives (.domainReset v) s (fun t => t.dom d = .up ∧ t.rd PWR.DOM_RST_CNT = sat32 (s.rd PWR.DOM_RST_CNT) 1 ∧
        ∀ a, windowDomain a = some d.val → isCounter a = false → ¬(0x10091000 ≤ a ∧ a < 0x10091800) → t.rd a = (regReset a).toNat)) ∧
    (s.fwActs = true → s.dom d = .up →
      Gives (.domainRestore d) s (fun t => t.dom d = .up ∧
        ∀ n v, n < 18 → camDomain n = d.val → n ∉ s.feOos → s.nvm.config.feCtl.find? (fun p => p.1 == n) = some (n, v) → t.bit (FE.CTL n) 0 = wbit v 0)) ∧
    (s.dom d ≠ .up → Gives (.domainRestore d) s (fun t => t = s))

/-- The service policy and the shutdown, and the power domains. -/
def Obligations.ShutdownAndDomains : Prop := Sys2Proof.ServicePolicyAndShutdown ∧ Sys2Proof.PowerDomains

/-! ### The invariant -/

/-- Every step keeps the sizes of the tables whose size the spec fixes: two ports, two gPTP domains, two trigger outputs, eight power
domains, four free lists. -/
def Obligations.EveryStepKeepsShape : Prop := ∀ s t : State, s.Shaped → step s = .next t → t.Shaped
end

