-- ==== Sys2Proof/Laws/Map.lean ====
section
/-! SUPPORT. Laws of the sparse stores: a read after a write, and that every operation keeps the canonical form. -/

namespace Sys2Proof.Machine

/-! ### A read after a write -/

@[simp] theorem Map.get_nil {α : Type} (d : α) (k : Nat) : Map.get d [] k = d := rfl

theorem Map.get_erase_self {α : Type} (d : α) (m : Map α) (k : Nat) : Map.get d (Map.erase m k) k = d := by
  induction m with
  | nil => rfl
  | cons p rest ih =>
    by_cases h : p.1 = k <;> simp_all [Map.erase, Map.get]
    intro h'; exact absurd h'.symm h

theorem Map.get_erase_ne {α : Type} (d : α) (m : Map α) {k j : Nat} (h : j ≠ k) : Map.get d (Map.erase m k) j = Map.get d m j := by
  induction m with
  | nil => rfl
  | cons p rest ih =>
    by_cases h1 : p.1 = k
    · have : j ≠ p.1 := fun e => h (e.trans h1)
      simp_all [Map.erase, Map.get]
    · simp_all [Map.erase, Map.get]

theorem Map.get_insert_self {α : Type} (d : α) (m : Map α) (k : Nat) (v : α) : Map.get d (Map.insert m k v) k = v := by
  induction m with
  | nil => simp [Map.insert, Map.get]
  | cons p rest ih =>
    simp only [Map.insert]
    split
    · simp [Map.get]
    · split
      · simp [Map.get]
      · rename_i h1 h2; simp [Map.get, h2, ih]

theorem Map.get_insert_ne {α : Type} (d : α) (m : Map α) {k j : Nat} (v : α) (h : j ≠ k) :
    Map.get d (Map.insert m k v) j = Map.get d m j := by
  induction m with
  | nil => simp [Map.insert, Map.get, h]
  | cons p rest ih =>
    simp only [Map.insert]
    split
    · simp [Map.get, h]
    · split
      · rename_i h1 h2; simp [Map.get, h, ← h2]
      · simp [Map.get, ih]

/-- What is set at a key reads back. -/
@[simp] theorem Map.get_set_self {α : Type} [DecidableEq α] (d : α) (m : Map α) (k : Nat) (v : α) :
    Map.get d (Map.set d m k v) k = v := by
  unfold Map.set
  split
  · rename_i h; rw [Map.get_erase_self, h]
  · exact Map.get_insert_self d _ k v

/-- Setting one key leaves every other key, read with any default, as it was. -/
theorem Map.get_set_ne {α : Type} [DecidableEq α] (d e : α) (m : Map α) {k j : Nat} (v : α) (h : j ≠ k) :
    Map.get e (Map.set d m k v) j = Map.get e m j := by
  unfold Map.set
  split
  · exact Map.get_erase_ne e m h
  · rw [Map.get_insert_ne e _ v h, Map.get_erase_ne e m h]

/-! ### The canonical form -/

/-- Keys strictly rising, every entry satisfying `p`. -/
def Map.canon {α : Type} (p : Nat → α → Bool) : Map α → Bool
  | [] => true
  | (k, v) :: rest => p k v && rest.all (fun q => decide (k < q.1)) && Map.canon p rest

theorem Map.canon_filter {α : Type} (p : Nat → α → Bool) (f : Nat × α → Bool) (m : Map α) (h : Map.canon p m = true) :
    Map.canon p (m.filter f) = true := by
  induction m with
  | nil => rfl
  | cons q rest ih =>
    obtain ⟨k, v⟩ := q
    simp only [Map.canon, Bool.and_eq_true, List.all_eq_true] at h
    obtain ⟨⟨hp, hk⟩, hr⟩ := h
    simp only [List.filter]
    split
    · simp only [Map.canon, Bool.and_eq_true, List.all_eq_true]
      exact ⟨⟨hp, fun x hx => hk x (List.mem_filter.mp hx).1⟩, ih hr⟩
    · exact ih hr

theorem Map.insert_all {α : Type} (m : Map α) (k : Nat) (v : α) (f : Nat × α → Bool) (hf : f (k, v) = true)
    (h : m.all f = true) : (Map.insert m k v).all f = true := by
  induction m with
  | nil => simp [Map.insert, hf]
  | cons p rest ih =>
    obtain ⟨k', v'⟩ := p
    simp only [List.all_cons, Bool.and_eq_true] at h
    simp only [Map.insert]
    split
    · simp [hf, h.1, h.2]
    · split
      · simp [hf, h.2]
      · simp [h.1, ih h.2]

theorem Map.canon_insert {α : Type} (p : Nat → α → Bool) (m : Map α) (k : Nat) (v : α) (hp : p k v = true)
    (h : Map.canon p m = true) : Map.canon p (Map.insert m k v) = true := by
  induction m with
  | nil => simp [Map.insert, Map.canon, hp]
  | cons q rest ih =>
    obtain ⟨k', v'⟩ := q
    have h0 := h
    simp only [Map.canon, Bool.and_eq_true] at h
    obtain ⟨⟨hp', hk⟩, hr⟩ := h
    simp only [Map.insert]
    split
    · rename_i hlt
      have : ((k', v') :: rest).all (fun q => decide (k < q.1)) = true := by
        simp only [List.all_cons, Bool.and_eq_true, decide_eq_true_eq, List.all_eq_true] at hk ⊢
        exact ⟨hlt, fun x hx => by have := hk x hx; omega⟩
      show (p k v && _ && Map.canon p ((k', v') :: rest)) = true
      rw [hp, this, h0]; rfl
    · split
      · rename_i h1 h2
        subst h2
        simp [Map.canon, hp, hr, hk]
      · rename_i h1 h2
        have : (Map.insert rest k v).all (fun q => decide (k' < q.1)) = true := by
          apply Map.insert_all _ _ _ _ _ hk
          simp only [decide_eq_true_eq]; omega
        simp [Map.canon, hp', this, ih hr]

theorem Map.wf_eq_canon {α : Type} [DecidableEq α] (d : α) (m : Map α) : Map.wf d m = Map.canon (fun _ v => decide (v ≠ d)) m := by
  induction m with
  | nil => rfl
  | cons q rest ih => simp [Map.wf, Map.canon, ih]

/-- `Map.set` keeps the canonical form. -/
theorem Map.wf_set {α : Type} [DecidableEq α] (d : α) (m : Map α) (k : Nat) (v : α) (h : Map.wf d m = true) :
    Map.wf d (Map.set d m k v) = true := by
  rw [Map.wf_eq_canon] at h ⊢
  unfold Map.set Map.erase
  split
  · exact Map.canon_filter _ _ m h
  · rename_i hv; exact Map.canon_insert _ _ k v (by simpa using hv) (Map.canon_filter _ _ m h)

/-- `Map.clear` keeps the canonical form. -/
theorem Map.wf_clear {α : Type} [DecidableEq α] (d : α) (m : Map α) (lo hi : Nat) (h : Map.wf d m = true) :
    Map.wf d (Map.clear m lo hi) = true := by
  rw [Map.wf_eq_canon] at h ⊢
  exact Map.canon_filter _ _ m h

/-! ### Memories -/

@[simp] theorem Memory.readByte_writeByte_self (m : Memory) (a : Nat) (b : Byte) : Memory.readByte (Memory.writeByte m a b) a = b :=
  Map.get_set_self ramDefault m a b

theorem Memory.readByte_writeByte_ne (m : Memory) {a x : Nat} (b : Byte) (h : x ≠ a) :
    Memory.readByte (Memory.writeByte m a b) x = Memory.readByte m x := Map.get_set_ne ramDefault ramDefault m b h

/-- A write leaves every byte outside it. -/
theorem Memory.readByte_write_out (m : Memory) (a x : Nat) (bs : List Byte) (h : x < a ∨ a + bs.length ≤ x) :
    Memory.readByte (Memory.write m a bs) x = Memory.readByte m x := by
  induction bs generalizing m a with
  | nil => rfl
  | cons b rest ih =>
    simp only [List.length_cons] at h
    rw [Memory.write, ih _ _ (by omega), Memory.readByte_writeByte_ne _ _ (by omega)]

/-- A write puts its bytes. -/
theorem Memory.readByte_write_in (m : Memory) (a i : Nat) (bs : List Byte) (h : i < bs.length) :
    Memory.readByte (Memory.write m a bs) (a + i) = bs[i] := by
  induction bs generalizing m a i with
  | nil => simp at h
  | cons b rest ih =>
    cases i with
    | zero => rw [Memory.write, Nat.add_zero, Memory.readByte_write_out _ _ _ _ (by omega)]; simp
    | succ i =>
      have := ih (Memory.writeByte m a b) (a + 1) i (by simpa using h)
      rw [Memory.write, show a + (i + 1) = a + 1 + i by omega, this]; rfl

/-- A write keeps the canonical form. -/
theorem Memory.wf_write (m : Memory) (a : Nat) (bs : List Byte) (h : Memory.wf m = true) : Memory.wf (Memory.write m a bs) = true := by
  induction bs generalizing m a with
  | nil => exact h
  | cons b rest ih => exact ih _ _ (Map.wf_set ramDefault m a b h)

theorem Memory.wf_writeWord (m : Memory) (a v : Nat) (h : Memory.wf m = true) : Memory.wf (Memory.writeWord m a v) = true :=
  Memory.wf_write m a _ h

/-! ### The register file -/

theorem regsWf_eq_canon (m : Map Word) : regsWf m = Map.canon (fun a v => decide (v ≠ regReset a)) m := by
  induction m with
  | nil => rfl
  | cons q rest ih => simp [regsWf, Map.canon, ih]

/-- A register write keeps the canonical form. -/
theorem regsWf_set (m : Map Word) (a : Nat) (v : Word) (h : regsWf m = true) : regsWf (Map.set (regReset a) m a v) = true := by
  rw [regsWf_eq_canon] at h ⊢
  unfold Map.set Map.erase
  split
  · exact Map.canon_filter _ _ m h
  · rename_i hv; exact Map.canon_insert _ _ a v (by simpa using hv) (Map.canon_filter _ _ m h)

/-- Removing entries keeps the canonical form. -/
theorem regsWf_filter (m : Map Word) (f : Nat × Word → Bool) (h : regsWf m = true) : regsWf (m.filter f) = true := by
  rw [regsWf_eq_canon] at h ⊢
  exact Map.canon_filter _ f m h

end Sys2Proof.Machine
end

