-- ==== Sys2Proof/Laws/State.lean ====
section
/-! SUPPORT. What each named update of the state changes and what it leaves: one lemma per field per update, and the register
file read after a write. The frame lemmas are proved by cases on the state, not by plain rfl: simp then cites them by name, and the
kernel never compares the values written. -/

namespace Sys2Proof.Machine

@[simp] theorem State.wr_pending (s : State) (a v : Nat) : (s.wr a v).pending = s.pending := by cases s; rfl
@[simp] theorem State.wr_shadow (s : State) (a v : Nat) : (s.wr a v).shadow = s.shadow := by cases s; rfl
@[simp] theorem State.wr_link (s : State) (a v : Nat) : (s.wr a v).link = s.link := by cases s; rfl
@[simp] theorem State.wr_fe (s : State) (a v : Nat) : (s.wr a v).fe = s.fe := by cases s; rfl
@[simp] theorem State.wr_cfs (s : State) (a v : Nat) : (s.wr a v).cfs = s.cfs := by cases s; rfl
@[simp] theorem State.wr_clu (s : State) (a v : Nat) : (s.wr a v).clu = s.clu := by cases s; rfl
@[simp] theorem State.wr_pres (s : State) (a v : Nat) : (s.wr a v).pres = s.pres := by cases s; rfl
@[simp] theorem State.wr_eth (s : State) (a v : Nat) : (s.wr a v).eth = s.eth := by cases s; rfl
@[simp] theorem State.wr_time (s : State) (a v : Nat) : (s.wr a v).time = s.time := by cases s; rfl
@[simp] theorem State.wr_sched (s : State) (a v : Nat) : (s.wr a v).sched = s.sched := by cases s; rfl
@[simp] theorem State.wr_nvm (s : State) (a v : Nat) : (s.wr a v).nvm = s.nvm := by cases s; rfl
@[simp] theorem State.wr_alm (s : State) (a v : Nat) : (s.wr a v).alm = s.alm := by cases s; rfl
@[simp] theorem State.wr_bist (s : State) (a v : Nat) : (s.wr a v).bist = s.bist := by cases s; rfl
@[simp] theorem State.wr_dma (s : State) (a v : Nat) : (s.wr a v).dma = s.dma := by cases s; rfl
@[simp] theorem State.wr_mgmt (s : State) (a v : Nat) : (s.wr a v).mgmt = s.mgmt := by cases s; rfl
@[simp] theorem State.wr_power (s : State) (a v : Nat) : (s.wr a v).power = s.power := by cases s; rfl
@[simp] theorem State.wr_now (s : State) (a v : Nat) : (s.wr a v).now = s.now := by cases s; rfl
@[simp] theorem State.wr_wakeAt (s : State) (a v : Nat) : (s.wr a v).wakeAt = s.wakeAt := by cases s; rfl
@[simp] theorem State.wr_position (s : State) (a v : Nat) : (s.wr a v).position = s.position := by cases s; rfl
@[simp] theorem State.wr_feOos (s : State) (a v : Nat) : (s.wr a v).feOos = s.feOos := by cases s; rfl
@[simp] theorem State.wr_dmaReq (s : State) (a v : Nat) : (s.wr a v).dmaReq = s.dmaReq := by cases s; rfl
@[simp] theorem State.wr_scripts (s : State) (a v : Nat) : (s.wr a v).scripts = s.scripts := by cases s; rfl
@[simp] theorem State.wr_free (s : State) (a v : Nat) : (s.wr a v).free = s.free := by cases s; rfl

@[simp] theorem State.putF_pending (s : State) (a lo w v : Nat) : (s.putF a lo w v).pending = s.pending := by cases s; rfl
@[simp] theorem State.putF_shadow (s : State) (a lo w v : Nat) : (s.putF a lo w v).shadow = s.shadow := by cases s; rfl
@[simp] theorem State.putF_link (s : State) (a lo w v : Nat) : (s.putF a lo w v).link = s.link := by cases s; rfl
@[simp] theorem State.putF_fe (s : State) (a lo w v : Nat) : (s.putF a lo w v).fe = s.fe := by cases s; rfl
@[simp] theorem State.putF_cfs (s : State) (a lo w v : Nat) : (s.putF a lo w v).cfs = s.cfs := by cases s; rfl
@[simp] theorem State.putF_clu (s : State) (a lo w v : Nat) : (s.putF a lo w v).clu = s.clu := by cases s; rfl
@[simp] theorem State.putF_pres (s : State) (a lo w v : Nat) : (s.putF a lo w v).pres = s.pres := by cases s; rfl
@[simp] theorem State.putF_eth (s : State) (a lo w v : Nat) : (s.putF a lo w v).eth = s.eth := by cases s; rfl
@[simp] theorem State.putF_time (s : State) (a lo w v : Nat) : (s.putF a lo w v).time = s.time := by cases s; rfl
@[simp] theorem State.putF_sched (s : State) (a lo w v : Nat) : (s.putF a lo w v).sched = s.sched := by cases s; rfl
@[simp] theorem State.putF_nvm (s : State) (a lo w v : Nat) : (s.putF a lo w v).nvm = s.nvm := by cases s; rfl
@[simp] theorem State.putF_alm (s : State) (a lo w v : Nat) : (s.putF a lo w v).alm = s.alm := by cases s; rfl
@[simp] theorem State.putF_bist (s : State) (a lo w v : Nat) : (s.putF a lo w v).bist = s.bist := by cases s; rfl
@[simp] theorem State.putF_dma (s : State) (a lo w v : Nat) : (s.putF a lo w v).dma = s.dma := by cases s; rfl
@[simp] theorem State.putF_mgmt (s : State) (a lo w v : Nat) : (s.putF a lo w v).mgmt = s.mgmt := by cases s; rfl
@[simp] theorem State.putF_power (s : State) (a lo w v : Nat) : (s.putF a lo w v).power = s.power := by cases s; rfl
@[simp] theorem State.putF_now (s : State) (a lo w v : Nat) : (s.putF a lo w v).now = s.now := by cases s; rfl
@[simp] theorem State.putF_wakeAt (s : State) (a lo w v : Nat) : (s.putF a lo w v).wakeAt = s.wakeAt := by cases s; rfl
@[simp] theorem State.putF_position (s : State) (a lo w v : Nat) : (s.putF a lo w v).position = s.position := by cases s; rfl
@[simp] theorem State.putF_feOos (s : State) (a lo w v : Nat) : (s.putF a lo w v).feOos = s.feOos := by cases s; rfl
@[simp] theorem State.putF_dmaReq (s : State) (a lo w v : Nat) : (s.putF a lo w v).dmaReq = s.dmaReq := by cases s; rfl
@[simp] theorem State.putF_scripts (s : State) (a lo w v : Nat) : (s.putF a lo w v).scripts = s.scripts := by cases s; rfl
@[simp] theorem State.putF_free (s : State) (a lo w v : Nat) : (s.putF a lo w v).free = s.free := by cases s; rfl

@[simp] theorem State.setBit_pending (s : State) (a i : Nat) : (s.setBit a i).pending = s.pending := by cases s; rfl
@[simp] theorem State.setBit_shadow (s : State) (a i : Nat) : (s.setBit a i).shadow = s.shadow := by cases s; rfl
@[simp] theorem State.setBit_link (s : State) (a i : Nat) : (s.setBit a i).link = s.link := by cases s; rfl
@[simp] theorem State.setBit_fe (s : State) (a i : Nat) : (s.setBit a i).fe = s.fe := by cases s; rfl
@[simp] theorem State.setBit_cfs (s : State) (a i : Nat) : (s.setBit a i).cfs = s.cfs := by cases s; rfl
@[simp] theorem State.setBit_clu (s : State) (a i : Nat) : (s.setBit a i).clu = s.clu := by cases s; rfl
@[simp] theorem State.setBit_pres (s : State) (a i : Nat) : (s.setBit a i).pres = s.pres := by cases s; rfl
@[simp] theorem State.setBit_eth (s : State) (a i : Nat) : (s.setBit a i).eth = s.eth := by cases s; rfl
@[simp] theorem State.setBit_time (s : State) (a i : Nat) : (s.setBit a i).time = s.time := by cases s; rfl
@[simp] theorem State.setBit_sched (s : State) (a i : Nat) : (s.setBit a i).sched = s.sched := by cases s; rfl
@[simp] theorem State.setBit_nvm (s : State) (a i : Nat) : (s.setBit a i).nvm = s.nvm := by cases s; rfl
@[simp] theorem State.setBit_alm (s : State) (a i : Nat) : (s.setBit a i).alm = s.alm := by cases s; rfl
@[simp] theorem State.setBit_bist (s : State) (a i : Nat) : (s.setBit a i).bist = s.bist := by cases s; rfl
@[simp] theorem State.setBit_dma (s : State) (a i : Nat) : (s.setBit a i).dma = s.dma := by cases s; rfl
@[simp] theorem State.setBit_mgmt (s : State) (a i : Nat) : (s.setBit a i).mgmt = s.mgmt := by cases s; rfl
@[simp] theorem State.setBit_power (s : State) (a i : Nat) : (s.setBit a i).power = s.power := by cases s; rfl
@[simp] theorem State.setBit_now (s : State) (a i : Nat) : (s.setBit a i).now = s.now := by cases s; rfl
@[simp] theorem State.setBit_wakeAt (s : State) (a i : Nat) : (s.setBit a i).wakeAt = s.wakeAt := by cases s; rfl
@[simp] theorem State.setBit_position (s : State) (a i : Nat) : (s.setBit a i).position = s.position := by cases s; rfl
@[simp] theorem State.setBit_feOos (s : State) (a i : Nat) : (s.setBit a i).feOos = s.feOos := by cases s; rfl
@[simp] theorem State.setBit_dmaReq (s : State) (a i : Nat) : (s.setBit a i).dmaReq = s.dmaReq := by cases s; rfl
@[simp] theorem State.setBit_scripts (s : State) (a i : Nat) : (s.setBit a i).scripts = s.scripts := by cases s; rfl
@[simp] theorem State.setBit_free (s : State) (a i : Nat) : (s.setBit a i).free = s.free := by cases s; rfl

@[simp] theorem State.clrBit_pending (s : State) (a i : Nat) : (s.clrBit a i).pending = s.pending := by cases s; rfl
@[simp] theorem State.clrBit_shadow (s : State) (a i : Nat) : (s.clrBit a i).shadow = s.shadow := by cases s; rfl
@[simp] theorem State.clrBit_link (s : State) (a i : Nat) : (s.clrBit a i).link = s.link := by cases s; rfl
@[simp] theorem State.clrBit_fe (s : State) (a i : Nat) : (s.clrBit a i).fe = s.fe := by cases s; rfl
@[simp] theorem State.clrBit_cfs (s : State) (a i : Nat) : (s.clrBit a i).cfs = s.cfs := by cases s; rfl
@[simp] theorem State.clrBit_clu (s : State) (a i : Nat) : (s.clrBit a i).clu = s.clu := by cases s; rfl
@[simp] theorem State.clrBit_pres (s : State) (a i : Nat) : (s.clrBit a i).pres = s.pres := by cases s; rfl
@[simp] theorem State.clrBit_eth (s : State) (a i : Nat) : (s.clrBit a i).eth = s.eth := by cases s; rfl
@[simp] theorem State.clrBit_time (s : State) (a i : Nat) : (s.clrBit a i).time = s.time := by cases s; rfl
@[simp] theorem State.clrBit_sched (s : State) (a i : Nat) : (s.clrBit a i).sched = s.sched := by cases s; rfl
@[simp] theorem State.clrBit_nvm (s : State) (a i : Nat) : (s.clrBit a i).nvm = s.nvm := by cases s; rfl
@[simp] theorem State.clrBit_alm (s : State) (a i : Nat) : (s.clrBit a i).alm = s.alm := by cases s; rfl
@[simp] theorem State.clrBit_bist (s : State) (a i : Nat) : (s.clrBit a i).bist = s.bist := by cases s; rfl
@[simp] theorem State.clrBit_dma (s : State) (a i : Nat) : (s.clrBit a i).dma = s.dma := by cases s; rfl
@[simp] theorem State.clrBit_mgmt (s : State) (a i : Nat) : (s.clrBit a i).mgmt = s.mgmt := by cases s; rfl
@[simp] theorem State.clrBit_power (s : State) (a i : Nat) : (s.clrBit a i).power = s.power := by cases s; rfl
@[simp] theorem State.clrBit_now (s : State) (a i : Nat) : (s.clrBit a i).now = s.now := by cases s; rfl
@[simp] theorem State.clrBit_wakeAt (s : State) (a i : Nat) : (s.clrBit a i).wakeAt = s.wakeAt := by cases s; rfl
@[simp] theorem State.clrBit_position (s : State) (a i : Nat) : (s.clrBit a i).position = s.position := by cases s; rfl
@[simp] theorem State.clrBit_feOos (s : State) (a i : Nat) : (s.clrBit a i).feOos = s.feOos := by cases s; rfl
@[simp] theorem State.clrBit_dmaReq (s : State) (a i : Nat) : (s.clrBit a i).dmaReq = s.dmaReq := by cases s; rfl
@[simp] theorem State.clrBit_scripts (s : State) (a i : Nat) : (s.clrBit a i).scripts = s.scripts := by cases s; rfl
@[simp] theorem State.clrBit_free (s : State) (a i : Nat) : (s.clrBit a i).free = s.free := by cases s; rfl

@[simp] theorem State.putBit_pending (s : State) (a i : Nat) (b : Bool) : (s.putBit a i b).pending = s.pending := by cases s; rfl
@[simp] theorem State.putBit_shadow (s : State) (a i : Nat) (b : Bool) : (s.putBit a i b).shadow = s.shadow := by cases s; rfl
@[simp] theorem State.putBit_link (s : State) (a i : Nat) (b : Bool) : (s.putBit a i b).link = s.link := by cases s; rfl
@[simp] theorem State.putBit_fe (s : State) (a i : Nat) (b : Bool) : (s.putBit a i b).fe = s.fe := by cases s; rfl
@[simp] theorem State.putBit_cfs (s : State) (a i : Nat) (b : Bool) : (s.putBit a i b).cfs = s.cfs := by cases s; rfl
@[simp] theorem State.putBit_clu (s : State) (a i : Nat) (b : Bool) : (s.putBit a i b).clu = s.clu := by cases s; rfl
@[simp] theorem State.putBit_pres (s : State) (a i : Nat) (b : Bool) : (s.putBit a i b).pres = s.pres := by cases s; rfl
@[simp] theorem State.putBit_eth (s : State) (a i : Nat) (b : Bool) : (s.putBit a i b).eth = s.eth := by cases s; rfl
@[simp] theorem State.putBit_time (s : State) (a i : Nat) (b : Bool) : (s.putBit a i b).time = s.time := by cases s; rfl
@[simp] theorem State.putBit_sched (s : State) (a i : Nat) (b : Bool) : (s.putBit a i b).sched = s.sched := by cases s; rfl
@[simp] theorem State.putBit_nvm (s : State) (a i : Nat) (b : Bool) : (s.putBit a i b).nvm = s.nvm := by cases s; rfl
@[simp] theorem State.putBit_alm (s : State) (a i : Nat) (b : Bool) : (s.putBit a i b).alm = s.alm := by cases s; rfl
@[simp] theorem State.putBit_bist (s : State) (a i : Nat) (b : Bool) : (s.putBit a i b).bist = s.bist := by cases s; rfl
@[simp] theorem State.putBit_dma (s : State) (a i : Nat) (b : Bool) : (s.putBit a i b).dma = s.dma := by cases s; rfl
@[simp] theorem State.putBit_mgmt (s : State) (a i : Nat) (b : Bool) : (s.putBit a i b).mgmt = s.mgmt := by cases s; rfl
@[simp] theorem State.putBit_power (s : State) (a i : Nat) (b : Bool) : (s.putBit a i b).power = s.power := by cases s; rfl
@[simp] theorem State.putBit_now (s : State) (a i : Nat) (b : Bool) : (s.putBit a i b).now = s.now := by cases s; rfl
@[simp] theorem State.putBit_wakeAt (s : State) (a i : Nat) (b : Bool) : (s.putBit a i b).wakeAt = s.wakeAt := by cases s; rfl
@[simp] theorem State.putBit_position (s : State) (a i : Nat) (b : Bool) : (s.putBit a i b).position = s.position := by cases s; rfl
@[simp] theorem State.putBit_feOos (s : State) (a i : Nat) (b : Bool) : (s.putBit a i b).feOos = s.feOos := by cases s; rfl
@[simp] theorem State.putBit_dmaReq (s : State) (a i : Nat) (b : Bool) : (s.putBit a i b).dmaReq = s.dmaReq := by cases s; rfl
@[simp] theorem State.putBit_scripts (s : State) (a i : Nat) (b : Bool) : (s.putBit a i b).scripts = s.scripts := by cases s; rfl
@[simp] theorem State.putBit_free (s : State) (a i : Nat) (b : Bool) : (s.putBit a i b).free = s.free := by cases s; rfl

@[simp] theorem State.incBy_pending (s : State) (a k : Nat) : (s.incBy a k).pending = s.pending := by cases s; rfl
@[simp] theorem State.incBy_shadow (s : State) (a k : Nat) : (s.incBy a k).shadow = s.shadow := by cases s; rfl
@[simp] theorem State.incBy_link (s : State) (a k : Nat) : (s.incBy a k).link = s.link := by cases s; rfl
@[simp] theorem State.incBy_fe (s : State) (a k : Nat) : (s.incBy a k).fe = s.fe := by cases s; rfl
@[simp] theorem State.incBy_cfs (s : State) (a k : Nat) : (s.incBy a k).cfs = s.cfs := by cases s; rfl
@[simp] theorem State.incBy_clu (s : State) (a k : Nat) : (s.incBy a k).clu = s.clu := by cases s; rfl
@[simp] theorem State.incBy_pres (s : State) (a k : Nat) : (s.incBy a k).pres = s.pres := by cases s; rfl
@[simp] theorem State.incBy_eth (s : State) (a k : Nat) : (s.incBy a k).eth = s.eth := by cases s; rfl
@[simp] theorem State.incBy_time (s : State) (a k : Nat) : (s.incBy a k).time = s.time := by cases s; rfl
@[simp] theorem State.incBy_sched (s : State) (a k : Nat) : (s.incBy a k).sched = s.sched := by cases s; rfl
@[simp] theorem State.incBy_nvm (s : State) (a k : Nat) : (s.incBy a k).nvm = s.nvm := by cases s; rfl
@[simp] theorem State.incBy_alm (s : State) (a k : Nat) : (s.incBy a k).alm = s.alm := by cases s; rfl
@[simp] theorem State.incBy_bist (s : State) (a k : Nat) : (s.incBy a k).bist = s.bist := by cases s; rfl
@[simp] theorem State.incBy_dma (s : State) (a k : Nat) : (s.incBy a k).dma = s.dma := by cases s; rfl
@[simp] theorem State.incBy_mgmt (s : State) (a k : Nat) : (s.incBy a k).mgmt = s.mgmt := by cases s; rfl
@[simp] theorem State.incBy_power (s : State) (a k : Nat) : (s.incBy a k).power = s.power := by cases s; rfl
@[simp] theorem State.incBy_now (s : State) (a k : Nat) : (s.incBy a k).now = s.now := by cases s; rfl
@[simp] theorem State.incBy_wakeAt (s : State) (a k : Nat) : (s.incBy a k).wakeAt = s.wakeAt := by cases s; rfl
@[simp] theorem State.incBy_position (s : State) (a k : Nat) : (s.incBy a k).position = s.position := by cases s; rfl
@[simp] theorem State.incBy_feOos (s : State) (a k : Nat) : (s.incBy a k).feOos = s.feOos := by cases s; rfl
@[simp] theorem State.incBy_dmaReq (s : State) (a k : Nat) : (s.incBy a k).dmaReq = s.dmaReq := by cases s; rfl
@[simp] theorem State.incBy_scripts (s : State) (a k : Nat) : (s.incBy a k).scripts = s.scripts := by cases s; rfl
@[simp] theorem State.incBy_free (s : State) (a k : Nat) : (s.incBy a k).free = s.free := by cases s; rfl

@[simp] theorem State.inc_pending (s : State) (a : Nat) : (s.inc a).pending = s.pending := by cases s; rfl
@[simp] theorem State.inc_shadow (s : State) (a : Nat) : (s.inc a).shadow = s.shadow := by cases s; rfl
@[simp] theorem State.inc_link (s : State) (a : Nat) : (s.inc a).link = s.link := by cases s; rfl
@[simp] theorem State.inc_fe (s : State) (a : Nat) : (s.inc a).fe = s.fe := by cases s; rfl
@[simp] theorem State.inc_cfs (s : State) (a : Nat) : (s.inc a).cfs = s.cfs := by cases s; rfl
@[simp] theorem State.inc_clu (s : State) (a : Nat) : (s.inc a).clu = s.clu := by cases s; rfl
@[simp] theorem State.inc_pres (s : State) (a : Nat) : (s.inc a).pres = s.pres := by cases s; rfl
@[simp] theorem State.inc_eth (s : State) (a : Nat) : (s.inc a).eth = s.eth := by cases s; rfl
@[simp] theorem State.inc_time (s : State) (a : Nat) : (s.inc a).time = s.time := by cases s; rfl
@[simp] theorem State.inc_sched (s : State) (a : Nat) : (s.inc a).sched = s.sched := by cases s; rfl
@[simp] theorem State.inc_nvm (s : State) (a : Nat) : (s.inc a).nvm = s.nvm := by cases s; rfl
@[simp] theorem State.inc_alm (s : State) (a : Nat) : (s.inc a).alm = s.alm := by cases s; rfl
@[simp] theorem State.inc_bist (s : State) (a : Nat) : (s.inc a).bist = s.bist := by cases s; rfl
@[simp] theorem State.inc_dma (s : State) (a : Nat) : (s.inc a).dma = s.dma := by cases s; rfl
@[simp] theorem State.inc_mgmt (s : State) (a : Nat) : (s.inc a).mgmt = s.mgmt := by cases s; rfl
@[simp] theorem State.inc_power (s : State) (a : Nat) : (s.inc a).power = s.power := by cases s; rfl
@[simp] theorem State.inc_now (s : State) (a : Nat) : (s.inc a).now = s.now := by cases s; rfl
@[simp] theorem State.inc_wakeAt (s : State) (a : Nat) : (s.inc a).wakeAt = s.wakeAt := by cases s; rfl
@[simp] theorem State.inc_position (s : State) (a : Nat) : (s.inc a).position = s.position := by cases s; rfl
@[simp] theorem State.inc_feOos (s : State) (a : Nat) : (s.inc a).feOos = s.feOos := by cases s; rfl
@[simp] theorem State.inc_dmaReq (s : State) (a : Nat) : (s.inc a).dmaReq = s.dmaReq := by cases s; rfl
@[simp] theorem State.inc_scripts (s : State) (a : Nat) : (s.inc a).scripts = s.scripts := by cases s; rfl
@[simp] theorem State.inc_free (s : State) (a : Nat) : (s.inc a).free = s.free := by cases s; rfl

@[simp] theorem State.setLnk_pending (s : State) (n : Nat) (l : LinkState) : (s.setLnk n l).pending = s.pending := by cases s; rfl
@[simp] theorem State.setLnk_regs (s : State) (n : Nat) (l : LinkState) : (s.setLnk n l).regs = s.regs := by cases s; rfl
@[simp] theorem State.setLnk_shadow (s : State) (n : Nat) (l : LinkState) : (s.setLnk n l).shadow = s.shadow := by cases s; rfl
@[simp] theorem State.setLnk_fe (s : State) (n : Nat) (l : LinkState) : (s.setLnk n l).fe = s.fe := by cases s; rfl
@[simp] theorem State.setLnk_cfs (s : State) (n : Nat) (l : LinkState) : (s.setLnk n l).cfs = s.cfs := by cases s; rfl
@[simp] theorem State.setLnk_clu (s : State) (n : Nat) (l : LinkState) : (s.setLnk n l).clu = s.clu := by cases s; rfl
@[simp] theorem State.setLnk_pres (s : State) (n : Nat) (l : LinkState) : (s.setLnk n l).pres = s.pres := by cases s; rfl
@[simp] theorem State.setLnk_eth (s : State) (n : Nat) (l : LinkState) : (s.setLnk n l).eth = s.eth := by cases s; rfl
@[simp] theorem State.setLnk_time (s : State) (n : Nat) (l : LinkState) : (s.setLnk n l).time = s.time := by cases s; rfl
@[simp] theorem State.setLnk_sched (s : State) (n : Nat) (l : LinkState) : (s.setLnk n l).sched = s.sched := by cases s; rfl
@[simp] theorem State.setLnk_nvm (s : State) (n : Nat) (l : LinkState) : (s.setLnk n l).nvm = s.nvm := by cases s; rfl
@[simp] theorem State.setLnk_alm (s : State) (n : Nat) (l : LinkState) : (s.setLnk n l).alm = s.alm := by cases s; rfl
@[simp] theorem State.setLnk_bist (s : State) (n : Nat) (l : LinkState) : (s.setLnk n l).bist = s.bist := by cases s; rfl
@[simp] theorem State.setLnk_dma (s : State) (n : Nat) (l : LinkState) : (s.setLnk n l).dma = s.dma := by cases s; rfl
@[simp] theorem State.setLnk_mgmt (s : State) (n : Nat) (l : LinkState) : (s.setLnk n l).mgmt = s.mgmt := by cases s; rfl
@[simp] theorem State.setLnk_power (s : State) (n : Nat) (l : LinkState) : (s.setLnk n l).power = s.power := by cases s; rfl
@[simp] theorem State.setLnk_now (s : State) (n : Nat) (l : LinkState) : (s.setLnk n l).now = s.now := by cases s; rfl
@[simp] theorem State.setLnk_wakeAt (s : State) (n : Nat) (l : LinkState) : (s.setLnk n l).wakeAt = s.wakeAt := by cases s; rfl
@[simp] theorem State.setLnk_position (s : State) (n : Nat) (l : LinkState) : (s.setLnk n l).position = s.position := by cases s; rfl
@[simp] theorem State.setLnk_feOos (s : State) (n : Nat) (l : LinkState) : (s.setLnk n l).feOos = s.feOos := by cases s; rfl
@[simp] theorem State.setLnk_dmaReq (s : State) (n : Nat) (l : LinkState) : (s.setLnk n l).dmaReq = s.dmaReq := by cases s; rfl
@[simp] theorem State.setLnk_scripts (s : State) (n : Nat) (l : LinkState) : (s.setLnk n l).scripts = s.scripts := by cases s; rfl
@[simp] theorem State.setLnk_free (s : State) (n : Nat) (l : LinkState) : (s.setLnk n l).free = s.free := by cases s; rfl

@[simp] theorem State.modLnk_pending (s : State) (n : Nat) (f : LinkState → LinkState) : (s.modLnk n f).pending = s.pending := by cases s; rfl
@[simp] theorem State.modLnk_regs (s : State) (n : Nat) (f : LinkState → LinkState) : (s.modLnk n f).regs = s.regs := by cases s; rfl
@[simp] theorem State.modLnk_shadow (s : State) (n : Nat) (f : LinkState → LinkState) : (s.modLnk n f).shadow = s.shadow := by cases s; rfl
@[simp] theorem State.modLnk_fe (s : State) (n : Nat) (f : LinkState → LinkState) : (s.modLnk n f).fe = s.fe := by cases s; rfl
@[simp] theorem State.modLnk_cfs (s : State) (n : Nat) (f : LinkState → LinkState) : (s.modLnk n f).cfs = s.cfs := by cases s; rfl
@[simp] theorem State.modLnk_clu (s : State) (n : Nat) (f : LinkState → LinkState) : (s.modLnk n f).clu = s.clu := by cases s; rfl
@[simp] theorem State.modLnk_pres (s : State) (n : Nat) (f : LinkState → LinkState) : (s.modLnk n f).pres = s.pres := by cases s; rfl
@[simp] theorem State.modLnk_eth (s : State) (n : Nat) (f : LinkState → LinkState) : (s.modLnk n f).eth = s.eth := by cases s; rfl
@[simp] theorem State.modLnk_time (s : State) (n : Nat) (f : LinkState → LinkState) : (s.modLnk n f).time = s.time := by cases s; rfl
@[simp] theorem State.modLnk_sched (s : State) (n : Nat) (f : LinkState → LinkState) : (s.modLnk n f).sched = s.sched := by cases s; rfl
@[simp] theorem State.modLnk_nvm (s : State) (n : Nat) (f : LinkState → LinkState) : (s.modLnk n f).nvm = s.nvm := by cases s; rfl
@[simp] theorem State.modLnk_alm (s : State) (n : Nat) (f : LinkState → LinkState) : (s.modLnk n f).alm = s.alm := by cases s; rfl
@[simp] theorem State.modLnk_bist (s : State) (n : Nat) (f : LinkState → LinkState) : (s.modLnk n f).bist = s.bist := by cases s; rfl
@[simp] theorem State.modLnk_dma (s : State) (n : Nat) (f : LinkState → LinkState) : (s.modLnk n f).dma = s.dma := by cases s; rfl
@[simp] theorem State.modLnk_mgmt (s : State) (n : Nat) (f : LinkState → LinkState) : (s.modLnk n f).mgmt = s.mgmt := by cases s; rfl
@[simp] theorem State.modLnk_power (s : State) (n : Nat) (f : LinkState → LinkState) : (s.modLnk n f).power = s.power := by cases s; rfl
@[simp] theorem State.modLnk_now (s : State) (n : Nat) (f : LinkState → LinkState) : (s.modLnk n f).now = s.now := by cases s; rfl
@[simp] theorem State.modLnk_wakeAt (s : State) (n : Nat) (f : LinkState → LinkState) : (s.modLnk n f).wakeAt = s.wakeAt := by cases s; rfl
@[simp] theorem State.modLnk_position (s : State) (n : Nat) (f : LinkState → LinkState) : (s.modLnk n f).position = s.position := by cases s; rfl
@[simp] theorem State.modLnk_feOos (s : State) (n : Nat) (f : LinkState → LinkState) : (s.modLnk n f).feOos = s.feOos := by cases s; rfl
@[simp] theorem State.modLnk_dmaReq (s : State) (n : Nat) (f : LinkState → LinkState) : (s.modLnk n f).dmaReq = s.dmaReq := by cases s; rfl
@[simp] theorem State.modLnk_scripts (s : State) (n : Nat) (f : LinkState → LinkState) : (s.modLnk n f).scripts = s.scripts := by cases s; rfl
@[simp] theorem State.modLnk_free (s : State) (n : Nat) (f : LinkState → LinkState) : (s.modLnk n f).free = s.free := by cases s; rfl

@[simp] theorem State.setFe_pending (s : State) (n : Nat) (x : FeState) : (s.setFe n x).pending = s.pending := by cases s; rfl
@[simp] theorem State.setFe_regs (s : State) (n : Nat) (x : FeState) : (s.setFe n x).regs = s.regs := by cases s; rfl
@[simp] theorem State.setFe_shadow (s : State) (n : Nat) (x : FeState) : (s.setFe n x).shadow = s.shadow := by cases s; rfl
@[simp] theorem State.setFe_link (s : State) (n : Nat) (x : FeState) : (s.setFe n x).link = s.link := by cases s; rfl
@[simp] theorem State.setFe_cfs (s : State) (n : Nat) (x : FeState) : (s.setFe n x).cfs = s.cfs := by cases s; rfl
@[simp] theorem State.setFe_clu (s : State) (n : Nat) (x : FeState) : (s.setFe n x).clu = s.clu := by cases s; rfl
@[simp] theorem State.setFe_pres (s : State) (n : Nat) (x : FeState) : (s.setFe n x).pres = s.pres := by cases s; rfl
@[simp] theorem State.setFe_eth (s : State) (n : Nat) (x : FeState) : (s.setFe n x).eth = s.eth := by cases s; rfl
@[simp] theorem State.setFe_time (s : State) (n : Nat) (x : FeState) : (s.setFe n x).time = s.time := by cases s; rfl
@[simp] theorem State.setFe_sched (s : State) (n : Nat) (x : FeState) : (s.setFe n x).sched = s.sched := by cases s; rfl
@[simp] theorem State.setFe_nvm (s : State) (n : Nat) (x : FeState) : (s.setFe n x).nvm = s.nvm := by cases s; rfl
@[simp] theorem State.setFe_alm (s : State) (n : Nat) (x : FeState) : (s.setFe n x).alm = s.alm := by cases s; rfl
@[simp] theorem State.setFe_bist (s : State) (n : Nat) (x : FeState) : (s.setFe n x).bist = s.bist := by cases s; rfl
@[simp] theorem State.setFe_dma (s : State) (n : Nat) (x : FeState) : (s.setFe n x).dma = s.dma := by cases s; rfl
@[simp] theorem State.setFe_mgmt (s : State) (n : Nat) (x : FeState) : (s.setFe n x).mgmt = s.mgmt := by cases s; rfl
@[simp] theorem State.setFe_power (s : State) (n : Nat) (x : FeState) : (s.setFe n x).power = s.power := by cases s; rfl
@[simp] theorem State.setFe_now (s : State) (n : Nat) (x : FeState) : (s.setFe n x).now = s.now := by cases s; rfl
@[simp] theorem State.setFe_wakeAt (s : State) (n : Nat) (x : FeState) : (s.setFe n x).wakeAt = s.wakeAt := by cases s; rfl
@[simp] theorem State.setFe_position (s : State) (n : Nat) (x : FeState) : (s.setFe n x).position = s.position := by cases s; rfl
@[simp] theorem State.setFe_feOos (s : State) (n : Nat) (x : FeState) : (s.setFe n x).feOos = s.feOos := by cases s; rfl
@[simp] theorem State.setFe_dmaReq (s : State) (n : Nat) (x : FeState) : (s.setFe n x).dmaReq = s.dmaReq := by cases s; rfl
@[simp] theorem State.setFe_scripts (s : State) (n : Nat) (x : FeState) : (s.setFe n x).scripts = s.scripts := by cases s; rfl
@[simp] theorem State.setFe_free (s : State) (n : Nat) (x : FeState) : (s.setFe n x).free = s.free := by cases s; rfl

@[simp] theorem State.modFe_pending (s : State) (n : Nat) (f : FeState → FeState) : (s.modFe n f).pending = s.pending := by cases s; rfl
@[simp] theorem State.modFe_regs (s : State) (n : Nat) (f : FeState → FeState) : (s.modFe n f).regs = s.regs := by cases s; rfl
@[simp] theorem State.modFe_shadow (s : State) (n : Nat) (f : FeState → FeState) : (s.modFe n f).shadow = s.shadow := by cases s; rfl
@[simp] theorem State.modFe_link (s : State) (n : Nat) (f : FeState → FeState) : (s.modFe n f).link = s.link := by cases s; rfl
@[simp] theorem State.modFe_cfs (s : State) (n : Nat) (f : FeState → FeState) : (s.modFe n f).cfs = s.cfs := by cases s; rfl
@[simp] theorem State.modFe_clu (s : State) (n : Nat) (f : FeState → FeState) : (s.modFe n f).clu = s.clu := by cases s; rfl
@[simp] theorem State.modFe_pres (s : State) (n : Nat) (f : FeState → FeState) : (s.modFe n f).pres = s.pres := by cases s; rfl
@[simp] theorem State.modFe_eth (s : State) (n : Nat) (f : FeState → FeState) : (s.modFe n f).eth = s.eth := by cases s; rfl
@[simp] theorem State.modFe_time (s : State) (n : Nat) (f : FeState → FeState) : (s.modFe n f).time = s.time := by cases s; rfl
@[simp] theorem State.modFe_sched (s : State) (n : Nat) (f : FeState → FeState) : (s.modFe n f).sched = s.sched := by cases s; rfl
@[simp] theorem State.modFe_nvm (s : State) (n : Nat) (f : FeState → FeState) : (s.modFe n f).nvm = s.nvm := by cases s; rfl
@[simp] theorem State.modFe_alm (s : State) (n : Nat) (f : FeState → FeState) : (s.modFe n f).alm = s.alm := by cases s; rfl
@[simp] theorem State.modFe_bist (s : State) (n : Nat) (f : FeState → FeState) : (s.modFe n f).bist = s.bist := by cases s; rfl
@[simp] theorem State.modFe_dma (s : State) (n : Nat) (f : FeState → FeState) : (s.modFe n f).dma = s.dma := by cases s; rfl
@[simp] theorem State.modFe_mgmt (s : State) (n : Nat) (f : FeState → FeState) : (s.modFe n f).mgmt = s.mgmt := by cases s; rfl
@[simp] theorem State.modFe_power (s : State) (n : Nat) (f : FeState → FeState) : (s.modFe n f).power = s.power := by cases s; rfl
@[simp] theorem State.modFe_now (s : State) (n : Nat) (f : FeState → FeState) : (s.modFe n f).now = s.now := by cases s; rfl
@[simp] theorem State.modFe_wakeAt (s : State) (n : Nat) (f : FeState → FeState) : (s.modFe n f).wakeAt = s.wakeAt := by cases s; rfl
@[simp] theorem State.modFe_position (s : State) (n : Nat) (f : FeState → FeState) : (s.modFe n f).position = s.position := by cases s; rfl
@[simp] theorem State.modFe_feOos (s : State) (n : Nat) (f : FeState → FeState) : (s.modFe n f).feOos = s.feOos := by cases s; rfl
@[simp] theorem State.modFe_dmaReq (s : State) (n : Nat) (f : FeState → FeState) : (s.modFe n f).dmaReq = s.dmaReq := by cases s; rfl
@[simp] theorem State.modFe_scripts (s : State) (n : Nat) (f : FeState → FeState) : (s.modFe n f).scripts = s.scripts := by cases s; rfl
@[simp] theorem State.modFe_free (s : State) (n : Nat) (f : FeState → FeState) : (s.modFe n f).free = s.free := by cases s; rfl

@[simp] theorem State.setSh_pending (s : State) (a v : Nat) : (s.setSh a v).pending = s.pending := by cases s; rfl
@[simp] theorem State.setSh_regs (s : State) (a v : Nat) : (s.setSh a v).regs = s.regs := by cases s; rfl
@[simp] theorem State.setSh_link (s : State) (a v : Nat) : (s.setSh a v).link = s.link := by cases s; rfl
@[simp] theorem State.setSh_fe (s : State) (a v : Nat) : (s.setSh a v).fe = s.fe := by cases s; rfl
@[simp] theorem State.setSh_cfs (s : State) (a v : Nat) : (s.setSh a v).cfs = s.cfs := by cases s; rfl
@[simp] theorem State.setSh_clu (s : State) (a v : Nat) : (s.setSh a v).clu = s.clu := by cases s; rfl
@[simp] theorem State.setSh_pres (s : State) (a v : Nat) : (s.setSh a v).pres = s.pres := by cases s; rfl
@[simp] theorem State.setSh_eth (s : State) (a v : Nat) : (s.setSh a v).eth = s.eth := by cases s; rfl
@[simp] theorem State.setSh_time (s : State) (a v : Nat) : (s.setSh a v).time = s.time := by cases s; rfl
@[simp] theorem State.setSh_sched (s : State) (a v : Nat) : (s.setSh a v).sched = s.sched := by cases s; rfl
@[simp] theorem State.setSh_nvm (s : State) (a v : Nat) : (s.setSh a v).nvm = s.nvm := by cases s; rfl
@[simp] theorem State.setSh_alm (s : State) (a v : Nat) : (s.setSh a v).alm = s.alm := by cases s; rfl
@[simp] theorem State.setSh_bist (s : State) (a v : Nat) : (s.setSh a v).bist = s.bist := by cases s; rfl
@[simp] theorem State.setSh_dma (s : State) (a v : Nat) : (s.setSh a v).dma = s.dma := by cases s; rfl
@[simp] theorem State.setSh_mgmt (s : State) (a v : Nat) : (s.setSh a v).mgmt = s.mgmt := by cases s; rfl
@[simp] theorem State.setSh_power (s : State) (a v : Nat) : (s.setSh a v).power = s.power := by cases s; rfl
@[simp] theorem State.setSh_now (s : State) (a v : Nat) : (s.setSh a v).now = s.now := by cases s; rfl
@[simp] theorem State.setSh_wakeAt (s : State) (a v : Nat) : (s.setSh a v).wakeAt = s.wakeAt := by cases s; rfl
@[simp] theorem State.setSh_position (s : State) (a v : Nat) : (s.setSh a v).position = s.position := by cases s; rfl
@[simp] theorem State.setSh_feOos (s : State) (a v : Nat) : (s.setSh a v).feOos = s.feOos := by cases s; rfl
@[simp] theorem State.setSh_dmaReq (s : State) (a v : Nat) : (s.setSh a v).dmaReq = s.dmaReq := by cases s; rfl
@[simp] theorem State.setSh_scripts (s : State) (a v : Nat) : (s.setSh a v).scripts = s.scripts := by cases s; rfl
@[simp] theorem State.setSh_free (s : State) (a v : Nat) : (s.setSh a v).free = s.free := by cases s; rfl

@[simp] theorem State.report_pending (s : State) (c : Nat) (d : List Byte) : (s.report c d).pending = s.pending := by cases s; rfl
@[simp] theorem State.report_regs (s : State) (c : Nat) (d : List Byte) : (s.report c d).regs = s.regs := by cases s; rfl
@[simp] theorem State.report_shadow (s : State) (c : Nat) (d : List Byte) : (s.report c d).shadow = s.shadow := by cases s; rfl
@[simp] theorem State.report_link (s : State) (c : Nat) (d : List Byte) : (s.report c d).link = s.link := by cases s; rfl
@[simp] theorem State.report_fe (s : State) (c : Nat) (d : List Byte) : (s.report c d).fe = s.fe := by cases s; rfl
@[simp] theorem State.report_cfs (s : State) (c : Nat) (d : List Byte) : (s.report c d).cfs = s.cfs := by cases s; rfl
@[simp] theorem State.report_clu (s : State) (c : Nat) (d : List Byte) : (s.report c d).clu = s.clu := by cases s; rfl
@[simp] theorem State.report_pres (s : State) (c : Nat) (d : List Byte) : (s.report c d).pres = s.pres := by cases s; rfl
@[simp] theorem State.report_eth (s : State) (c : Nat) (d : List Byte) : (s.report c d).eth = s.eth := by cases s; rfl
@[simp] theorem State.report_time (s : State) (c : Nat) (d : List Byte) : (s.report c d).time = s.time := by cases s; rfl
@[simp] theorem State.report_sched (s : State) (c : Nat) (d : List Byte) : (s.report c d).sched = s.sched := by cases s; rfl
@[simp] theorem State.report_nvm (s : State) (c : Nat) (d : List Byte) : (s.report c d).nvm = s.nvm := by cases s; rfl
@[simp] theorem State.report_alm (s : State) (c : Nat) (d : List Byte) : (s.report c d).alm = s.alm := by cases s; rfl
@[simp] theorem State.report_bist (s : State) (c : Nat) (d : List Byte) : (s.report c d).bist = s.bist := by cases s; rfl
@[simp] theorem State.report_dma (s : State) (c : Nat) (d : List Byte) : (s.report c d).dma = s.dma := by cases s; rfl
@[simp] theorem State.report_power (s : State) (c : Nat) (d : List Byte) : (s.report c d).power = s.power := by cases s; rfl
@[simp] theorem State.report_now (s : State) (c : Nat) (d : List Byte) : (s.report c d).now = s.now := by cases s; rfl
@[simp] theorem State.report_wakeAt (s : State) (c : Nat) (d : List Byte) : (s.report c d).wakeAt = s.wakeAt := by cases s; rfl
@[simp] theorem State.report_position (s : State) (c : Nat) (d : List Byte) : (s.report c d).position = s.position := by cases s; rfl
@[simp] theorem State.report_feOos (s : State) (c : Nat) (d : List Byte) : (s.report c d).feOos = s.feOos := by cases s; rfl
@[simp] theorem State.report_dmaReq (s : State) (c : Nat) (d : List Byte) : (s.report c d).dmaReq = s.dmaReq := by cases s; rfl
@[simp] theorem State.report_scripts (s : State) (c : Nat) (d : List Byte) : (s.report c d).scripts = s.scripts := by cases s; rfl
@[simp] theorem State.report_free (s : State) (c : Nat) (d : List Byte) : (s.report c d).free = s.free := by cases s; rfl

@[simp] theorem State.setDom_pending (s : State) (d : Nat) (x : DomPower) : (s.setDom d x).pending = s.pending := by cases s; rfl
@[simp] theorem State.setDom_regs (s : State) (d : Nat) (x : DomPower) : (s.setDom d x).regs = s.regs := by cases s; rfl
@[simp] theorem State.setDom_shadow (s : State) (d : Nat) (x : DomPower) : (s.setDom d x).shadow = s.shadow := by cases s; rfl
@[simp] theorem State.setDom_link (s : State) (d : Nat) (x : DomPower) : (s.setDom d x).link = s.link := by cases s; rfl
@[simp] theorem State.setDom_fe (s : State) (d : Nat) (x : DomPower) : (s.setDom d x).fe = s.fe := by cases s; rfl
@[simp] theorem State.setDom_cfs (s : State) (d : Nat) (x : DomPower) : (s.setDom d x).cfs = s.cfs := by cases s; rfl
@[simp] theorem State.setDom_clu (s : State) (d : Nat) (x : DomPower) : (s.setDom d x).clu = s.clu := by cases s; rfl
@[simp] theorem State.setDom_pres (s : State) (d : Nat) (x : DomPower) : (s.setDom d x).pres = s.pres := by cases s; rfl
@[simp] theorem State.setDom_eth (s : State) (d : Nat) (x : DomPower) : (s.setDom d x).eth = s.eth := by cases s; rfl
@[simp] theorem State.setDom_time (s : State) (d : Nat) (x : DomPower) : (s.setDom d x).time = s.time := by cases s; rfl
@[simp] theorem State.setDom_sched (s : State) (d : Nat) (x : DomPower) : (s.setDom d x).sched = s.sched := by cases s; rfl
@[simp] theorem State.setDom_nvm (s : State) (d : Nat) (x : DomPower) : (s.setDom d x).nvm = s.nvm := by cases s; rfl
@[simp] theorem State.setDom_alm (s : State) (d : Nat) (x : DomPower) : (s.setDom d x).alm = s.alm := by cases s; rfl
@[simp] theorem State.setDom_bist (s : State) (d : Nat) (x : DomPower) : (s.setDom d x).bist = s.bist := by cases s; rfl
@[simp] theorem State.setDom_dma (s : State) (d : Nat) (x : DomPower) : (s.setDom d x).dma = s.dma := by cases s; rfl
@[simp] theorem State.setDom_mgmt (s : State) (d : Nat) (x : DomPower) : (s.setDom d x).mgmt = s.mgmt := by cases s; rfl
@[simp] theorem State.setDom_now (s : State) (d : Nat) (x : DomPower) : (s.setDom d x).now = s.now := by cases s; rfl
@[simp] theorem State.setDom_wakeAt (s : State) (d : Nat) (x : DomPower) : (s.setDom d x).wakeAt = s.wakeAt := by cases s; rfl
@[simp] theorem State.setDom_position (s : State) (d : Nat) (x : DomPower) : (s.setDom d x).position = s.position := by cases s; rfl
@[simp] theorem State.setDom_feOos (s : State) (d : Nat) (x : DomPower) : (s.setDom d x).feOos = s.feOos := by cases s; rfl
@[simp] theorem State.setDom_dmaReq (s : State) (d : Nat) (x : DomPower) : (s.setDom d x).dmaReq = s.dmaReq := by cases s; rfl
@[simp] theorem State.setDom_scripts (s : State) (d : Nat) (x : DomPower) : (s.setDom d x).scripts = s.scripts := by cases s; rfl
@[simp] theorem State.setDom_free (s : State) (d : Nat) (x : DomPower) : (s.setDom d x).free = s.free := by cases s; rfl

/-! ### The register file -/

@[simp] theorem State.rd_wr_self (s : State) (a v : Nat) : (s.wr a v).rd a = v % 2 ^ 32 := by
  simp [State.rd, State.wr]

theorem State.rd_wr_ne (s : State) {a b : Nat} (v : Nat) (h : b ≠ a) : (s.wr a v).rd b = s.rd b := by
  simp [State.rd, State.wr, Map.get_set_ne _ _ _ _ h]

theorem State.rd_wr (s : State) (a b v : Nat) : (s.wr a v).rd b = if b = a then v % 2 ^ 32 else s.rd b := by
  split
  · subst_vars; simp
  · rename_i h; exact State.rd_wr_ne s v h

theorem State.rd_lt (s : State) (a : Nat) : s.rd a < 2 ^ 32 := (Map.get (regReset a) s.regs a).isLt

/-- Two states with one register file read alike. -/
theorem State.rd_congr {s t : State} (h : t.regs = s.regs) (a : Nat) : t.rd a = s.rd a := by simp [State.rd, h]

theorem State.rd_putF_ne (s : State) {a b : Nat} (lo w v : Nat) (h : b ≠ a) : (s.putF a lo w v).rd b = s.rd b := State.rd_wr_ne s _ h
theorem State.rd_setBit_ne (s : State) {a b : Nat} (i : Nat) (h : b ≠ a) : (s.setBit a i).rd b = s.rd b := State.rd_wr_ne s _ h
theorem State.rd_clrBit_ne (s : State) {a b : Nat} (i : Nat) (h : b ≠ a) : (s.clrBit a i).rd b = s.rd b := State.rd_wr_ne s _ h
theorem State.rd_putBit_ne (s : State) {a b : Nat} (i : Nat) (x : Bool) (h : b ≠ a) : (s.putBit a i x).rd b = s.rd b := State.rd_wr_ne s _ h
theorem State.rd_incBy_ne (s : State) {a b : Nat} (k : Nat) (h : b ≠ a) : (s.incBy a k).rd b = s.rd b := State.rd_wr_ne s _ h
theorem State.rd_inc_ne (s : State) {a b : Nat} (h : b ≠ a) : (s.inc a).rd b = s.rd b := State.rd_wr_ne s _ h

/-- A saturating counter counts (R15). -/
@[simp] theorem State.rd_incBy_self (s : State) (a k : Nat) : (s.incBy a k).rd a = min 0xFFFFFFFF (s.rd a + k) := by
  simp only [State.incBy, State.rd_wr_self]
  exact Nat.mod_eq_of_lt (by omega)

@[simp] theorem State.rd_inc_self (s : State) (a : Nat) : (s.inc a).rd a = min 0xFFFFFFFF (s.rd a + 1) := State.rd_incBy_self s a 1

/-! ### Fields of a word -/

theorem fld_lt (v lo w : Nat) : fld v lo w < 2 ^ w := Nat.mod_lt _ (Nat.two_pow_pos w)

theorem bitOf_eq_testBit (v i : Nat) : bitOf v i = v.testBit i := by
  simp only [bitOf, Nat.testBit_eq_decide_div_mod_eq]; rfl

/-- A word as what lies below, in and above one of its fields. -/
theorem word_split (v lo w : Nat) : v = v % 2 ^ lo + 2 ^ lo * fld v lo w + 2 ^ (lo + w) * (v / 2 ^ (lo + w)) := by
  have h1 := Nat.mod_add_div v (2 ^ lo)
  have h2 := Nat.mod_add_div (v / 2 ^ lo) (2 ^ w)
  have h3 : v / 2 ^ lo / 2 ^ w = v / 2 ^ (lo + w) := by rw [Nat.div_div_eq_div_mul, ← Nat.pow_add]
  unfold fld
  rw [h3] at h2
  calc v = v % 2 ^ lo + 2 ^ lo * (v / 2 ^ lo) := h1.symm
    _ = v % 2 ^ lo + 2 ^ lo * (v / 2 ^ lo % 2 ^ w + 2 ^ w * (v / 2 ^ (lo + w))) := by rw [h2]
    _ = _ := by rw [Nat.mul_add, ← Nat.mul_assoc, ← Nat.pow_add]; omega

theorem setFld_eq (v lo w x : Nat) : setFld v lo w x = v % 2 ^ lo + 2 ^ lo * (x % 2 ^ w) + 2 ^ (lo + w) * (v / 2 ^ (lo + w)) := by
  have h := word_split v lo w
  unfold setFld
  have e1 : (v / 2 ^ lo % 2 ^ w) * 2 ^ lo = 2 ^ lo * fld v lo w := by rw [Nat.mul_comm]; rfl
  have e2 : (x % 2 ^ w) * 2 ^ lo = 2 ^ lo * (x % 2 ^ w) := Nat.mul_comm _ _
  rw [e1, e2]
  omega

/-- What is put into a field reads back from it. -/
theorem fld_setFld_self (v lo w x : Nat) : fld (setFld v lo w x) lo w = x % 2 ^ w := by
  rw [setFld_eq]
  have hlo : 0 < 2 ^ lo := Nat.two_pow_pos lo
  have e : v % 2 ^ lo + 2 ^ lo * (x % 2 ^ w) + 2 ^ (lo + w) * (v / 2 ^ (lo + w))
      = v % 2 ^ lo + 2 ^ lo * (x % 2 ^ w + 2 ^ w * (v / 2 ^ (lo + w))) := by
    rw [Nat.mul_add, ← Nat.mul_assoc, ← Nat.pow_add]; omega
  unfold fld
  rw [e, Nat.add_mul_div_left _ _ hlo, Nat.div_eq_of_lt (Nat.mod_lt _ hlo), Nat.zero_add, Nat.add_mul_mod_self_left, Nat.mod_mod]

/-- A field update within 32 bits stays a 32-bit word. -/
theorem setFld_lt (v lo w x : Nat) (hv : v < 2 ^ 32) (h : lo + w ≤ 32) : setFld v lo w x < 2 ^ 32 := by
  rw [setFld_eq]
  obtain ⟨k, hk⟩ : ∃ k, 32 = lo + w + k := ⟨32 - (lo + w), by omega⟩
  have hd : v / 2 ^ (lo + w) < 2 ^ k := by
    apply Nat.div_lt_of_lt_mul
    rw [← Nat.pow_add, ← hk]; exact hv
  have h1 : v % 2 ^ lo < 2 ^ lo := Nat.mod_lt _ (Nat.two_pow_pos lo)
  have h2 : x % 2 ^ w < 2 ^ w := Nat.mod_lt _ (Nat.two_pow_pos w)
  have a1 : v % 2 ^ lo + 2 ^ lo * (x % 2 ^ w) < 2 ^ (lo + w) := by
    rw [Nat.pow_add]
    calc v % 2 ^ lo + 2 ^ lo * (x % 2 ^ w) < 2 ^ lo + 2 ^ lo * (x % 2 ^ w) := by omega
      _ = 2 ^ lo * (x % 2 ^ w + 1) := by rw [Nat.mul_add, Nat.mul_one]; omega
      _ ≤ 2 ^ lo * 2 ^ w := Nat.mul_le_mul_left _ h2
  have a2 : 2 ^ (lo + w) * (v / 2 ^ (lo + w)) + 2 ^ (lo + w) ≤ 2 ^ 32 := by
    have : 2 ^ (lo + w) * (v / 2 ^ (lo + w) + 1) ≤ 2 ^ (lo + w) * 2 ^ k := Nat.mul_le_mul_left _ hd
    rw [Nat.mul_add, Nat.mul_one, ← Nat.pow_add, ← hk] at this
    exact this
  omega

/-- The bits of a word after a field update. -/
theorem testBit_setFld (v lo w x i : Nat) :
    (setFld v lo w x).testBit i = if lo ≤ i ∧ i < lo + w then x.testBit (i - lo) else v.testBit i := by
  have hA : v % 2 ^ lo < 2 ^ lo := Nat.mod_lt _ (Nat.two_pow_pos lo)
  have hx : x % 2 ^ w < 2 ^ w := Nat.mod_lt _ (Nat.two_pow_pos w)
  have e : setFld v lo w x = 2 ^ lo * (2 ^ w * (v / 2 ^ (lo + w)) + x % 2 ^ w) + v % 2 ^ lo := by
    rw [setFld_eq, Nat.mul_add, ← Nat.mul_assoc, ← Nat.pow_add]; omega
  rw [e, Nat.testBit_two_pow_mul_add _ hA]
  by_cases h1 : i < lo
  · rw [if_pos h1, if_neg (by omega), Nat.testBit_mod_two_pow]; simp [h1]
  · rw [if_neg h1, Nat.testBit_two_pow_mul_add _ hx]
    by_cases h2 : i - lo < w
    · rw [if_pos h2, if_pos (by omega), Nat.testBit_mod_two_pow]; simp [h2]
    · rw [if_neg h2, if_neg (by omega), Nat.testBit_div_two_pow]
      congr 1; omega

/-! ### Bits and fields of registers after a write -/

theorem State.rd_putF_self (s : State) (a lo w v : Nat) (h : lo + w ≤ 32) : (s.putF a lo w v).rd a = setFld (s.rd a) lo w v := by
  rw [State.putF, State.rd_wr_self]
  exact Nat.mod_eq_of_lt (setFld_lt _ _ _ _ (s.rd_lt a) h)

theorem State.getF_putF_self (s : State) (a lo w v : Nat) (h : lo + w ≤ 32) : (s.putF a lo w v).getF a lo w = v % 2 ^ w := by
  rw [State.getF, State.rd_putF_self _ _ _ _ _ h, fld_setFld_self]

theorem State.bit_putF (s : State) (a lo w v i : Nat) (h : lo + w ≤ 32) :
    (s.putF a lo w v).bit a i = if lo ≤ i ∧ i < lo + w then v.testBit (i - lo) else s.bit a i := by
  simp only [State.bit, State.rd_putF_self _ _ _ _ _ h, bitOf_eq_testBit, testBit_setFld]

/-- An event bit that is set reads 1. -/
theorem State.bit_setBit_self (s : State) (a i : Nat) (h : i < 32) : (s.setBit a i).bit a i = true := by
  rw [State.setBit, State.bit_putF _ _ _ _ _ _ (by omega)]; simp

theorem State.bit_clrBit_self (s : State) (a i : Nat) (h : i < 32) : (s.clrBit a i).bit a i = false := by
  rw [State.clrBit, State.bit_putF _ _ _ _ _ _ (by omega)]; simp

theorem State.bit_setBit_ne (s : State) (a i j : Nat) (h : i < 32) (hj : j ≠ i) : (s.setBit a i).bit a j = s.bit a j := by
  rw [State.setBit, State.bit_putF _ _ _ _ _ _ (by omega), if_neg (by omega)]

theorem State.bit_clrBit_ne (s : State) (a i j : Nat) (h : i < 32) (hj : j ≠ i) : (s.clrBit a i).bit a j = s.bit a j := by
  rw [State.clrBit, State.bit_putF _ _ _ _ _ _ (by omega), if_neg (by omega)]

/-! ### Per-instance state -/

@[simp] theorem State.lnk_setLnk_self (s : State) (n : Nat) (l : LinkState) : (s.setLnk n l).lnk n = l := by simp [State.lnk, State.setLnk]

theorem State.lnk_setLnk_ne (s : State) {n m : Nat} (l : LinkState) (h : m ≠ n) : (s.setLnk n l).lnk m = s.lnk m := by
  simp [State.lnk, State.setLnk, Map.get_set_ne _ _ _ _ h]

@[simp] theorem State.lnk_modLnk_self (s : State) (n : Nat) (f : LinkState → LinkState) : (s.modLnk n f).lnk n = f (s.lnk n) := by
  simp [State.modLnk]

theorem State.lnk_modLnk_ne (s : State) {n m : Nat} (f : LinkState → LinkState) (h : m ≠ n) : (s.modLnk n f).lnk m = s.lnk m :=
  State.lnk_setLnk_ne s _ h

@[simp] theorem State.fes_setFe_self (s : State) (n : Nat) (x : FeState) : (s.setFe n x).fes n = x := by simp [State.fes, State.setFe]

theorem State.fes_setFe_ne (s : State) {n m : Nat} (x : FeState) (h : m ≠ n) : (s.setFe n x).fes m = s.fes m := by
  simp [State.fes, State.setFe, Map.get_set_ne _ _ _ _ h]

@[simp] theorem State.fes_modFe_self (s : State) (n : Nat) (f : FeState → FeState) : (s.modFe n f).fes n = f (s.fes n) := by
  simp [State.modFe]

/-! ### Conditional updates -/

@[simp] theorem State.when_true (s : State) (f : State → State) : s.when true f = f s := rfl
@[simp] theorem State.when_false (s : State) (f : State → State) : s.when false f = s := rfl

theorem State.when_eq (s : State) (c : Bool) (f : State → State) : s.when c f = if c then f s else s := rfl

/-- A property that an update keeps is kept by the update under a condition. -/
theorem State.when_keeps {p : State → Prop} {s : State} {c : Bool} {f : State → State} (h : p s) (hf : ∀ t, p t → p (f t)) :
    p (s.when c f) := by
  cases c
  · exact h
  · exact hf s h

/-- A property that each update of a list keeps is kept by them in turn. -/
theorem State.each_keeps {α : Type} {p : State → Prop} {l : List α} {f : State → α → State} (hf : ∀ t x, p t → p (f t x)) :
    ∀ {s : State}, p s → p (s.each l f) := by
  induction l with
  | nil => intro s h; exact h
  | cons x rest ih => intro s h; exact ih (hf s x h)

@[simp] theorem State.each_nil {α : Type} (s : State) (f : State → α → State) : s.each [] f = s := rfl
@[simp] theorem State.each_cons {α : Type} (s : State) (x : α) (l : List α) (f : State → α → State) :
    s.each (x :: l) f = (f s x).each l f := rfl

/-! ### The reset state -/

@[simp] theorem State.reset_pending : State.reset.pending = [] := rfl
@[simp] theorem State.reset_regs : State.reset.regs = [] := rfl

/-- After reset every register reads the reset value of its table. -/
theorem State.rd_reset (a : Nat) : State.reset.rd a = (regReset a).toNat := rfl

end Sys2Proof.Machine
end

