-- ==== Sys2Proof/Laws/Frames.lean ====
section
/-! SUPPORT. The frames of the named updates that single families declare, one lemma per field per update. -/

namespace Sys2Proof.Machine

@[simp] theorem State.modPower_pending (s : State) (f : PowerState → PowerState) : (s.modPower f).pending = s.pending := by cases s; rfl
@[simp] theorem State.modPower_regs (s : State) (f : PowerState → PowerState) : (s.modPower f).regs = s.regs := by cases s; rfl
@[simp] theorem State.modPower_shadow (s : State) (f : PowerState → PowerState) : (s.modPower f).shadow = s.shadow := by cases s; rfl
@[simp] theorem State.modPower_link (s : State) (f : PowerState → PowerState) : (s.modPower f).link = s.link := by cases s; rfl
@[simp] theorem State.modPower_fe (s : State) (f : PowerState → PowerState) : (s.modPower f).fe = s.fe := by cases s; rfl
@[simp] theorem State.modPower_cfs (s : State) (f : PowerState → PowerState) : (s.modPower f).cfs = s.cfs := by cases s; rfl
@[simp] theorem State.modPower_clu (s : State) (f : PowerState → PowerState) : (s.modPower f).clu = s.clu := by cases s; rfl
@[simp] theorem State.modPower_pres (s : State) (f : PowerState → PowerState) : (s.modPower f).pres = s.pres := by cases s; rfl
@[simp] theorem State.modPower_eth (s : State) (f : PowerState → PowerState) : (s.modPower f).eth = s.eth := by cases s; rfl
@[simp] theorem State.modPower_time (s : State) (f : PowerState → PowerState) : (s.modPower f).time = s.time := by cases s; rfl
@[simp] theorem State.modPower_sched (s : State) (f : PowerState → PowerState) : (s.modPower f).sched = s.sched := by cases s; rfl
@[simp] theorem State.modPower_nvm (s : State) (f : PowerState → PowerState) : (s.modPower f).nvm = s.nvm := by cases s; rfl
@[simp] theorem State.modPower_alm (s : State) (f : PowerState → PowerState) : (s.modPower f).alm = s.alm := by cases s; rfl
@[simp] theorem State.modPower_bist (s : State) (f : PowerState → PowerState) : (s.modPower f).bist = s.bist := by cases s; rfl
@[simp] theorem State.modPower_dma (s : State) (f : PowerState → PowerState) : (s.modPower f).dma = s.dma := by cases s; rfl
@[simp] theorem State.modPower_mgmt (s : State) (f : PowerState → PowerState) : (s.modPower f).mgmt = s.mgmt := by cases s; rfl
@[simp] theorem State.modPower_now (s : State) (f : PowerState → PowerState) : (s.modPower f).now = s.now := by cases s; rfl
@[simp] theorem State.modPower_wakeAt (s : State) (f : PowerState → PowerState) : (s.modPower f).wakeAt = s.wakeAt := by cases s; rfl
@[simp] theorem State.modPower_position (s : State) (f : PowerState → PowerState) : (s.modPower f).position = s.position := by cases s; rfl
@[simp] theorem State.modPower_feOos (s : State) (f : PowerState → PowerState) : (s.modPower f).feOos = s.feOos := by cases s; rfl
@[simp] theorem State.modPower_dmaReq (s : State) (f : PowerState → PowerState) : (s.modPower f).dmaReq = s.dmaReq := by cases s; rfl
@[simp] theorem State.modPower_scripts (s : State) (f : PowerState → PowerState) : (s.modPower f).scripts = s.scripts := by cases s; rfl
@[simp] theorem State.modPower_free (s : State) (f : PowerState → PowerState) : (s.modPower f).free = s.free := by cases s; rfl

@[simp] theorem State.modMgmt_pending (s : State) (f : MgmtState → MgmtState) : (s.modMgmt f).pending = s.pending := by cases s; rfl
@[simp] theorem State.modMgmt_regs (s : State) (f : MgmtState → MgmtState) : (s.modMgmt f).regs = s.regs := by cases s; rfl
@[simp] theorem State.modMgmt_shadow (s : State) (f : MgmtState → MgmtState) : (s.modMgmt f).shadow = s.shadow := by cases s; rfl
@[simp] theorem State.modMgmt_link (s : State) (f : MgmtState → MgmtState) : (s.modMgmt f).link = s.link := by cases s; rfl
@[simp] theorem State.modMgmt_fe (s : State) (f : MgmtState → MgmtState) : (s.modMgmt f).fe = s.fe := by cases s; rfl
@[simp] theorem State.modMgmt_cfs (s : State) (f : MgmtState → MgmtState) : (s.modMgmt f).cfs = s.cfs := by cases s; rfl
@[simp] theorem State.modMgmt_clu (s : State) (f : MgmtState → MgmtState) : (s.modMgmt f).clu = s.clu := by cases s; rfl
@[simp] theorem State.modMgmt_pres (s : State) (f : MgmtState → MgmtState) : (s.modMgmt f).pres = s.pres := by cases s; rfl
@[simp] theorem State.modMgmt_eth (s : State) (f : MgmtState → MgmtState) : (s.modMgmt f).eth = s.eth := by cases s; rfl
@[simp] theorem State.modMgmt_time (s : State) (f : MgmtState → MgmtState) : (s.modMgmt f).time = s.time := by cases s; rfl
@[simp] theorem State.modMgmt_sched (s : State) (f : MgmtState → MgmtState) : (s.modMgmt f).sched = s.sched := by cases s; rfl
@[simp] theorem State.modMgmt_nvm (s : State) (f : MgmtState → MgmtState) : (s.modMgmt f).nvm = s.nvm := by cases s; rfl
@[simp] theorem State.modMgmt_alm (s : State) (f : MgmtState → MgmtState) : (s.modMgmt f).alm = s.alm := by cases s; rfl
@[simp] theorem State.modMgmt_bist (s : State) (f : MgmtState → MgmtState) : (s.modMgmt f).bist = s.bist := by cases s; rfl
@[simp] theorem State.modMgmt_dma (s : State) (f : MgmtState → MgmtState) : (s.modMgmt f).dma = s.dma := by cases s; rfl
@[simp] theorem State.modMgmt_power (s : State) (f : MgmtState → MgmtState) : (s.modMgmt f).power = s.power := by cases s; rfl
@[simp] theorem State.modMgmt_now (s : State) (f : MgmtState → MgmtState) : (s.modMgmt f).now = s.now := by cases s; rfl
@[simp] theorem State.modMgmt_wakeAt (s : State) (f : MgmtState → MgmtState) : (s.modMgmt f).wakeAt = s.wakeAt := by cases s; rfl
@[simp] theorem State.modMgmt_position (s : State) (f : MgmtState → MgmtState) : (s.modMgmt f).position = s.position := by cases s; rfl
@[simp] theorem State.modMgmt_feOos (s : State) (f : MgmtState → MgmtState) : (s.modMgmt f).feOos = s.feOos := by cases s; rfl
@[simp] theorem State.modMgmt_dmaReq (s : State) (f : MgmtState → MgmtState) : (s.modMgmt f).dmaReq = s.dmaReq := by cases s; rfl
@[simp] theorem State.modMgmt_scripts (s : State) (f : MgmtState → MgmtState) : (s.modMgmt f).scripts = s.scripts := by cases s; rfl
@[simp] theorem State.modMgmt_free (s : State) (f : MgmtState → MgmtState) : (s.modMgmt f).free = s.free := by cases s; rfl

@[simp] theorem State.setCl_pending (s : State) (k : Nat) (c : CluState) : (s.setCl k c).pending = s.pending := by cases s; rfl
@[simp] theorem State.setCl_regs (s : State) (k : Nat) (c : CluState) : (s.setCl k c).regs = s.regs := by cases s; rfl
@[simp] theorem State.setCl_shadow (s : State) (k : Nat) (c : CluState) : (s.setCl k c).shadow = s.shadow := by cases s; rfl
@[simp] theorem State.setCl_link (s : State) (k : Nat) (c : CluState) : (s.setCl k c).link = s.link := by cases s; rfl
@[simp] theorem State.setCl_fe (s : State) (k : Nat) (c : CluState) : (s.setCl k c).fe = s.fe := by cases s; rfl
@[simp] theorem State.setCl_cfs (s : State) (k : Nat) (c : CluState) : (s.setCl k c).cfs = s.cfs := by cases s; rfl
@[simp] theorem State.setCl_pres (s : State) (k : Nat) (c : CluState) : (s.setCl k c).pres = s.pres := by cases s; rfl
@[simp] theorem State.setCl_eth (s : State) (k : Nat) (c : CluState) : (s.setCl k c).eth = s.eth := by cases s; rfl
@[simp] theorem State.setCl_time (s : State) (k : Nat) (c : CluState) : (s.setCl k c).time = s.time := by cases s; rfl
@[simp] theorem State.setCl_sched (s : State) (k : Nat) (c : CluState) : (s.setCl k c).sched = s.sched := by cases s; rfl
@[simp] theorem State.setCl_nvm (s : State) (k : Nat) (c : CluState) : (s.setCl k c).nvm = s.nvm := by cases s; rfl
@[simp] theorem State.setCl_alm (s : State) (k : Nat) (c : CluState) : (s.setCl k c).alm = s.alm := by cases s; rfl
@[simp] theorem State.setCl_bist (s : State) (k : Nat) (c : CluState) : (s.setCl k c).bist = s.bist := by cases s; rfl
@[simp] theorem State.setCl_dma (s : State) (k : Nat) (c : CluState) : (s.setCl k c).dma = s.dma := by cases s; rfl
@[simp] theorem State.setCl_mgmt (s : State) (k : Nat) (c : CluState) : (s.setCl k c).mgmt = s.mgmt := by cases s; rfl
@[simp] theorem State.setCl_power (s : State) (k : Nat) (c : CluState) : (s.setCl k c).power = s.power := by cases s; rfl
@[simp] theorem State.setCl_now (s : State) (k : Nat) (c : CluState) : (s.setCl k c).now = s.now := by cases s; rfl
@[simp] theorem State.setCl_wakeAt (s : State) (k : Nat) (c : CluState) : (s.setCl k c).wakeAt = s.wakeAt := by cases s; rfl
@[simp] theorem State.setCl_position (s : State) (k : Nat) (c : CluState) : (s.setCl k c).position = s.position := by cases s; rfl
@[simp] theorem State.setCl_feOos (s : State) (k : Nat) (c : CluState) : (s.setCl k c).feOos = s.feOos := by cases s; rfl
@[simp] theorem State.setCl_dmaReq (s : State) (k : Nat) (c : CluState) : (s.setCl k c).dmaReq = s.dmaReq := by cases s; rfl
@[simp] theorem State.setCl_scripts (s : State) (k : Nat) (c : CluState) : (s.setCl k c).scripts = s.scripts := by cases s; rfl
@[simp] theorem State.setCl_free (s : State) (k : Nat) (c : CluState) : (s.setCl k c).free = s.free := by cases s; rfl

@[simp] theorem State.modCl_pending (s : State) (k : Nat) (f : CluState → CluState) : (s.modCl k f).pending = s.pending := by cases s; rfl
@[simp] theorem State.modCl_regs (s : State) (k : Nat) (f : CluState → CluState) : (s.modCl k f).regs = s.regs := by cases s; rfl
@[simp] theorem State.modCl_shadow (s : State) (k : Nat) (f : CluState → CluState) : (s.modCl k f).shadow = s.shadow := by cases s; rfl
@[simp] theorem State.modCl_link (s : State) (k : Nat) (f : CluState → CluState) : (s.modCl k f).link = s.link := by cases s; rfl
@[simp] theorem State.modCl_fe (s : State) (k : Nat) (f : CluState → CluState) : (s.modCl k f).fe = s.fe := by cases s; rfl
@[simp] theorem State.modCl_cfs (s : State) (k : Nat) (f : CluState → CluState) : (s.modCl k f).cfs = s.cfs := by cases s; rfl
@[simp] theorem State.modCl_pres (s : State) (k : Nat) (f : CluState → CluState) : (s.modCl k f).pres = s.pres := by cases s; rfl
@[simp] theorem State.modCl_eth (s : State) (k : Nat) (f : CluState → CluState) : (s.modCl k f).eth = s.eth := by cases s; rfl
@[simp] theorem State.modCl_time (s : State) (k : Nat) (f : CluState → CluState) : (s.modCl k f).time = s.time := by cases s; rfl
@[simp] theorem State.modCl_sched (s : State) (k : Nat) (f : CluState → CluState) : (s.modCl k f).sched = s.sched := by cases s; rfl
@[simp] theorem State.modCl_nvm (s : State) (k : Nat) (f : CluState → CluState) : (s.modCl k f).nvm = s.nvm := by cases s; rfl
@[simp] theorem State.modCl_alm (s : State) (k : Nat) (f : CluState → CluState) : (s.modCl k f).alm = s.alm := by cases s; rfl
@[simp] theorem State.modCl_bist (s : State) (k : Nat) (f : CluState → CluState) : (s.modCl k f).bist = s.bist := by cases s; rfl
@[simp] theorem State.modCl_dma (s : State) (k : Nat) (f : CluState → CluState) : (s.modCl k f).dma = s.dma := by cases s; rfl
@[simp] theorem State.modCl_mgmt (s : State) (k : Nat) (f : CluState → CluState) : (s.modCl k f).mgmt = s.mgmt := by cases s; rfl
@[simp] theorem State.modCl_power (s : State) (k : Nat) (f : CluState → CluState) : (s.modCl k f).power = s.power := by cases s; rfl
@[simp] theorem State.modCl_now (s : State) (k : Nat) (f : CluState → CluState) : (s.modCl k f).now = s.now := by cases s; rfl
@[simp] theorem State.modCl_wakeAt (s : State) (k : Nat) (f : CluState → CluState) : (s.modCl k f).wakeAt = s.wakeAt := by cases s; rfl
@[simp] theorem State.modCl_position (s : State) (k : Nat) (f : CluState → CluState) : (s.modCl k f).position = s.position := by cases s; rfl
@[simp] theorem State.modCl_feOos (s : State) (k : Nat) (f : CluState → CluState) : (s.modCl k f).feOos = s.feOos := by cases s; rfl
@[simp] theorem State.modCl_dmaReq (s : State) (k : Nat) (f : CluState → CluState) : (s.modCl k f).dmaReq = s.dmaReq := by cases s; rfl
@[simp] theorem State.modCl_scripts (s : State) (k : Nat) (f : CluState → CluState) : (s.modCl k f).scripts = s.scripts := by cases s; rfl
@[simp] theorem State.modCl_free (s : State) (k : Nat) (f : CluState → CluState) : (s.modCl k f).free = s.free := by cases s; rfl

@[simp] theorem State.modChan_pending (s : State) (c : Nat) (f : Channel → Channel) : (s.modChan c f).pending = s.pending := by cases s; rfl
@[simp] theorem State.modChan_regs (s : State) (c : Nat) (f : Channel → Channel) : (s.modChan c f).regs = s.regs := by cases s; rfl
@[simp] theorem State.modChan_shadow (s : State) (c : Nat) (f : Channel → Channel) : (s.modChan c f).shadow = s.shadow := by cases s; rfl
@[simp] theorem State.modChan_link (s : State) (c : Nat) (f : Channel → Channel) : (s.modChan c f).link = s.link := by cases s; rfl
@[simp] theorem State.modChan_fe (s : State) (c : Nat) (f : Channel → Channel) : (s.modChan c f).fe = s.fe := by cases s; rfl
@[simp] theorem State.modChan_cfs (s : State) (c : Nat) (f : Channel → Channel) : (s.modChan c f).cfs = s.cfs := by cases s; rfl
@[simp] theorem State.modChan_clu (s : State) (c : Nat) (f : Channel → Channel) : (s.modChan c f).clu = s.clu := by cases s; rfl
@[simp] theorem State.modChan_pres (s : State) (c : Nat) (f : Channel → Channel) : (s.modChan c f).pres = s.pres := by cases s; rfl
@[simp] theorem State.modChan_eth (s : State) (c : Nat) (f : Channel → Channel) : (s.modChan c f).eth = s.eth := by cases s; rfl
@[simp] theorem State.modChan_time (s : State) (c : Nat) (f : Channel → Channel) : (s.modChan c f).time = s.time := by cases s; rfl
@[simp] theorem State.modChan_sched (s : State) (c : Nat) (f : Channel → Channel) : (s.modChan c f).sched = s.sched := by cases s; rfl
@[simp] theorem State.modChan_nvm (s : State) (c : Nat) (f : Channel → Channel) : (s.modChan c f).nvm = s.nvm := by cases s; rfl
@[simp] theorem State.modChan_alm (s : State) (c : Nat) (f : Channel → Channel) : (s.modChan c f).alm = s.alm := by cases s; rfl
@[simp] theorem State.modChan_bist (s : State) (c : Nat) (f : Channel → Channel) : (s.modChan c f).bist = s.bist := by cases s; rfl
@[simp] theorem State.modChan_mgmt (s : State) (c : Nat) (f : Channel → Channel) : (s.modChan c f).mgmt = s.mgmt := by cases s; rfl
@[simp] theorem State.modChan_power (s : State) (c : Nat) (f : Channel → Channel) : (s.modChan c f).power = s.power := by cases s; rfl
@[simp] theorem State.modChan_now (s : State) (c : Nat) (f : Channel → Channel) : (s.modChan c f).now = s.now := by cases s; rfl
@[simp] theorem State.modChan_wakeAt (s : State) (c : Nat) (f : Channel → Channel) : (s.modChan c f).wakeAt = s.wakeAt := by cases s; rfl
@[simp] theorem State.modChan_position (s : State) (c : Nat) (f : Channel → Channel) : (s.modChan c f).position = s.position := by cases s; rfl
@[simp] theorem State.modChan_feOos (s : State) (c : Nat) (f : Channel → Channel) : (s.modChan c f).feOos = s.feOos := by cases s; rfl
@[simp] theorem State.modChan_dmaReq (s : State) (c : Nat) (f : Channel → Channel) : (s.modChan c f).dmaReq = s.dmaReq := by cases s; rfl
@[simp] theorem State.modChan_scripts (s : State) (c : Nat) (f : Channel → Channel) : (s.modChan c f).scripts = s.scripts := by cases s; rfl
@[simp] theorem State.modChan_free (s : State) (c : Nat) (f : Channel → Channel) : (s.modChan c f).free = s.free := by cases s; rfl

@[simp] theorem State.setEng_pending (s : State) (k e : Nat) (x : EngineState) : (s.setEng k e x).pending = s.pending := by cases s; rfl
@[simp] theorem State.setEng_regs (s : State) (k e : Nat) (x : EngineState) : (s.setEng k e x).regs = s.regs := by cases s; rfl
@[simp] theorem State.setEng_shadow (s : State) (k e : Nat) (x : EngineState) : (s.setEng k e x).shadow = s.shadow := by cases s; rfl
@[simp] theorem State.setEng_link (s : State) (k e : Nat) (x : EngineState) : (s.setEng k e x).link = s.link := by cases s; rfl
@[simp] theorem State.setEng_fe (s : State) (k e : Nat) (x : EngineState) : (s.setEng k e x).fe = s.fe := by cases s; rfl
@[simp] theorem State.setEng_cfs (s : State) (k e : Nat) (x : EngineState) : (s.setEng k e x).cfs = s.cfs := by cases s; rfl
@[simp] theorem State.setEng_pres (s : State) (k e : Nat) (x : EngineState) : (s.setEng k e x).pres = s.pres := by cases s; rfl
@[simp] theorem State.setEng_eth (s : State) (k e : Nat) (x : EngineState) : (s.setEng k e x).eth = s.eth := by cases s; rfl
@[simp] theorem State.setEng_time (s : State) (k e : Nat) (x : EngineState) : (s.setEng k e x).time = s.time := by cases s; rfl
@[simp] theorem State.setEng_sched (s : State) (k e : Nat) (x : EngineState) : (s.setEng k e x).sched = s.sched := by cases s; rfl
@[simp] theorem State.setEng_nvm (s : State) (k e : Nat) (x : EngineState) : (s.setEng k e x).nvm = s.nvm := by cases s; rfl
@[simp] theorem State.setEng_alm (s : State) (k e : Nat) (x : EngineState) : (s.setEng k e x).alm = s.alm := by cases s; rfl
@[simp] theorem State.setEng_bist (s : State) (k e : Nat) (x : EngineState) : (s.setEng k e x).bist = s.bist := by cases s; rfl
@[simp] theorem State.setEng_dma (s : State) (k e : Nat) (x : EngineState) : (s.setEng k e x).dma = s.dma := by cases s; rfl
@[simp] theorem State.setEng_mgmt (s : State) (k e : Nat) (x : EngineState) : (s.setEng k e x).mgmt = s.mgmt := by cases s; rfl
@[simp] theorem State.setEng_power (s : State) (k e : Nat) (x : EngineState) : (s.setEng k e x).power = s.power := by cases s; rfl
@[simp] theorem State.setEng_now (s : State) (k e : Nat) (x : EngineState) : (s.setEng k e x).now = s.now := by cases s; rfl
@[simp] theorem State.setEng_wakeAt (s : State) (k e : Nat) (x : EngineState) : (s.setEng k e x).wakeAt = s.wakeAt := by cases s; rfl
@[simp] theorem State.setEng_position (s : State) (k e : Nat) (x : EngineState) : (s.setEng k e x).position = s.position := by cases s; rfl
@[simp] theorem State.setEng_feOos (s : State) (k e : Nat) (x : EngineState) : (s.setEng k e x).feOos = s.feOos := by cases s; rfl
@[simp] theorem State.setEng_dmaReq (s : State) (k e : Nat) (x : EngineState) : (s.setEng k e x).dmaReq = s.dmaReq := by cases s; rfl
@[simp] theorem State.setEng_scripts (s : State) (k e : Nat) (x : EngineState) : (s.setEng k e x).scripts = s.scripts := by cases s; rfl
@[simp] theorem State.setEng_free (s : State) (k e : Nat) (x : EngineState) : (s.setEng k e x).free = s.free := by cases s; rfl

@[simp] theorem State.modEng_pending (s : State) (k e : Nat) (f : EngineState → EngineState) : (s.modEng k e f).pending = s.pending := by cases s; rfl
@[simp] theorem State.modEng_regs (s : State) (k e : Nat) (f : EngineState → EngineState) : (s.modEng k e f).regs = s.regs := by cases s; rfl
@[simp] theorem State.modEng_shadow (s : State) (k e : Nat) (f : EngineState → EngineState) : (s.modEng k e f).shadow = s.shadow := by cases s; rfl
@[simp] theorem State.modEng_link (s : State) (k e : Nat) (f : EngineState → EngineState) : (s.modEng k e f).link = s.link := by cases s; rfl
@[simp] theorem State.modEng_fe (s : State) (k e : Nat) (f : EngineState → EngineState) : (s.modEng k e f).fe = s.fe := by cases s; rfl
@[simp] theorem State.modEng_cfs (s : State) (k e : Nat) (f : EngineState → EngineState) : (s.modEng k e f).cfs = s.cfs := by cases s; rfl
@[simp] theorem State.modEng_pres (s : State) (k e : Nat) (f : EngineState → EngineState) : (s.modEng k e f).pres = s.pres := by cases s; rfl
@[simp] theorem State.modEng_eth (s : State) (k e : Nat) (f : EngineState → EngineState) : (s.modEng k e f).eth = s.eth := by cases s; rfl
@[simp] theorem State.modEng_time (s : State) (k e : Nat) (f : EngineState → EngineState) : (s.modEng k e f).time = s.time := by cases s; rfl
@[simp] theorem State.modEng_sched (s : State) (k e : Nat) (f : EngineState → EngineState) : (s.modEng k e f).sched = s.sched := by cases s; rfl
@[simp] theorem State.modEng_nvm (s : State) (k e : Nat) (f : EngineState → EngineState) : (s.modEng k e f).nvm = s.nvm := by cases s; rfl
@[simp] theorem State.modEng_alm (s : State) (k e : Nat) (f : EngineState → EngineState) : (s.modEng k e f).alm = s.alm := by cases s; rfl
@[simp] theorem State.modEng_bist (s : State) (k e : Nat) (f : EngineState → EngineState) : (s.modEng k e f).bist = s.bist := by cases s; rfl
@[simp] theorem State.modEng_dma (s : State) (k e : Nat) (f : EngineState → EngineState) : (s.modEng k e f).dma = s.dma := by cases s; rfl
@[simp] theorem State.modEng_mgmt (s : State) (k e : Nat) (f : EngineState → EngineState) : (s.modEng k e f).mgmt = s.mgmt := by cases s; rfl
@[simp] theorem State.modEng_power (s : State) (k e : Nat) (f : EngineState → EngineState) : (s.modEng k e f).power = s.power := by cases s; rfl
@[simp] theorem State.modEng_now (s : State) (k e : Nat) (f : EngineState → EngineState) : (s.modEng k e f).now = s.now := by cases s; rfl
@[simp] theorem State.modEng_wakeAt (s : State) (k e : Nat) (f : EngineState → EngineState) : (s.modEng k e f).wakeAt = s.wakeAt := by cases s; rfl
@[simp] theorem State.modEng_position (s : State) (k e : Nat) (f : EngineState → EngineState) : (s.modEng k e f).position = s.position := by cases s; rfl
@[simp] theorem State.modEng_feOos (s : State) (k e : Nat) (f : EngineState → EngineState) : (s.modEng k e f).feOos = s.feOos := by cases s; rfl
@[simp] theorem State.modEng_dmaReq (s : State) (k e : Nat) (f : EngineState → EngineState) : (s.modEng k e f).dmaReq = s.dmaReq := by cases s; rfl
@[simp] theorem State.modEng_scripts (s : State) (k e : Nat) (f : EngineState → EngineState) : (s.modEng k e f).scripts = s.scripts := by cases s; rfl
@[simp] theorem State.modEng_free (s : State) (k e : Nat) (f : EngineState → EngineState) : (s.modEng k e f).free = s.free := by cases s; rfl

@[simp] theorem State.modPort_pending (s : State) (p : Nat) (f : PortState → PortState) : (s.modPort p f).pending = s.pending := by cases s; rfl
@[simp] theorem State.modPort_regs (s : State) (p : Nat) (f : PortState → PortState) : (s.modPort p f).regs = s.regs := by cases s; rfl
@[simp] theorem State.modPort_shadow (s : State) (p : Nat) (f : PortState → PortState) : (s.modPort p f).shadow = s.shadow := by cases s; rfl
@[simp] theorem State.modPort_link (s : State) (p : Nat) (f : PortState → PortState) : (s.modPort p f).link = s.link := by cases s; rfl
@[simp] theorem State.modPort_fe (s : State) (p : Nat) (f : PortState → PortState) : (s.modPort p f).fe = s.fe := by cases s; rfl
@[simp] theorem State.modPort_cfs (s : State) (p : Nat) (f : PortState → PortState) : (s.modPort p f).cfs = s.cfs := by cases s; rfl
@[simp] theorem State.modPort_clu (s : State) (p : Nat) (f : PortState → PortState) : (s.modPort p f).clu = s.clu := by cases s; rfl
@[simp] theorem State.modPort_pres (s : State) (p : Nat) (f : PortState → PortState) : (s.modPort p f).pres = s.pres := by cases s; rfl
@[simp] theorem State.modPort_time (s : State) (p : Nat) (f : PortState → PortState) : (s.modPort p f).time = s.time := by cases s; rfl
@[simp] theorem State.modPort_sched (s : State) (p : Nat) (f : PortState → PortState) : (s.modPort p f).sched = s.sched := by cases s; rfl
@[simp] theorem State.modPort_nvm (s : State) (p : Nat) (f : PortState → PortState) : (s.modPort p f).nvm = s.nvm := by cases s; rfl
@[simp] theorem State.modPort_alm (s : State) (p : Nat) (f : PortState → PortState) : (s.modPort p f).alm = s.alm := by cases s; rfl
@[simp] theorem State.modPort_bist (s : State) (p : Nat) (f : PortState → PortState) : (s.modPort p f).bist = s.bist := by cases s; rfl
@[simp] theorem State.modPort_dma (s : State) (p : Nat) (f : PortState → PortState) : (s.modPort p f).dma = s.dma := by cases s; rfl
@[simp] theorem State.modPort_mgmt (s : State) (p : Nat) (f : PortState → PortState) : (s.modPort p f).mgmt = s.mgmt := by cases s; rfl
@[simp] theorem State.modPort_power (s : State) (p : Nat) (f : PortState → PortState) : (s.modPort p f).power = s.power := by cases s; rfl
@[simp] theorem State.modPort_now (s : State) (p : Nat) (f : PortState → PortState) : (s.modPort p f).now = s.now := by cases s; rfl
@[simp] theorem State.modPort_wakeAt (s : State) (p : Nat) (f : PortState → PortState) : (s.modPort p f).wakeAt = s.wakeAt := by cases s; rfl
@[simp] theorem State.modPort_position (s : State) (p : Nat) (f : PortState → PortState) : (s.modPort p f).position = s.position := by cases s; rfl
@[simp] theorem State.modPort_feOos (s : State) (p : Nat) (f : PortState → PortState) : (s.modPort p f).feOos = s.feOos := by cases s; rfl
@[simp] theorem State.modPort_dmaReq (s : State) (p : Nat) (f : PortState → PortState) : (s.modPort p f).dmaReq = s.dmaReq := by cases s; rfl
@[simp] theorem State.modPort_scripts (s : State) (p : Nat) (f : PortState → PortState) : (s.modPort p f).scripts = s.scripts := by cases s; rfl
@[simp] theorem State.modPort_free (s : State) (p : Nat) (f : PortState → PortState) : (s.modPort p f).free = s.free := by cases s; rfl

@[simp] theorem State.modMs_pending (s : State) (f : MacsecState → MacsecState) : (s.modMs f).pending = s.pending := by cases s; rfl
@[simp] theorem State.modMs_regs (s : State) (f : MacsecState → MacsecState) : (s.modMs f).regs = s.regs := by cases s; rfl
@[simp] theorem State.modMs_shadow (s : State) (f : MacsecState → MacsecState) : (s.modMs f).shadow = s.shadow := by cases s; rfl
@[simp] theorem State.modMs_link (s : State) (f : MacsecState → MacsecState) : (s.modMs f).link = s.link := by cases s; rfl
@[simp] theorem State.modMs_fe (s : State) (f : MacsecState → MacsecState) : (s.modMs f).fe = s.fe := by cases s; rfl
@[simp] theorem State.modMs_cfs (s : State) (f : MacsecState → MacsecState) : (s.modMs f).cfs = s.cfs := by cases s; rfl
@[simp] theorem State.modMs_clu (s : State) (f : MacsecState → MacsecState) : (s.modMs f).clu = s.clu := by cases s; rfl
@[simp] theorem State.modMs_pres (s : State) (f : MacsecState → MacsecState) : (s.modMs f).pres = s.pres := by cases s; rfl
@[simp] theorem State.modMs_time (s : State) (f : MacsecState → MacsecState) : (s.modMs f).time = s.time := by cases s; rfl
@[simp] theorem State.modMs_sched (s : State) (f : MacsecState → MacsecState) : (s.modMs f).sched = s.sched := by cases s; rfl
@[simp] theorem State.modMs_nvm (s : State) (f : MacsecState → MacsecState) : (s.modMs f).nvm = s.nvm := by cases s; rfl
@[simp] theorem State.modMs_alm (s : State) (f : MacsecState → MacsecState) : (s.modMs f).alm = s.alm := by cases s; rfl
@[simp] theorem State.modMs_bist (s : State) (f : MacsecState → MacsecState) : (s.modMs f).bist = s.bist := by cases s; rfl
@[simp] theorem State.modMs_dma (s : State) (f : MacsecState → MacsecState) : (s.modMs f).dma = s.dma := by cases s; rfl
@[simp] theorem State.modMs_mgmt (s : State) (f : MacsecState → MacsecState) : (s.modMs f).mgmt = s.mgmt := by cases s; rfl
@[simp] theorem State.modMs_power (s : State) (f : MacsecState → MacsecState) : (s.modMs f).power = s.power := by cases s; rfl
@[simp] theorem State.modMs_now (s : State) (f : MacsecState → MacsecState) : (s.modMs f).now = s.now := by cases s; rfl
@[simp] theorem State.modMs_wakeAt (s : State) (f : MacsecState → MacsecState) : (s.modMs f).wakeAt = s.wakeAt := by cases s; rfl
@[simp] theorem State.modMs_position (s : State) (f : MacsecState → MacsecState) : (s.modMs f).position = s.position := by cases s; rfl
@[simp] theorem State.modMs_feOos (s : State) (f : MacsecState → MacsecState) : (s.modMs f).feOos = s.feOos := by cases s; rfl
@[simp] theorem State.modMs_dmaReq (s : State) (f : MacsecState → MacsecState) : (s.modMs f).dmaReq = s.dmaReq := by cases s; rfl
@[simp] theorem State.modMs_scripts (s : State) (f : MacsecState → MacsecState) : (s.modMs f).scripts = s.scripts := by cases s; rfl
@[simp] theorem State.modMs_free (s : State) (f : MacsecState → MacsecState) : (s.modMs f).free = s.free := by cases s; rfl

@[simp] theorem State.modNvm_pending (s : State) (f : NvmState → NvmState) : (s.modNvm f).pending = s.pending := by cases s; rfl
@[simp] theorem State.modNvm_regs (s : State) (f : NvmState → NvmState) : (s.modNvm f).regs = s.regs := by cases s; rfl
@[simp] theorem State.modNvm_shadow (s : State) (f : NvmState → NvmState) : (s.modNvm f).shadow = s.shadow := by cases s; rfl
@[simp] theorem State.modNvm_link (s : State) (f : NvmState → NvmState) : (s.modNvm f).link = s.link := by cases s; rfl
@[simp] theorem State.modNvm_fe (s : State) (f : NvmState → NvmState) : (s.modNvm f).fe = s.fe := by cases s; rfl
@[simp] theorem State.modNvm_cfs (s : State) (f : NvmState → NvmState) : (s.modNvm f).cfs = s.cfs := by cases s; rfl
@[simp] theorem State.modNvm_clu (s : State) (f : NvmState → NvmState) : (s.modNvm f).clu = s.clu := by cases s; rfl
@[simp] theorem State.modNvm_pres (s : State) (f : NvmState → NvmState) : (s.modNvm f).pres = s.pres := by cases s; rfl
@[simp] theorem State.modNvm_eth (s : State) (f : NvmState → NvmState) : (s.modNvm f).eth = s.eth := by cases s; rfl
@[simp] theorem State.modNvm_time (s : State) (f : NvmState → NvmState) : (s.modNvm f).time = s.time := by cases s; rfl
@[simp] theorem State.modNvm_sched (s : State) (f : NvmState → NvmState) : (s.modNvm f).sched = s.sched := by cases s; rfl
@[simp] theorem State.modNvm_alm (s : State) (f : NvmState → NvmState) : (s.modNvm f).alm = s.alm := by cases s; rfl
@[simp] theorem State.modNvm_bist (s : State) (f : NvmState → NvmState) : (s.modNvm f).bist = s.bist := by cases s; rfl
@[simp] theorem State.modNvm_dma (s : State) (f : NvmState → NvmState) : (s.modNvm f).dma = s.dma := by cases s; rfl
@[simp] theorem State.modNvm_mgmt (s : State) (f : NvmState → NvmState) : (s.modNvm f).mgmt = s.mgmt := by cases s; rfl
@[simp] theorem State.modNvm_power (s : State) (f : NvmState → NvmState) : (s.modNvm f).power = s.power := by cases s; rfl
@[simp] theorem State.modNvm_now (s : State) (f : NvmState → NvmState) : (s.modNvm f).now = s.now := by cases s; rfl
@[simp] theorem State.modNvm_wakeAt (s : State) (f : NvmState → NvmState) : (s.modNvm f).wakeAt = s.wakeAt := by cases s; rfl
@[simp] theorem State.modNvm_position (s : State) (f : NvmState → NvmState) : (s.modNvm f).position = s.position := by cases s; rfl
@[simp] theorem State.modNvm_feOos (s : State) (f : NvmState → NvmState) : (s.modNvm f).feOos = s.feOos := by cases s; rfl
@[simp] theorem State.modNvm_dmaReq (s : State) (f : NvmState → NvmState) : (s.modNvm f).dmaReq = s.dmaReq := by cases s; rfl
@[simp] theorem State.modNvm_scripts (s : State) (f : NvmState → NvmState) : (s.modNvm f).scripts = s.scripts := by cases s; rfl
@[simp] theorem State.modNvm_free (s : State) (f : NvmState → NvmState) : (s.modNvm f).free = s.free := by cases s; rfl

@[simp] theorem State.modAlm_pending (s : State) (f : AlmState → AlmState) : (s.modAlm f).pending = s.pending := by cases s; rfl
@[simp] theorem State.modAlm_regs (s : State) (f : AlmState → AlmState) : (s.modAlm f).regs = s.regs := by cases s; rfl
@[simp] theorem State.modAlm_shadow (s : State) (f : AlmState → AlmState) : (s.modAlm f).shadow = s.shadow := by cases s; rfl
@[simp] theorem State.modAlm_link (s : State) (f : AlmState → AlmState) : (s.modAlm f).link = s.link := by cases s; rfl
@[simp] theorem State.modAlm_fe (s : State) (f : AlmState → AlmState) : (s.modAlm f).fe = s.fe := by cases s; rfl
@[simp] theorem State.modAlm_cfs (s : State) (f : AlmState → AlmState) : (s.modAlm f).cfs = s.cfs := by cases s; rfl
@[simp] theorem State.modAlm_clu (s : State) (f : AlmState → AlmState) : (s.modAlm f).clu = s.clu := by cases s; rfl
@[simp] theorem State.modAlm_pres (s : State) (f : AlmState → AlmState) : (s.modAlm f).pres = s.pres := by cases s; rfl
@[simp] theorem State.modAlm_eth (s : State) (f : AlmState → AlmState) : (s.modAlm f).eth = s.eth := by cases s; rfl
@[simp] theorem State.modAlm_time (s : State) (f : AlmState → AlmState) : (s.modAlm f).time = s.time := by cases s; rfl
@[simp] theorem State.modAlm_sched (s : State) (f : AlmState → AlmState) : (s.modAlm f).sched = s.sched := by cases s; rfl
@[simp] theorem State.modAlm_nvm (s : State) (f : AlmState → AlmState) : (s.modAlm f).nvm = s.nvm := by cases s; rfl
@[simp] theorem State.modAlm_bist (s : State) (f : AlmState → AlmState) : (s.modAlm f).bist = s.bist := by cases s; rfl
@[simp] theorem State.modAlm_dma (s : State) (f : AlmState → AlmState) : (s.modAlm f).dma = s.dma := by cases s; rfl
@[simp] theorem State.modAlm_mgmt (s : State) (f : AlmState → AlmState) : (s.modAlm f).mgmt = s.mgmt := by cases s; rfl
@[simp] theorem State.modAlm_power (s : State) (f : AlmState → AlmState) : (s.modAlm f).power = s.power := by cases s; rfl
@[simp] theorem State.modAlm_now (s : State) (f : AlmState → AlmState) : (s.modAlm f).now = s.now := by cases s; rfl
@[simp] theorem State.modAlm_wakeAt (s : State) (f : AlmState → AlmState) : (s.modAlm f).wakeAt = s.wakeAt := by cases s; rfl
@[simp] theorem State.modAlm_position (s : State) (f : AlmState → AlmState) : (s.modAlm f).position = s.position := by cases s; rfl
@[simp] theorem State.modAlm_feOos (s : State) (f : AlmState → AlmState) : (s.modAlm f).feOos = s.feOos := by cases s; rfl
@[simp] theorem State.modAlm_dmaReq (s : State) (f : AlmState → AlmState) : (s.modAlm f).dmaReq = s.dmaReq := by cases s; rfl
@[simp] theorem State.modAlm_scripts (s : State) (f : AlmState → AlmState) : (s.modAlm f).scripts = s.scripts := by cases s; rfl
@[simp] theorem State.modAlm_free (s : State) (f : AlmState → AlmState) : (s.modAlm f).free = s.free := by cases s; rfl

@[simp] theorem State.modSched_pending (s : State) (f : SchedState → SchedState) : (s.modSched f).pending = s.pending := by cases s; rfl
@[simp] theorem State.modSched_regs (s : State) (f : SchedState → SchedState) : (s.modSched f).regs = s.regs := by cases s; rfl
@[simp] theorem State.modSched_shadow (s : State) (f : SchedState → SchedState) : (s.modSched f).shadow = s.shadow := by cases s; rfl
@[simp] theorem State.modSched_link (s : State) (f : SchedState → SchedState) : (s.modSched f).link = s.link := by cases s; rfl
@[simp] theorem State.modSched_fe (s : State) (f : SchedState → SchedState) : (s.modSched f).fe = s.fe := by cases s; rfl
@[simp] theorem State.modSched_cfs (s : State) (f : SchedState → SchedState) : (s.modSched f).cfs = s.cfs := by cases s; rfl
@[simp] theorem State.modSched_clu (s : State) (f : SchedState → SchedState) : (s.modSched f).clu = s.clu := by cases s; rfl
@[simp] theorem State.modSched_pres (s : State) (f : SchedState → SchedState) : (s.modSched f).pres = s.pres := by cases s; rfl
@[simp] theorem State.modSched_eth (s : State) (f : SchedState → SchedState) : (s.modSched f).eth = s.eth := by cases s; rfl
@[simp] theorem State.modSched_time (s : State) (f : SchedState → SchedState) : (s.modSched f).time = s.time := by cases s; rfl
@[simp] theorem State.modSched_nvm (s : State) (f : SchedState → SchedState) : (s.modSched f).nvm = s.nvm := by cases s; rfl
@[simp] theorem State.modSched_alm (s : State) (f : SchedState → SchedState) : (s.modSched f).alm = s.alm := by cases s; rfl
@[simp] theorem State.modSched_bist (s : State) (f : SchedState → SchedState) : (s.modSched f).bist = s.bist := by cases s; rfl
@[simp] theorem State.modSched_dma (s : State) (f : SchedState → SchedState) : (s.modSched f).dma = s.dma := by cases s; rfl
@[simp] theorem State.modSched_mgmt (s : State) (f : SchedState → SchedState) : (s.modSched f).mgmt = s.mgmt := by cases s; rfl
@[simp] theorem State.modSched_power (s : State) (f : SchedState → SchedState) : (s.modSched f).power = s.power := by cases s; rfl
@[simp] theorem State.modSched_now (s : State) (f : SchedState → SchedState) : (s.modSched f).now = s.now := by cases s; rfl
@[simp] theorem State.modSched_wakeAt (s : State) (f : SchedState → SchedState) : (s.modSched f).wakeAt = s.wakeAt := by cases s; rfl
@[simp] theorem State.modSched_position (s : State) (f : SchedState → SchedState) : (s.modSched f).position = s.position := by cases s; rfl
@[simp] theorem State.modSched_feOos (s : State) (f : SchedState → SchedState) : (s.modSched f).feOos = s.feOos := by cases s; rfl
@[simp] theorem State.modSched_dmaReq (s : State) (f : SchedState → SchedState) : (s.modSched f).dmaReq = s.dmaReq := by cases s; rfl
@[simp] theorem State.modSched_scripts (s : State) (f : SchedState → SchedState) : (s.modSched f).scripts = s.scripts := by cases s; rfl
@[simp] theorem State.modSched_free (s : State) (f : SchedState → SchedState) : (s.modSched f).free = s.free := by cases s; rfl

@[simp] theorem State.modTime_pending (s : State) (f : TimeState → TimeState) : (s.modTime f).pending = s.pending := by cases s; rfl
@[simp] theorem State.modTime_regs (s : State) (f : TimeState → TimeState) : (s.modTime f).regs = s.regs := by cases s; rfl
@[simp] theorem State.modTime_shadow (s : State) (f : TimeState → TimeState) : (s.modTime f).shadow = s.shadow := by cases s; rfl
@[simp] theorem State.modTime_link (s : State) (f : TimeState → TimeState) : (s.modTime f).link = s.link := by cases s; rfl
@[simp] theorem State.modTime_fe (s : State) (f : TimeState → TimeState) : (s.modTime f).fe = s.fe := by cases s; rfl
@[simp] theorem State.modTime_cfs (s : State) (f : TimeState → TimeState) : (s.modTime f).cfs = s.cfs := by cases s; rfl
@[simp] theorem State.modTime_clu (s : State) (f : TimeState → TimeState) : (s.modTime f).clu = s.clu := by cases s; rfl
@[simp] theorem State.modTime_pres (s : State) (f : TimeState → TimeState) : (s.modTime f).pres = s.pres := by cases s; rfl
@[simp] theorem State.modTime_eth (s : State) (f : TimeState → TimeState) : (s.modTime f).eth = s.eth := by cases s; rfl
@[simp] theorem State.modTime_sched (s : State) (f : TimeState → TimeState) : (s.modTime f).sched = s.sched := by cases s; rfl
@[simp] theorem State.modTime_nvm (s : State) (f : TimeState → TimeState) : (s.modTime f).nvm = s.nvm := by cases s; rfl
@[simp] theorem State.modTime_alm (s : State) (f : TimeState → TimeState) : (s.modTime f).alm = s.alm := by cases s; rfl
@[simp] theorem State.modTime_bist (s : State) (f : TimeState → TimeState) : (s.modTime f).bist = s.bist := by cases s; rfl
@[simp] theorem State.modTime_dma (s : State) (f : TimeState → TimeState) : (s.modTime f).dma = s.dma := by cases s; rfl
@[simp] theorem State.modTime_mgmt (s : State) (f : TimeState → TimeState) : (s.modTime f).mgmt = s.mgmt := by cases s; rfl
@[simp] theorem State.modTime_power (s : State) (f : TimeState → TimeState) : (s.modTime f).power = s.power := by cases s; rfl
@[simp] theorem State.modTime_now (s : State) (f : TimeState → TimeState) : (s.modTime f).now = s.now := by cases s; rfl
@[simp] theorem State.modTime_wakeAt (s : State) (f : TimeState → TimeState) : (s.modTime f).wakeAt = s.wakeAt := by cases s; rfl
@[simp] theorem State.modTime_position (s : State) (f : TimeState → TimeState) : (s.modTime f).position = s.position := by cases s; rfl
@[simp] theorem State.modTime_feOos (s : State) (f : TimeState → TimeState) : (s.modTime f).feOos = s.feOos := by cases s; rfl
@[simp] theorem State.modTime_dmaReq (s : State) (f : TimeState → TimeState) : (s.modTime f).dmaReq = s.dmaReq := by cases s; rfl
@[simp] theorem State.modTime_scripts (s : State) (f : TimeState → TimeState) : (s.modTime f).scripts = s.scripts := by cases s; rfl
@[simp] theorem State.modTime_free (s : State) (f : TimeState → TimeState) : (s.modTime f).free = s.free := by cases s; rfl

@[simp] theorem State.setQ_pending (s : State) (q : Nat) (x : QueueState) : (s.setQ q x).pending = s.pending := by cases s; rfl
@[simp] theorem State.setQ_regs (s : State) (q : Nat) (x : QueueState) : (s.setQ q x).regs = s.regs := by cases s; rfl
@[simp] theorem State.setQ_shadow (s : State) (q : Nat) (x : QueueState) : (s.setQ q x).shadow = s.shadow := by cases s; rfl
@[simp] theorem State.setQ_link (s : State) (q : Nat) (x : QueueState) : (s.setQ q x).link = s.link := by cases s; rfl
@[simp] theorem State.setQ_fe (s : State) (q : Nat) (x : QueueState) : (s.setQ q x).fe = s.fe := by cases s; rfl
@[simp] theorem State.setQ_clu (s : State) (q : Nat) (x : QueueState) : (s.setQ q x).clu = s.clu := by cases s; rfl
@[simp] theorem State.setQ_pres (s : State) (q : Nat) (x : QueueState) : (s.setQ q x).pres = s.pres := by cases s; rfl
@[simp] theorem State.setQ_eth (s : State) (q : Nat) (x : QueueState) : (s.setQ q x).eth = s.eth := by cases s; rfl
@[simp] theorem State.setQ_time (s : State) (q : Nat) (x : QueueState) : (s.setQ q x).time = s.time := by cases s; rfl
@[simp] theorem State.setQ_sched (s : State) (q : Nat) (x : QueueState) : (s.setQ q x).sched = s.sched := by cases s; rfl
@[simp] theorem State.setQ_nvm (s : State) (q : Nat) (x : QueueState) : (s.setQ q x).nvm = s.nvm := by cases s; rfl
@[simp] theorem State.setQ_alm (s : State) (q : Nat) (x : QueueState) : (s.setQ q x).alm = s.alm := by cases s; rfl
@[simp] theorem State.setQ_bist (s : State) (q : Nat) (x : QueueState) : (s.setQ q x).bist = s.bist := by cases s; rfl
@[simp] theorem State.setQ_dma (s : State) (q : Nat) (x : QueueState) : (s.setQ q x).dma = s.dma := by cases s; rfl
@[simp] theorem State.setQ_mgmt (s : State) (q : Nat) (x : QueueState) : (s.setQ q x).mgmt = s.mgmt := by cases s; rfl
@[simp] theorem State.setQ_power (s : State) (q : Nat) (x : QueueState) : (s.setQ q x).power = s.power := by cases s; rfl
@[simp] theorem State.setQ_now (s : State) (q : Nat) (x : QueueState) : (s.setQ q x).now = s.now := by cases s; rfl
@[simp] theorem State.setQ_wakeAt (s : State) (q : Nat) (x : QueueState) : (s.setQ q x).wakeAt = s.wakeAt := by cases s; rfl
@[simp] theorem State.setQ_position (s : State) (q : Nat) (x : QueueState) : (s.setQ q x).position = s.position := by cases s; rfl
@[simp] theorem State.setQ_feOos (s : State) (q : Nat) (x : QueueState) : (s.setQ q x).feOos = s.feOos := by cases s; rfl
@[simp] theorem State.setQ_dmaReq (s : State) (q : Nat) (x : QueueState) : (s.setQ q x).dmaReq = s.dmaReq := by cases s; rfl
@[simp] theorem State.setQ_scripts (s : State) (q : Nat) (x : QueueState) : (s.setQ q x).scripts = s.scripts := by cases s; rfl
@[simp] theorem State.setQ_free (s : State) (q : Nat) (x : QueueState) : (s.setQ q x).free = s.free := by cases s; rfl

@[simp] theorem State.modQ_pending (s : State) (q : Nat) (f : QueueState → QueueState) : (s.modQ q f).pending = s.pending := by cases s; rfl
@[simp] theorem State.modQ_regs (s : State) (q : Nat) (f : QueueState → QueueState) : (s.modQ q f).regs = s.regs := by cases s; rfl
@[simp] theorem State.modQ_shadow (s : State) (q : Nat) (f : QueueState → QueueState) : (s.modQ q f).shadow = s.shadow := by cases s; rfl
@[simp] theorem State.modQ_link (s : State) (q : Nat) (f : QueueState → QueueState) : (s.modQ q f).link = s.link := by cases s; rfl
@[simp] theorem State.modQ_fe (s : State) (q : Nat) (f : QueueState → QueueState) : (s.modQ q f).fe = s.fe := by cases s; rfl
@[simp] theorem State.modQ_clu (s : State) (q : Nat) (f : QueueState → QueueState) : (s.modQ q f).clu = s.clu := by cases s; rfl
@[simp] theorem State.modQ_pres (s : State) (q : Nat) (f : QueueState → QueueState) : (s.modQ q f).pres = s.pres := by cases s; rfl
@[simp] theorem State.modQ_eth (s : State) (q : Nat) (f : QueueState → QueueState) : (s.modQ q f).eth = s.eth := by cases s; rfl
@[simp] theorem State.modQ_time (s : State) (q : Nat) (f : QueueState → QueueState) : (s.modQ q f).time = s.time := by cases s; rfl
@[simp] theorem State.modQ_sched (s : State) (q : Nat) (f : QueueState → QueueState) : (s.modQ q f).sched = s.sched := by cases s; rfl
@[simp] theorem State.modQ_nvm (s : State) (q : Nat) (f : QueueState → QueueState) : (s.modQ q f).nvm = s.nvm := by cases s; rfl
@[simp] theorem State.modQ_alm (s : State) (q : Nat) (f : QueueState → QueueState) : (s.modQ q f).alm = s.alm := by cases s; rfl
@[simp] theorem State.modQ_bist (s : State) (q : Nat) (f : QueueState → QueueState) : (s.modQ q f).bist = s.bist := by cases s; rfl
@[simp] theorem State.modQ_dma (s : State) (q : Nat) (f : QueueState → QueueState) : (s.modQ q f).dma = s.dma := by cases s; rfl
@[simp] theorem State.modQ_mgmt (s : State) (q : Nat) (f : QueueState → QueueState) : (s.modQ q f).mgmt = s.mgmt := by cases s; rfl
@[simp] theorem State.modQ_power (s : State) (q : Nat) (f : QueueState → QueueState) : (s.modQ q f).power = s.power := by cases s; rfl
@[simp] theorem State.modQ_now (s : State) (q : Nat) (f : QueueState → QueueState) : (s.modQ q f).now = s.now := by cases s; rfl
@[simp] theorem State.modQ_wakeAt (s : State) (q : Nat) (f : QueueState → QueueState) : (s.modQ q f).wakeAt = s.wakeAt := by cases s; rfl
@[simp] theorem State.modQ_position (s : State) (q : Nat) (f : QueueState → QueueState) : (s.modQ q f).position = s.position := by cases s; rfl
@[simp] theorem State.modQ_feOos (s : State) (q : Nat) (f : QueueState → QueueState) : (s.modQ q f).feOos = s.feOos := by cases s; rfl
@[simp] theorem State.modQ_dmaReq (s : State) (q : Nat) (f : QueueState → QueueState) : (s.modQ q f).dmaReq = s.dmaReq := by cases s; rfl
@[simp] theorem State.modQ_scripts (s : State) (q : Nat) (f : QueueState → QueueState) : (s.modQ q f).scripts = s.scripts := by cases s; rfl
@[simp] theorem State.modQ_free (s : State) (q : Nat) (f : QueueState → QueueState) : (s.modQ q f).free = s.free := by cases s; rfl

@[simp] theorem State.answer_pending (s : State) (st : Nat) (ws : List Word) : (s.answer st ws).pending = s.pending := by cases s; rfl
@[simp] theorem State.answer_regs (s : State) (st : Nat) (ws : List Word) : (s.answer st ws).regs = s.regs := by cases s; rfl
@[simp] theorem State.answer_shadow (s : State) (st : Nat) (ws : List Word) : (s.answer st ws).shadow = s.shadow := by cases s; rfl
@[simp] theorem State.answer_link (s : State) (st : Nat) (ws : List Word) : (s.answer st ws).link = s.link := by cases s; rfl
@[simp] theorem State.answer_fe (s : State) (st : Nat) (ws : List Word) : (s.answer st ws).fe = s.fe := by cases s; rfl
@[simp] theorem State.answer_cfs (s : State) (st : Nat) (ws : List Word) : (s.answer st ws).cfs = s.cfs := by cases s; rfl
@[simp] theorem State.answer_clu (s : State) (st : Nat) (ws : List Word) : (s.answer st ws).clu = s.clu := by cases s; rfl
@[simp] theorem State.answer_pres (s : State) (st : Nat) (ws : List Word) : (s.answer st ws).pres = s.pres := by cases s; rfl
@[simp] theorem State.answer_eth (s : State) (st : Nat) (ws : List Word) : (s.answer st ws).eth = s.eth := by cases s; rfl
@[simp] theorem State.answer_time (s : State) (st : Nat) (ws : List Word) : (s.answer st ws).time = s.time := by cases s; rfl
@[simp] theorem State.answer_sched (s : State) (st : Nat) (ws : List Word) : (s.answer st ws).sched = s.sched := by cases s; rfl
@[simp] theorem State.answer_nvm (s : State) (st : Nat) (ws : List Word) : (s.answer st ws).nvm = s.nvm := by cases s; rfl
@[simp] theorem State.answer_alm (s : State) (st : Nat) (ws : List Word) : (s.answer st ws).alm = s.alm := by cases s; rfl
@[simp] theorem State.answer_bist (s : State) (st : Nat) (ws : List Word) : (s.answer st ws).bist = s.bist := by cases s; rfl
@[simp] theorem State.answer_dma (s : State) (st : Nat) (ws : List Word) : (s.answer st ws).dma = s.dma := by cases s; rfl
@[simp] theorem State.answer_power (s : State) (st : Nat) (ws : List Word) : (s.answer st ws).power = s.power := by cases s; rfl
@[simp] theorem State.answer_now (s : State) (st : Nat) (ws : List Word) : (s.answer st ws).now = s.now := by cases s; rfl
@[simp] theorem State.answer_wakeAt (s : State) (st : Nat) (ws : List Word) : (s.answer st ws).wakeAt = s.wakeAt := by cases s; rfl
@[simp] theorem State.answer_position (s : State) (st : Nat) (ws : List Word) : (s.answer st ws).position = s.position := by cases s; rfl
@[simp] theorem State.answer_feOos (s : State) (st : Nat) (ws : List Word) : (s.answer st ws).feOos = s.feOos := by cases s; rfl
@[simp] theorem State.answer_dmaReq (s : State) (st : Nat) (ws : List Word) : (s.answer st ws).dmaReq = s.dmaReq := by cases s; rfl
@[simp] theorem State.answer_scripts (s : State) (st : Nat) (ws : List Word) : (s.answer st ws).scripts = s.scripts := by cases s; rfl
@[simp] theorem State.answer_free (s : State) (st : Nat) (ws : List Word) : (s.answer st ws).free = s.free := by cases s; rfl

/-! A deviation counts and sets an event, and touches nothing but registers. -/

@[simp] theorem State.dev_pending (s : State) (i : Nat) : (s.dev i).pending = s.pending := by simp only [State.dev, State.wr_pending, State.setBit_pending, State.inc_pending]
@[simp] theorem State.dev_shadow (s : State) (i : Nat) : (s.dev i).shadow = s.shadow := by simp only [State.dev, State.wr_shadow, State.setBit_shadow, State.inc_shadow]
@[simp] theorem State.dev_link (s : State) (i : Nat) : (s.dev i).link = s.link := by simp only [State.dev, State.wr_link, State.setBit_link, State.inc_link]
@[simp] theorem State.dev_fe (s : State) (i : Nat) : (s.dev i).fe = s.fe := by simp only [State.dev, State.wr_fe, State.setBit_fe, State.inc_fe]
@[simp] theorem State.dev_cfs (s : State) (i : Nat) : (s.dev i).cfs = s.cfs := by simp only [State.dev, State.wr_cfs, State.setBit_cfs, State.inc_cfs]
@[simp] theorem State.dev_clu (s : State) (i : Nat) : (s.dev i).clu = s.clu := by simp only [State.dev, State.wr_clu, State.setBit_clu, State.inc_clu]
@[simp] theorem State.dev_pres (s : State) (i : Nat) : (s.dev i).pres = s.pres := by simp only [State.dev, State.wr_pres, State.setBit_pres, State.inc_pres]
@[simp] theorem State.dev_eth (s : State) (i : Nat) : (s.dev i).eth = s.eth := by simp only [State.dev, State.wr_eth, State.setBit_eth, State.inc_eth]
@[simp] theorem State.dev_time (s : State) (i : Nat) : (s.dev i).time = s.time := by simp only [State.dev, State.wr_time, State.setBit_time, State.inc_time]
@[simp] theorem State.dev_sched (s : State) (i : Nat) : (s.dev i).sched = s.sched := by simp only [State.dev, State.wr_sched, State.setBit_sched, State.inc_sched]
@[simp] theorem State.dev_nvm (s : State) (i : Nat) : (s.dev i).nvm = s.nvm := by simp only [State.dev, State.wr_nvm, State.setBit_nvm, State.inc_nvm]
@[simp] theorem State.dev_alm (s : State) (i : Nat) : (s.dev i).alm = s.alm := by simp only [State.dev, State.wr_alm, State.setBit_alm, State.inc_alm]
@[simp] theorem State.dev_bist (s : State) (i : Nat) : (s.dev i).bist = s.bist := by simp only [State.dev, State.wr_bist, State.setBit_bist, State.inc_bist]
@[simp] theorem State.dev_dma (s : State) (i : Nat) : (s.dev i).dma = s.dma := by simp only [State.dev, State.wr_dma, State.setBit_dma, State.inc_dma]
@[simp] theorem State.dev_mgmt (s : State) (i : Nat) : (s.dev i).mgmt = s.mgmt := by simp only [State.dev, State.wr_mgmt, State.setBit_mgmt, State.inc_mgmt]
@[simp] theorem State.dev_power (s : State) (i : Nat) : (s.dev i).power = s.power := by simp only [State.dev, State.wr_power, State.setBit_power, State.inc_power]
@[simp] theorem State.dev_now (s : State) (i : Nat) : (s.dev i).now = s.now := by simp only [State.dev, State.wr_now, State.setBit_now, State.inc_now]
@[simp] theorem State.dev_wakeAt (s : State) (i : Nat) : (s.dev i).wakeAt = s.wakeAt := by simp only [State.dev, State.wr_wakeAt, State.setBit_wakeAt, State.inc_wakeAt]
@[simp] theorem State.dev_position (s : State) (i : Nat) : (s.dev i).position = s.position := by simp only [State.dev, State.wr_position, State.setBit_position, State.inc_position]
@[simp] theorem State.dev_feOos (s : State) (i : Nat) : (s.dev i).feOos = s.feOos := by simp only [State.dev, State.wr_feOos, State.setBit_feOos, State.inc_feOos]
@[simp] theorem State.dev_dmaReq (s : State) (i : Nat) : (s.dev i).dmaReq = s.dmaReq := by simp only [State.dev, State.wr_dmaReq, State.setBit_dmaReq, State.inc_dmaReq]
@[simp] theorem State.dev_scripts (s : State) (i : Nat) : (s.dev i).scripts = s.scripts := by simp only [State.dev, State.wr_scripts, State.setBit_scripts, State.inc_scripts]
@[simp] theorem State.dev_free (s : State) (i : Nat) : (s.dev i).free = s.free := by simp only [State.dev, State.wr_free, State.setBit_free, State.inc_free]

@[simp] theorem State.cl_setCl_self (s : State) (k : Nat) (c : CluState) : (s.setCl k c).cl k = c := by simp [State.cl, State.setCl]

theorem State.cl_setCl_ne (s : State) {k j : Nat} (c : CluState) (h : j ≠ k) : (s.setCl k c).cl j = s.cl j := by
  simp [State.cl, State.setCl, Map.get_set_ne _ _ _ _ h]

@[simp] theorem State.cl_modCl_self (s : State) (k : Nat) (f : CluState → CluState) : (s.modCl k f).cl k = f (s.cl k) := by
  simp [State.modCl]

@[simp] theorem State.eng_setEng_self (s : State) (k e : Nat) (x : EngineState) : (s.setEng k e x).eng k e = x := by
  simp [State.eng, State.setEng]

theorem State.eng_setEng_ne (s : State) (k : Nat) {e j : Nat} (x : EngineState) (h : j ≠ e) : (s.setEng k e x).eng k j = s.eng k j := by
  simp [State.eng, State.setEng, Map.get_set_ne _ _ _ _ h]

@[simp] theorem State.chan_modChan_self (s : State) (c : Nat) (f : Channel → Channel) : (s.modChan c f).chan c = f (s.chan c) := by
  simp [State.chan, State.modChan]

theorem State.chan_modChan_ne (s : State) {c d : Nat} (f : Channel → Channel) (h : d ≠ c) : (s.modChan c f).chan d = s.chan d := by
  simp [State.chan, State.modChan, Map.get_set_ne _ _ _ _ h]

@[simp] theorem State.q_setQ_self (s : State) (q : Nat) (x : QueueState) : (s.setQ q x).q q = x := by simp [State.q, State.setQ]

@[simp] theorem State.q_modQ_self (s : State) (q : Nat) (f : QueueState → QueueState) : (s.modQ q f).q q = f (s.q q) := by
  simp [State.modQ]

end Sys2Proof.Machine
end

