-- ==== Sys2Proof/Tests/Slice0.lean ====
section
/-! SUPPORT. Tests: a witness for every statement with hypotheses, clause by clause, each with what the command does there; ill-formed
commands that the check refuses; bundles of the spec's worked examples. Expected values are the rules', worked out by hand. -/

namespace Sys2Proof.Tests

set_option Elab.async false

open Sys2Proof Sys2Proof.Machine

/-- Command `c` completes at `s` in a state with `p`. -/
def after (c : Instr) (s : State) (p : State → Bool) : Bool :=
  match exec c s with
  | .next t => p t
  | _ => false

/-- A device that runs its firmware in mode `m`, with every domain up. -/
def on (m : Nat) : State :=
  ({ State.reset with
      power := { State.reset.power with
        phase := .running, doms := List.replicate 8 .up, firmware := true, spiReady := true, pgood := true, pwrReq := true } } : State).wr PWR.MODE m

/-- A link in a state of training. -/
def withLink (n : Nat) (s : State) (l : LinkState) : State := s.setLnk n l

/-! ### Bus -/

theorem witness_StepRunsTheFrontCommand :
    step { State.reset with pending := [.nop] } = exec .nop { State.reset with pending := [] } := rfl

theorem witness_EmptyQueueIsOneCoreCycle :
    State.reset.pending = [] ∧ (on 4).pending = [] ∧ (on 4).power.phase = .running ∧ State.reset.power.phase ≠ .running ∧
      (on 4).time.y = 0 ∧
      (on 4).domOn 1 = true ∧ ({ on 4 with now := 4 } : State).now + 1 = 5 ∧ (on 4).dma.order = [] ∧ (on 4).dma.ctl = [] ∧ ((on 4).chan 31).ctlLeft = 0 ∧ (on 4).cfs.upsets = [] ∧
      ({ on 4 with cfs := { (on 4).cfs with walks := [[40, 44]] } } : State).cfs.walks = (40 :: [44]) :: [] ∧
      ({ on 4 with now := 4094 } : State).now + 1 ≠ 4096 := by decide +kernel

theorem witness_WriteOfAnEventEnable :
    (LNK.EVT 3, LNK.EVT_EN 3) ∈ blockEvents ∧ (BitVec.ofNat 32 0x1013000C).toNat = LNK.EVT_EN 3 ∧
      (on 4).domOn 1 = true ∧ (on 4).domOn ((windowDomain (LNK.EVT_EN 3)).getD 1) = true ∧ (on 4).windowTest (LNK.EVT_EN 3) = false ∧
      after (.registerWrite .spi 0x1013000C 0xFFFFFFFF) (on 4) (fun t => t.rd (LNK.EVT_EN 3) == 0x3FF && t.mgmt.answer.status == 0) = true := by decide +kernel

theorem witness_EventClearLosesNoEvent :
    PWR.FAULT_STAT ∈ clearRegs ∧ (on 4).domOn 1 = true ∧ (on 4).domOn 2 = true ∧
      after (.eventClear .core (BitVec.ofNat 32 PWR.FAULT_STAT) 6 4) ((on 4).wr PWR.FAULT_STAT 7) (fun t => t.rd PWR.FAULT_STAT == 5) = true ∧
      after (.eventClear .dma (BitVec.ofNat 32 (DMA.CH_EVT 31)) 3 2) ((on 4).wr (DMA.CH_EVT 31) 3) (fun t => t.rd (DMA.CH_EVT 31) == 2) = true ∧
      after (.eventClear .spi (BitVec.ofNat 32 (CFS.Q_STAT 1023)) 0x1000000 0) ((on 4).modQ 1023 (fun q => { q with hwm := true }))
        (fun t => !(t.q 1023).hwm) = true := by decide +kernel

theorem witness_CounterClearThenEvent :
    cntClear 0x1011013C = some (LNK.CV_CNT 1, 12) ∧ (on 4).domOn ((windowDomain 0x1011013C).getD 1) = true ∧ (on 4).windowTest 0x1011013C = false ∧
      after (.counterClear .spi 0x1011013C 0x801 0x803) (((on 4).wr (LNK.CV_CNT 1) 9).wr (LNK.CV_CNT 1 + 44) 7)
        (fun t => t.rd (LNK.CV_CNT 1) == 1 && t.rd (LNK.DISP_CNT 1) == 1 && t.rd (LNK.CV_CNT 1 + 44) == 1) = true ∧
      after (.counterClear .spi (BitVec.ofNat 32 CFS.Q_CNT_CLR) 0x103FF 0x30000) (((on 4).wr (CFS.Q_DROP_CNT 1023) 9).modQ 1023 (fun q => { q with xcnt := 255 }))
        (fun t => t.rd (CFS.Q_DROP_CNT 1023) == 1 && (t.q 1023).xcnt == 255) = true := by decide +kernel

/-- NET is off. -/
def netOff : State := (on 4).setDom 7 .off

theorem witness_PoweredDownBlockReadsZero :
    windowDomain (0x10070000 / 4 * 4) = some 7 ∧ netOff.domOn 1 = true ∧ netOff.domOn 7 = false ∧
      after (.offDomainAccess .spi 0x10070000 none) netOff (fun t => t.mgmt.answer == { status := 0, words := [0] } && t.rd SYS.OFF_ACCESS_CNT == 1) = true ∧
      after (.offDomainAccess .spi 0x10070000 (some 7)) netOff (fun t => t.rd TIME.CTL == netOff.rd TIME.CTL && t.rd SYS.OFF_ACCESS_CNT == 1) = true := by
  decide +kernel

theorem witness_ApertureReadsAndWritesTheCells :
    (on 6).domOn 2 = true ∧ (on 6).mode = 6 ∧ (on 4).mode ≠ 2 ∧ (on 4).mode ≠ 6 ∧
      after (.apertureWrite .core 0x2FFFFFF 0x11223344) (on 6) (fun t => Memory.readByte t.cfs.mem 0x2FFFFFC == 0x44) = true ∧
      after (.apertureWrite .core 0 1) (on 4) (fun t => t.cfs.mem == [] && t.rd CFS.APERTURE_REF_CNT == 1) = true ∧
      (on 6).cfs.upsets = [] ∧
      after (.apertureRead .core { o := 0x2FFFFFC }) (on 6) (fun t => t.mgmt.answer == { status := 0, words := [0] }) = true := by decide +kernel

theorem witness_SnapshotCopiesTheCounters :
    wbit 1 0 = true ∧ (on 4).bit SYS.SNAP_STAT 31 = false ∧ ((on 4).setBit SYS.SNAP_STAT 31).bit SYS.SNAP_STAT 31 = true ∧
      after (.snapshot .core 1) ((on 4).setBit SYS.SNAP_STAT 31) (fun t => t.rd SYS.SNAP_STAT == 0x80000000) = true ∧
      after .snapshotDone ((on 4).setBit SYS.SNAP_STAT 31) (fun t => t.rd SYS.SNAP_STAT == 0) = true := by decide +kernel

/-! ### Links -/

/-- Link 15 enabled, in `l`. -/
def lnk (l : LinkState) : State := ((on 4).wr (LNK.CTL 15) 1).setLnk 15 l

/-- Link 15 in ACTIVE. -/
def up : LinkState := { training := .active, bscOn := true, sigDet := true }

theorem witness_LinkTraining :
    (lnk {}).bit (LNK.CTL 15) 0 = true ∧ (lnk {}).eqFrozen 15 = false ∧ (lnk { frozen := true }).eqFrozen 15 = true ∧ (lnk {}).nearLoop 15 = false ∧ ((lnk {}).lnk 15).sounding = .idle ∧
      after (.trainHoldEnd 15) (lnk {}) (fun t => (t.lnk 15).training == .bcTrain && (t.lnk 15).bscOn) = true ∧
      after (.ftsDetected 15) (lnk { training := .bcTrain }) (fun t => (t.lnk 15).training == .fwTrain) = true ∧
      after (.ftsDetected 15) (lnk { training := .bcTrain, frozen := true }) (fun t => !(t.lnk 15).frozen) = true ∧
      after (.adaptSettled 15 3 200 [500, -500]) (lnk { training := .fwTrain }) (fun t => (t.lnk 15).bts2 && (t.lnk 15).eye == 200) = true ∧
      after (.adaptSettled 15 3 200 [500, -500]) (lnk { training := .fwTrain, frozen := true, ctle := 9 }) (fun t => (t.lnk 15).bts2 && (t.lnk 15).ctle == 9 && (t.lnk 15).taps == [0, 0, 0, 0, 0, 0]) = true ∧
      after (.forwardIdleArrive 15) (lnk { training := .fwTrain, bts2 := true }) (fun t => (t.lnk 15).training == .align && (t.lnk 15).bts2) = true ∧
      after (.commaLock 15) (lnk { training := .align, bts2 := true }) (fun t => (t.lnk 15).commaLock && !(t.lnk 15).bts2) = true ∧
      after (.alignComplete 15) { lnk { training := .align, commaLock := true, validFrom := 36 } with now := 100 } (fun t => (t.lnk 15).training == .active && t.bit (LNK.EVT 15) 0) = true ∧
      after (.alignComplete 15) { lnk { training := .align, commaLock := true, validFrom := 37 } with now := 100 } (fun t => (t.lnk 15).training == .align) = true ∧
      after (.trainTimeout 15) (lnk { training := .align }) (fun t => (t.lnk 15).training == .reset && (t.lnk 15).hold == .long && t.rd (LNK.TRAIN_FAIL_CNT 15) == 1)
        = true := by decide +kernel

theorem witness_LinkControlAndLoss :
    (on 4).bit (LNK.CTL 15) 0 = false ∧ (lnk up).bit (LNK.CTL 15) 0 = true ∧ ((lnk up).lnk 15).training = .active ∧
      after (.linkEnable 15 5) (on 4) (fun t => t.rd (LNK.CTL 15) == 5 && (t.lnk 15).hold == .short) = true ∧
      after (.linkDisable 15 4) (lnk up) (fun t => t.rd (LNK.CTL 15) == 4 && (t.lnk 15).training == .reset) = true ∧
      after (.linkRetrain 15 17) (lnk up) (fun t => t.rd (LNK.CTL 15) == 1 && (t.lnk 15).training == .reset) = true ∧
      after (.lossOfSignal 15) (lnk up) (fun t => (t.lnk 15).hold == .long && t.rd (LNK.LOS_CNT 15) == 1 && t.bit (LNK.EVT 15) 1) = true ∧
      after (.alignmentLoss 15 true) (lnk up) (fun t => (t.lnk 15).training == .align && (t.lnk 15).bts2 && t.rd (LNK.ABORT_CNT 15) == 1) = true := by decide +kernel

theorem witness_EqualiserAdapts :
    (lnk up).eqFrozen 15 = false ∧ (lnk { up with frozen := true }).eqFrozen 15 = true ∧ (lnk up).bit (LNK.EQ_CTL 15) 4 = false ∧
      (lnk up).getF (LNK.EQ_CTL 15) 0 3 = 3 ∧ (lnk up).tapBound 15 0 = 96 ∧
      after (.tapUpdate 15 5 511) (lnk up) (fun t => (t.lnk 15).taps == [0, 0, 0, 0, 0, 0] && (t.lnk 15).acc == [0, 0, 0, 0, 0, 511]) = true ∧
      after (.tapUpdate 15 5 1) (lnk { up with acc := [0, 0, 0, 0, 0, 511] }) (fun t => (t.lnk 15).taps == [0, 0, 0, 0, 0, 1] && (t.lnk 15).acc == [0, 0, 0, 0, 0, 0]) = true ∧
      after (.tapUpdate 15 5 600) (lnk { up with frozen := true }) (fun t => t == lnk { up with frozen := true }) = true ∧
      after (.ctleStep 15 92 96) (lnk { up with ctle := 15, h1Lo := 92, h1Hi := 96 }) (fun t => (t.lnk 15).ctle == 15) = true ∧
      after (.ctleStep 15 92 96) (lnk { up with ctle := 14, h1Lo := 92, h1Hi := 96 }) (fun t => (t.lnk 15).ctle == 15) = true ∧
      after (.ctleStep 15 0 23) (lnk { up with ctle := 14, h1Hi := 23 }) (fun t => (t.lnk 15).ctle == 13) = true ∧
      after (.eqFreeze 15) (lnk up) (fun t => t.eqFrozen 15) = true ∧ after (.eqResume 15) (lnk up) (fun t => !t.eqFrozen 15) = true ∧
      after (.tapUpdate 15 0 600) (lnk { up with taps := [96, 0, 0, 0, 0, 0] }) (fun t => (t.lnk 15).taps == [96, 0, 0, 0, 0, 0] && t.rd (LNK.CLAMP_CNT 15) == 1 && t.bit (LNK.EVT 15) 5) = true ∧
      after (.tapUpdate 15 0 600) (lnk { up with taps := [96, 0, 0, 0, 0, 0], clampWin := [1, 0, 0, 0, 0, 0] }) (fun t => t.rd (LNK.CLAMP_CNT 15) == 0) = true ∧
      after (.tapUpdate 15 0 (-600)) (lnk { up with taps := [-96, 0, 0, 0, 0, 0] }) (fun t => (t.lnk 15).taps == [-96, 0, 0, 0, 0, 0] && t.rd (LNK.CLAMP_CNT 15) == 1) = true ∧
      after (.tapUpdate 15 5 600) (lnk { up with eidle := true }) (fun t => t == lnk { up with eidle := true }) = true ∧
      after (.ctleStep 15 92 96) (lnk { up with frozen := true, h1Hi := 96 }) (fun t => t == lnk { up with frozen := true, h1Hi := 96 }) = true ∧
      (lnk { up with h1Lo := 0, h1Hi := 23 }).lnk 15 = { (lnk { up with h1Hi := 23 }).lnk 15 with h1Lo := 0 } ∧ (lnk { training := .align }).lnk 15 = { training := .align } := by decide +kernel

theorem witness_ElectricalIdle :
    ((lnk { up with idleEntry := true, idleOkSent := true }).lnk 15).training = .active ∧
      after (.eidleEntry 15) (lnk { up with idleEntry := true, idleOkSent := true }) (fun t => (t.lnk 15).eidle) = true ∧
      after (.eidleExit 15 (some 63) 48 true) (lnk { up with eidle := true }) (fun t => (t.lnk 15).training == .active && !(t.lnk 15).eidle) = true ∧
      after (.eidleExit 15 none 48 true) (lnk { up with eidle := true }) (fun t => (t.lnk 15).training == .align && t.rd (LNK.EIDLE_MISS_CNT 15) == 1) = true ∧
      after (.eidleTimeout 15) (lnk { up with eidle := true }) (fun t => (t.lnk 15).training == .reset && t.rd (LNK.LOS_CNT 15) == 1) = true := by decide +kernel

/-- A sensor status packet: FLAGS 1, TEMP, then zeros. -/
def statusPacket : RxPacket := goodPacket (packetHeader 0x20 0 0 8 0) [0x13, 2, 3, 4, 0, 0, 0, 0]

theorem witness_SensorStatusIsTaken :
    ((lnk up).lnk 15).training = .active ∧
      after (.sensorStatusPacket 15 statusPacket) (lnk up)
        (fun t => t.rd (LNK.CAM_STAT 15) == 0x03040213 && (t.lnk 15).idleEntry && t.bit (LNK.EVT 15) 8) = true := by decide +kernel

/-- The packet with its header CRC damaged. -/
def badHeader : RxPacket := { statusPacket with header := statusPacket.header.take 7 ++ [nth 0 statusPacket.header 7 ^^^ 1] }

theorem witness_LinkErrorsAreCounted :
    8 ≤ badHeader.header.length ∧ (nth 0 badHeader.header 7).toNat ≠ crc8 (badHeader.header.take 7) ∧
      after (.videoLinePacket 15 badHeader) (lnk up) (fun t => t.rd (LNK.HCRC_CNT 15) == 1) = true ∧
      after (.frameStartPacket 15 { header := [1, 2], body := [], ending := .abort }) (lnk up) (fun t => t.rd (LNK.ABORT_CNT 15) == 1) = true ∧
      after (.symbolError 15 (some .violation) false) (lnk up) (fun t => t.rd (LNK.CV_CNT 15) == 1 && t.rd (LNK.DISP_CNT 15) == 0) = true ∧
      ((lnk up).wr (LNK.LOOP_CTL 15) 1).nearLoop 15 = true ∧
      after (.symbolError 15 none true) ((lnk up).wr (LNK.LOOP_CTL 15) 1) (fun t => t.rd (LNK.LB_ERR_CNT 15) == 1 && t.rd (LNK.CV_CNT 15) == 0) = true ∧
      headerOk (badHeader.header.take 8) = false ∧ headerOk (statusPacket.header.take 8) = true ∧ headerOk (packetHeader 0x77 0 0 8 0) = false ∧ headerOk (packetHeader 0x20 0 0 16385 0) = false ∧
      after (.bcResponsePacket 15 badHeader) (lnk up) (fun t => t.rd (LNK.HCRC_CNT 15) == 1 && t == { lnk up with regs := t.regs }) = true ∧
      after (.videoLinePacket 15 { header := [1, 2], body := [], ending := .eop }) (lnk up) (fun t => t.rd (LNK.HCRC_CNT 15) == 1) = true ∧
      after (.sensorStatusPacket 15 { statusPacket with ending := .abort }) (lnk up) (fun t => t.rd (LNK.ABORT_CNT 15) == 1 && t.rd (LNK.CAM_STAT 15) == 0) = true := by decide +kernel

/-- A request of the host: an I2C write. -/
def hostRequest : BcRequest := { src := .host, type := 0x40, payload := [0x20, 0, 1, 0, 0x55] }

theorem witness_BackChannel :
    after (.keepaliveDue 15) (lnk up) (fun t => (t.lnk 15).inFlight.isSome && t.rd (LNK.LOOP_CTL 15) == 0) = true ∧
      after (.bcPacketComplete 15) (lnk { up with inFlight := some (.request hostRequest 128) })
        (fun t => (t.lnk 15).outstanding == [{ src := .host, tag := 128 }] && (t.lnk 15).inFlight.isNone) = true ∧
      ((lnk { up with inFlight := some (.keepalive 0 false false) }).lnk 15).hostBusy = false ∧ (lnk up).windowTest (LNK.BC_REQ_CTL 15) = false ∧ bcLengthOk 0x60 2 = true ∧ bcLengthOk 0x41 4 = false ∧
      after (.bcReqGo 15 0x10260) (lnk { up with inFlight := some (.keepalive 0 false false) }) (fun t => (t.lnk 15).hostBusy && (t.lnk 15).requests.length == 1) = true ∧
      after (.bcReqGo 15 0x10441) (lnk up) (fun t => t.rd (LNK.BC_RSP_STAT 15) == 7 && t.bit (LNK.EVT 15) 3) = true ∧
      ((lnk { up with requests := [hostRequest] }).lnk 15).hostBusy = true ∧
      after (.bcResponsePacket 15 (goodPacket (packetHeader 0x30 0 0 4 0) [128, 5, 0xAB, 0xCD])) (lnk { up with outstanding := [{ src := .host, tag := 128 }] })
        (fun t => t.rd (LNK.BC_RSP_STAT 15) == 0x800205 && t.rd (LNK.BC_RSP_DATA 15 0) == 0xCDAB && (t.lnk 15).outstanding == []) = true ∧
      after (.bcRequestTimeout 15 128) (lnk { up with outstanding := [{ src := .host, tag := 128 }] })
        (fun t => t.rd (LNK.BC_RSP_STAT 15) == 0x800006 && t.rd (LNK.BC_TO_CNT 15) == 1) = true ∧
      after (.bcPacketComplete 15) (lnk { up with inFlight := some (.request hostRequest 128), requests := [hostRequest], tagCount := 1, outstanding := List.replicate 2 { src := .host, tag := 3 } })
        (fun t => (t.lnk 15).inFlight == some (.request hostRequest 129) && (t.lnk 15).requests == [] && (t.lnk 15).outstanding.length == 3) = true ∧
      after (.bcPacketComplete 15) ((lnk { up with inFlight := some (.request hostRequest 128), requests := [hostRequest], outstanding := List.replicate 3 { src := .host, tag := 3 } }).wr (LNK.LOOP_CTL 15) 3)
        (fun t => (t.lnk 15).requests == [hostRequest] && (t.lnk 15).inFlight == some (.loopTest (beBytes 20 (prbsBits 160 (up.prbs) 0).2))) = true ∧
      (lnk up).getF (LNK.LOOP_CTL 15) 0 2 ≠ 3 ∧ ((lnk up).lnk 15).script = [] := by decide +kernel

/-- Link 15 in ACTIVE, used by the scene. -/
def used : State := (lnk up).modFe 15 (fun f => { f with inScene := true })

theorem witness_LoopbackAndSounding :
    (lnk up).linkTestOk 15 = true ∧ used.linkTestOk 15 = false ∧
      (lnk up).domOn ((windowDomain (LNK.LOOP_CTL 15)).getD 1) = true ∧ (lnk up).windowTest (LNK.LOOP_CTL 15) = false ∧
      after (.linkLoopbackSelect 15 2) (lnk up) (fun t => t.rd (LNK.LOOP_CTL 15) == 2 && (t.lnk 15).training == .reset) = true ∧
      after (.linkLoopbackSelect 15 3) used (fun t => t.rd (LNK.LOOP_CTL 15) == 0 && t.bit (LNK.EVT 15) 7) = true ∧
      after (.loopbackReturnTimeout 15) ((lnk { up with loopOut := [.loopTest []] }).wr (LNK.LOOP_CTL 15) 3) (fun t => t.rd (LNK.LB_ERR_CNT 15) == 1) = true ∧
      after (.soundStart 15 1) (lnk up) (fun t => (t.lnk 15).sounding == .running) = true ∧
      after (.soundStart 15 1) used (fun t => t.rd (LNK.SOUND_STAT 15) == 3) = true ∧
      after (.soundingAbort 15 [1, 2, 3, 4, 5]) (lnk { sounding := .running })
        (fun t => t.rd (LNK.SOUND_BUF 15 0) == 0x04030201 && t.rd (LNK.SOUND_BUF 15 1) == 5 && t.rd (LNK.SOUND_BUF 15 2) == 0 && t.rd (LNK.SOUND_STAT 15) % 65536 == 2)
        = true ∧
      ((lnk up).lnk 15).kaDue = false ∧ ((lnk up).lnk 15).triggers = [] ∧ ((lnk up).lnk 15).inFlight = none ∧
      after (.linkLoopbackSelect 15 3) (lnk up) (fun t => t.rd (LNK.LOOP_CTL 15) == 3 && (t.lnk 15).inFlight == some (.loopTest (beBytes 20 (prbsBits 160 up.prbs 0).2))) = true ∧
      after (.linkLoopbackSelect 15 0) ((lnk { up with loopOut := [.loopTest []] }).wr (LNK.LOOP_CTL 15) 3) (fun t => t.rd (LNK.LOOP_CTL 15) == 0 && (t.lnk 15).training == .reset && (t.lnk 15).hold == .short && (t.lnk 15).loopOut == []) = true := by decide +kernel

/-! ### Front ends -/

/-- Front end `n` in the scene and enabled, GEOM 4 × 2, link `n` in ACTIVE, RAW8, every stage bypassed. -/
def scene (n : Nat) : State :=
  (((((on 4).wr (LNK.CTL n) 1).wr (FE.GEOM n) 0x00020004).wr (FE.CTL n) 0x17F).setLnk n up).modFe n (fun f => { f with inScene := true, embQ := some 5 })

/-- An entry at slot 3: deadlines at 100, 110, ..., write times at 200, 210, ..., close at 1,000 cycles of its period. -/
def feEntry : FeEntry := { slot := 3, close := 1000, dl := 2560, d0 := [100], wr0 := 200 }

/-- `s` in slot 3 of the period that started at cycle 50, with the entry in the table of front end 15 and of front end 17. -/
def at3 (s : State) : State :=
  { s with now := 60, sched := { s.sched with slot := 3, startCycle := 50, cur := { s.sched.cur with fe := List.replicate 18 (0x00020004, [feEntry]) } } }

/-- A frame of 4 × 2 samples is open, since cycle 50. -/
def frame42 : FeFrame := { num := 1, width := 4, height := 2, entry := feEntry, base := 50 }

/-- The core cycle `n`. -/
def cyc (n : Nat) (s : State) : State := { s with now := n }

/-- The scene with frame `f` open. -/
def opened (n : Nat) (f : FeFrame) : State := (scene n).modFe n (fun x => { x with frame := some f })

/-- Front end 15 is under test. -/
def tested (s : State) : State := { s with bist := { s.bist with testing := [{ unit := 23, logic := true, mem := false }] } }

theorem witness_FrameOpensAndCloses :
    (nth (0, []) ((at3 (scene 15)).tableSet false).fe 15).2[0]? = some feEntry ∧ (at3 (scene 15)).entryNow 31 false 3 false = true ∧
      (at3 (scene 15)).entryNow 31 true 3 false = false ∧ (nth (0, []) ((at3 (scene 15)).tableSet true).fe 15).2[0]? = none := by decide +kernel

theorem witness_FrameOpensAndCloses_commands :
    ((scene 15).fes 15).inScene = true ∧ ((opened 15 frame42).fes 15).frame = some frame42 ∧
      after (.frameOpenTime ⟨15, false, 0⟩) (at3 ((scene 15).wr (FE.FRAME_NUM 15) 0xFFFFFFFF))
        (fun t => t.rd (FE.FRAME_NUM 15) == 0 && (t.fes 15).frame.any (fun f => f.width == 4 && f.height == 2 && !f.absent && f.base == 50)) = true ∧
      after (.frameOpenTime ⟨15, false, 0⟩) ((at3 (scene 15)).modSched (fun c => { c with slot := 4 })) (fun t => (t.fes 15).frame == none) = true ∧
      after (.frameOpenTime ⟨15, false, 0⟩) (at3 (opened 15 frame42)) (fun t => t.fe == (opened 15 frame42).fe) = true ∧
      after (.frameOpenTime ⟨15, false, 0⟩) (at3 ((scene 15).setLnk 15 {})) (fun t => (t.fes 15).frame.any (·.absent) && t.rd (FE.ABSENT_FRAME_CNT 15) == 1) = true ∧
      after (.frameCloseTime 15) (cyc 1049 (opened 15 frame42)) (fun t => (t.fes 15).frame == some frame42) = true ∧
      after (.frameCloseTime 15) (cyc 1050 (opened 15 { frame42 with short := true }))
        (fun t => (t.fes 15).frame == none && t.rd (FE.SHORT_FRAME_CNT 15) == 1 && t.rd (FE.LONG_FRAME_CNT 15) == 0) = true ∧
      (scene 15).underTest (8 + 15) = false ∧ (tested (scene 15)).underTest (8 + 15) = true ∧
      after (.frameOpenTime ⟨15, false, 0⟩) (at3 (tested (scene 15))) (fun t => t == at3 (tested (scene 15))) = true ∧
      after (.frameCloseTime 15) (cyc 1050 (tested (opened 15 frame42))) (fun t => t == cyc 1050 (tested (opened 15 frame42))) = true := by decide +kernel

/-- Line 1 of exposure 0 has come. -/
def line1 : FeFrame := { frame42 with lines := [(1, { got := true, px := [(1, false), (2, false), (3, false), (4, false)] })] }

theorem witness_LineDeadlineFills :
    ((opened 15 line1).fes 15).frame = some line1 ∧ ((opened 15 line1).fes 15).rows = [] ∧
      after (.lineDeadline 15 0 0) (cyc 149 (opened 15 line1)) (fun t => (t.fes 15).frame == some line1) = true ∧
      after (.lineDeadline 15 0 2) (cyc 900 (opened 15 line1)) (fun t => (t.fes 15).frame == some line1) = true ∧
      after (.lineDeadline 15 0 0) (cyc 150 (opened 15 line1))
        (fun t => (t.fes 15).frame.any (fun g => g.fills == 1 && g.short) && t.rd (FE.MISSING_LINE_CNT 15) == 1) = true ∧
      after (.lineDeadline 15 0 1) (cyc 160 (opened 15 line1))
        (fun t => (t.fes 15).frame.any (fun g => g.fills == 0 && !g.short) && t.rd (FE.MISSING_LINE_CNT 15) == 0) = true ∧
      ((opened 15 line1).fes 15).rows.find? (fun y => y.row == 1) = none ∧ (({ num := 0, row := 1, item := none, part := true, dyn := 3, due := 260 } : FeRow)).row = 1 ∧
      after (.lineWriteSlot 15 1) (cyc 259 (opened 15 line1)) (fun t => (t.fes 15).frame == some line1) = true ∧
      after (.lineWriteSlot 15 1) (cyc 260 ((scene 15).modFe 15 (fun x => { x with rows := [{ num := 0, row := 1, item := none, part := true, dyn := 3, due := 260 }] })))
        (fun t => (t.fes 15).rows == [] && t.rd (FE.MERGE_PART_CNT 15) == 1 && t.rd (FE.DPC_DYN_CNT 15) == 3) = true ∧
      after (.lineWriteSlot 15 1) (cyc 260 (opened 15 line1)) (fun t => (t.fes 15).frame.any (fun g => g.written == 2)) = true ∧
      (opened 15 line1).underTest (8 + 15) = false ∧ (tested (opened 15 line1)).underTest (8 + 15) = true ∧
      after (.lineDeadline 15 0 0) (cyc 150 (tested (opened 15 line1))) (fun t => t == cyc 150 (tested (opened 15 line1))) = true ∧
      after (.lineWriteSlot 15 1) (cyc 260 (tested (opened 15 line1))) (fun t => t == cyc 260 (tested (opened 15 line1))) = true := by decide +kernel

theorem witness_FramePacketsAreTaken :
    ((opened 15 frame42).lnk 15).training = .active ∧ (opened 15 frame42).feTakes 15 = true ∧ (opened 15 frame42).underTest 23 = false ∧
      (opened 15 frame42).getF (FE.MERGE_CFG 15) 0 2 = 1 ∧ (opened 15 frame42).getF (FE.SRC 15) 16 4 = 0 ∧
      (opened 15 frame42).bit (FE.CTL 15) 8 = true ∧ ((opened 15 frame42).fes 15).embQ = some 5 ∧
      after (.frameStartPacket 15 (goodPacket (packetHeader 0x01 (16 * (opened 15 frame42).getF (FE.SRC 15) 0 4) 65535 0 0) [])) (opened 15 frame42)
        (fun t => t.rd (FE.SENSOR_FC 15) == 65535 && (t.fes 15).frame.any (·.fs)) = true ∧
      after (.frameEndPacket 15 (goodPacket (packetHeader 0x02 (16 * (opened 15 frame42).getF (FE.SRC 15) 0 4) 0 0 0) [])) (opened 15 frame42)
        (fun t => (t.fes 15).frame.any (·.fe)) = true ∧
      after (.videoLinePacket 15 (goodPacket (packetHeader 0x10 (16 * (opened 15 frame42).getF (FE.SRC 15) 0 4) 1 4 0) [9, 8, 7, 6])) (opened 15 frame42)
        (fun t => (t.fes 15).frame.any (fun g => g.anyLine && (Map.get {} g.lines 1).px == [(9, false), (8, false), (7, false), (6, false)])) = true ∧
      after (.embeddedLinePacket 15 (goodPacket (packetHeader 0x12 (16 * (opened 15 frame42).getF (FE.SRC 15) 20 4) 0 2 0) [1, 2])) (opened 15 frame42)
        (fun t => t == (opened 15 frame42).push 5 15 [1, 2]) = true := by decide +kernel

/-- Parallel port 1 enabled, sampling the rising edge, PP_VSYNC and PP_HSYNC active high, before a frame. -/
def pp (f : FeState) : State := ((((on 4).wr (FE.CTL 17) 1).wr (FE.PP_CFG 17) 6).wr (FE.PP_TIMING 17) 0).setFe 17 f

/-- One pixel clock with the pixel `d`, valid or not, PP_VSYNC active or not; the falling edge shows the opposite. -/
def clk (d : Nat) (valid vs : Bool) : PpClock :=
  { rise := { d := BitVec.ofNat 16 d, hs := valid, vs := vs, de := !valid }, fall := { d := 0, hs := !valid, vs := !vs, de := valid } }

theorem witness_ParallelPortAndTables :
    (pp {}).bit (FE.CTL (16 + (1 : Fin 2))) 0 = true ∧ (pp {}).underTest (24 + (1 : Fin 2)) = false ∧
      ppVsync (pp {}) 17 (clk 0 false true) = true ∧ ppValid (pp {}) 17 (clk 0 false true) = false ∧ ppValid (pp {}) 17 (clk 5 true true) = true ∧
      ppVsync (pp {}) 17 (clk 0 false false) = false ∧ (pp {}).feBits 17 = 8 ∧
      after (.ppFrameStart 1 [clk 0 false true]) (pp { ppFc := 65535, ppVs := false }) (fun t => (t.fes 17).ppPresent && (t.fes 17).ppFrame && (t.fes 17).ppFc == 0) = true ∧
      after (.ppLineRun 1 [clk 5 true true, clk 0 false true]) (pp { ppFrame := true }) (fun t => (t.fes 17).ppRuns == 1 && (t.fes 17).ppOpen == none) = true ∧
      after (.ppLineRun 1 [clk 5 true true, clk 0x1FF true true, clk 0 false true]) (pp { ppFrame := true, inScene := true, frame := some frame42 })
        (fun t => (t.fes 17).frame.any (fun g => (Map.get {} g.lines 0).px == [(5, false), (0xFF, false), (0, true), (0, true)])) = true ∧
      after (.ppLineRun 1 [clk 5 true false, clk 6 true false, clk 0 false false]) (pp { ppVs := false }) (fun t => t.rd (FE.PP_SYNC_ERR_CNT 17) == 2) = true ∧
      after (.ppFrameEnd ⟨1, [clk 0 false false]⟩) (pp { ppFrame := true }) (fun t => !(t.fes 17).ppFrame) = true ∧
      after (.ppAbsent 1) (pp { ppPresent := true }) (fun t => !(t.fes 17).ppPresent && t.rd (FE.PP_LOSS_CNT 17) == 1) = true ∧
      (on 4).windowTest (FE.LSC_GAIN 15 577) = false ∧ (on 4).domOn ((windowDomain (FE.LSC_GAIN 15 577)).getD 1) = true ∧
      (on 6).mode = 6 ∧ (scene 15).mode ≠ 6 ∧ ((on 4).fes 17).inScene = false ∧
      after (.feTableWrite 15 false 577 7) (on 4) (fun t => t.rd (FE.LSC_GAIN 15 577) == 7) = true ∧
      after (.feTableWrite 17 true 4095 0xFFFFFFFF) (on 4) (fun t => t.rd (FE.DPC_MAP 17 4095) &&& 0x9FFF1FFF == 0x9FFF1FFF) = true ∧
      after (.feTableWrite 15 false 0 7) (scene 15) (fun t => t.bit (FE.EVT 15) 10) = true := by decide +kernel

/-! ### The Central Frame Store -/

/-- Queue 1023 in `x`, the store ready, 8 free cells in each quad. -/
def store (x : QueueState) : State :=
  ({ on 4 with cfs := { (on 4).cfs with ready := true, free := [[(0, 8)], [(1, 8)], [(2, 8)], [(3, 8)]] } } : State).setQ 1023
    { x with en := true, prod := 3, cons := 31, quota := 4, marker := 196607 }

/-- Items in the states an item passes through. -/
def written : CfsItem := { len := 2, cells := [4] }
def waiting : CfsItem := { len := 2, cells := [8], committed := true }
def claimedItem : CfsItem := { len := 2, cells := [12], committed := true, claimed := true }
def full : CfsItem := { len := 1024, cells := [12, 16, 20, 24], committed := true, claimed := true }
def unwritten : CfsItem := { len := 258, cells := [4], rest := [5, 6] }

/-- What has struck the store. -/
def struckBy (us : List Config.StoreUpset) (s : State) : State := { s with cfs := { s.cfs with upsets := us } }

theorem witness_PushAddsOneItemOrDropsIt :
    (store {}).pushAllowed (1023 : Fin 1024) (3 : Fin 32) [7, 8].length = true ∧ (store {}).quotaOk (1023 : Fin 1024) (cellsOf 2) = true ∧ (store {}).poolOk (1023 : Fin 1024) (cellsOf 2) = true ∧
      (store {}).quotaOk 1023 (cellsOf 1281) = false ∧ (store {}).pushAllowed 1023 4 2 = false ∧ (store {}).pushAllowed 1023 3 0 = false ∧
      ((store {}).q 1023).items = [] ∧ ((store {}).cfs.takeFrom (Map.get 0 (store {}).cfs.rot 3) 4).any (fun x => x.1 == 0 && x.2.1 == 0) = true ∧
      after (.itemPush 1023 3 [7, 8] {}) (store {})
        (fun t => (t.q 1023).items == [{ len := 2, cells := [0], rest := [] }] && Memory.read t.cfs.mem 0 2 == [7, 8] && nth [] t.cfs.free 0 == [(4, 7)]) = true ∧
      (store { items := [full] }).poolOk 1023 (cellsOf 1) = true ∧ (store { items := [full] }).quotaOk 1023 (cellsOf 1) = false ∧
      ((store { items := [full] }).q 1023).occ + cellsOf 1 ≤ ((store { items := [full] }).q 1023).quota + full.cells.length ∧
      after (.itemPush 1023 3 [7] { rel := true }) (store { items := [full] }) (fun t => (t.q 1023).items == [{ len := 1, cells := [0], rest := [] }]) = true ∧
      after (.itemPush 1023 3 [7] {}) ((store {}).modQ 1023 (fun q => { q with quota := 0 }))
        (fun t => t.rd (CFS.Q_DROP_CNT 1023) == 1 && t.rd CFS.DROP_CNT == 1) = true ∧
      after (.itemPush 1023 4 [7] {}) (store {}) (fun t => t.rd CFS.OP_ERR_CNT == 1 && t.cfs == (store {}).cfs) = true ∧
      (store {}).cfs.upsets = [] ∧ (struckBy [.tail 1023] (store {})).pushAllowed 1023 3 2 = true ∧
      after (.itemPush 1023 3 [7] { rel := true }) (store { items := [full] }) (fun t => t.cfs.back == [12, 16, 20, 24]) = true ∧
      after (.itemPush 1023 3 [7, 8] {}) (struckBy [.tail 1023] (store { items := [waiting] })) (fun t => t.cfs.upsets == [] && t.bit CFS.EVT 2 && t.rd CFS.PTR_ERR_CNT == 1 && t.cfs.orphansNew == [8]) = true := by decide +kernel

theorem witness_PopClaimsTheOldestItem :
    ((store { items := [claimedItem, waiting, written], stall := 1 }).q (1023 : Fin 1024)).items = [claimedItem] ++ waiting :: [written] ∧
      [claimedItem].all (fun x => !(x.committed && !x.claimed)) = true ∧ (store {}).popAllowed 1023 31 = true ∧ (store {}).popAllowed 1023 3 = false ∧
      ((store { items := [written] }).q 1023).udepth = 0 ∧
      after (.queuePop 1023 31 {}) (store { items := [claimedItem, waiting, written] })
        (fun t => (t.q 1023).items == [claimedItem, { waiting with claimed := true }, written]) = true ∧
      after (.stalledPopServe 1023 {}) (store { items := [waiting], stall := 1 }) (fun t => (t.q 1023).stall == 0) = true ∧
      after (.queuePop 1023 31 {}) (store { items := [written] }) (fun t => (t.q 1023).stall == 1) = true ∧
      after (.queuePop 1023 3 {}) (store {}) (fun t => t.rd CFS.OP_ERR_CNT == 1) = true ∧
      after (.queuePop 1023 31 { ptr := true }) (store { items := [waiting] })
        (fun t => (t.q 1023).items == [{ kind := .reset, len := 40, cells := [196607] }] && t.cfs.orphansNew == [8] && (t.q 1023).stall == 1 && t.rd CFS.PTR_ERR_CNT == 1) = true ∧
      after (.popCancel 1023) (store { stall := 1 }) (fun t => (t.q 1023).stall == 0 && t.rd CFS.CANCEL_CNT == 1) = true ∧
      after (.popCancel 1023) (store {}) (fun t => t == store {}) = true ∧
      after (.queuePop 1023 31 {}) (struckBy [.head 1023] (store { items := [waiting] }))
        (fun t => (t.q 1023).items.map (·.kind) == [.reset] && (t.q 1023).stall == 1 && t.rd CFS.PTR_ERR_CNT == 1) = true ∧
      ((store { items := [waiting], stall := 2 }).q 1023).canClaim = true ∧
      after (.stalledPopServe 1023 { ptr := true }) (store { items := [waiting], stall := 2 }) (fun t => (t.q 1023).items.map (·.kind) == [.reset] && (t.q 1023).stall == 2) = true ∧
      after (.stalledPopServe 1023 {}) (struckBy [.head 1023] (store { items := [waiting], stall := 2 })) (fun t => (t.q 1023).items.map (·.kind) == [.reset] && (t.q 1023).stall == 2) = true := by decide +kernel

theorem witness_CommitsAndReleases :
    ((store { items := [waiting, written] }).q 1023).items = [waiting] ++ written :: [] ∧ [waiting].all (·.committed) = true ∧
      after (.itemCommit { q := 1023 }) (store { items := [waiting, written] }) (fun t => (t.q 1023).items == [waiting, { written with committed := true }]) = true ∧
      ((store { items := [unwritten] }).cfs.takeFrom (Map.get 0 (store { items := [unwritten] }).cfs.rot 3) 4).any (fun x => x.1 == 0) = true ∧
      after (.itemCommit { q := 1023 }) (store { items := [unwritten] })
        (fun t => (t.q 1023).items == [{ len := 258, cells := [4, 0], rest := [], committed := true }] && Memory.read t.cfs.mem 0 2 == [5, 6]) = true ∧
      after (.itemCommit { q := 1023, err := { list := true } }) (store { items := [written] }) (fun t => (t.q 1023).items.map (·.kind) == [.reset] && t.cfs.orphansNew == [4]) = true ∧
      ((store { items := [claimedItem] }).q 1023).items = claimedItem :: [] ∧
      after (.itemRelease { q := 1023, err := { ptr := true } }) (store { items := [claimedItem] })
        (fun t => (t.q 1023).items.map (·.kind) == [.reset] && t.delivered 1023 == [{ bytes := [0, 0], cut := true, cells := [12] }]) = true ∧
      after (.itemRelease { q := 1023 }) (store { items := [claimedItem] })
        (fun t => (t.q 1023).items == [] && t.delivered 1023 == [{ bytes := [0, 0] }] && nth [] t.cfs.free 0 == [(0, 8)] && t.cfs.back == [12]) = true ∧
      after (.itemCommit { q := 1023 }) (struckBy [.tail 1023] (store { items := [written] })) (fun t => (t.q 1023).items.map (·.kind) == [.reset] && t.cfs.orphansNew == [4]) = true ∧
      after (.itemRelease { q := 1023 }) (struckBy [.entry 12] (store { items := [claimedItem] }))
        (fun t => (t.q 1023).items.map (·.kind) == [.reset] && t.delivered 1023 == [{ bytes := [0, 0], cut := true, cells := [12] }]) = true := by
  decide +kernel

theorem witness_FlushLeavesAMarker :
    ((store { items := [waiting] }).q ((BitVec.ofNat 32 1023).toNat % 1024)).en = true ∧ ((store {}).q (0 % 1024)).en = false ∧
      after (.queueFlush 1023) (store { items := [waiting, written] })
        (fun t => (t.q 1023).items == [{ kind := .flush, len := 40, cells := [196607] }] && (t.q 1023).mark.cells == 2 && t.rd CFS.FLUSH_CNT == 1) = true ∧
      after (.queueFlush 0) (store {}) (fun t => t == store {}) = true ∧
      after (.flushWalkDone none) { store {} with cfs := { (store {}).cfs with walks := [[40, 44], [48]] } } (fun t => t.cfs.walks == [[48]]) = true ∧
      after (.flushWalkDone (some 1)) { store {} with cfs := { (store {}).cfs with walks := [[40, 44], [48]] } } (fun t => t.cfs.walks == [[48]] && t.cfs.orphansNew == [44]) = true ∧
      (store {}).domOn ((windowDomain CFS.Q_FLUSH).getD 1) = true ∧ (store {}).windowTest CFS.Q_FLUSH = false ∧
      ((store { pend := 3 }).q 1023).markerBusy = false ∧
      after (.deferredMarkerWrite { q := 1023, err := true }) (store { pend := 3 }) (fun t => (t.q 1023).items.map (·.kind) == [.reset] && (t.q 1023).mark.drops == 3) = true ∧
      after (.deferredMarkerWrite { q := 1023 }) (store { pend := 0 }) (fun t => t == store { pend := 0 }) = true ∧
      after (.deferredMarkerWrite { q := 1023 }) (store { pend := 3 }) (fun t => (t.q 1023).pend == 0 && (t.q 1023).items.map (·.kind) == [.gap] && (t.q 1023).mark.drops == 3) = true ∧
      after (.queueFlush 1023) (struckBy [.marker 1023] (store { items := [waiting] })) (fun t => (t.q 1023).items.map (·.kind) == [.reset] && t.rd CFS.FLUSH_CNT == 1) = true ∧
      after (.queueFlush 1023) (struckBy [.head 1023] (store { items := [waiting] })) (fun t => (t.q 1023).items.map (·.kind) == [.reset]) = true ∧
      after (.flushWalkDone none) (struckBy [.entry 44] { store {} with cfs := { (store {}).cfs with walks := [[40, 44], [48]] } }) (fun t => t.cfs.walks == [[48]] && t.cfs.orphansNew == [44] && t.rd CFS.PTR_ERR_CNT == 1) = true ∧
      after (.deferredMarkerWrite { q := 1023 }) (struckBy [.tail 1023] (store { pend := 3 })) (fun t => (t.q 1023).items.map (·.kind) == [.reset] && (t.q 1023).mark.drops == 3) = true ∧
      after (.deferredMarkerWrite { q := 1023 }) (struckBy [.marker 1023] (store { pend := 3 })) (fun t => (t.q 1023).items.map (·.kind) == [.reset] && (t.q 1023).mark.drops == 3) = true := by decide +kernel

theorem witness_AuditScrubAndWatermarks :
    ((store {}).wr CFS.CTL 3).bit CFS.CTL 0 = true ∧ ((store {}).wr CFS.CTL 3).bit CFS.CTL 1 = true ∧
      after (.auditPassEnd { late := [48, 52] }) ({ (store {}).wr CFS.CTL 3 with cfs := { (store {}).cfs with orphans := [40], orphansNew := [44, 48, 52], marks := [52] } })
        (fun t => t.cfs.orphans == [44, 52] && t.cfs.orphansNew == [] && t.rd CFS.ORPHAN_CNT == 2 && t.bit CFS.EVT 9) = true ∧
      after (.scrubRead 32 [(0, 0)]) ({ (store {}).wr CFS.CTL 3 with cfs := { (store {}).cfs with scrubPos := 196607 } })
        (fun t => t.cfs.scrubPos == 0 && t.rd CFS.ECC_CE_CNT == 32 && t.rd CFS.ECC_UE_CNT == 1) = true ∧
      after (.scrubWriteback 196607) ({ store {} with cfs := { (store {}).cfs with scrubPend := [196607] } }) (fun t => t.cfs.scrubPend == []) = true ∧
      after (.watermarkWrite 1023 false 50) ((store {}).wr (CFS.Q_WM_HI 1023) 50) (fun t => t.getF (CFS.Q_WM_LO 1023) 0 18 == 49) = true ∧
      after (.scrubRead 0 []) (struckBy [.single 196607 3, .double 196607 4 9] { (store {}).wr CFS.CTL 3 with cfs := { (store {}).cfs with scrubPos := 196607 } })
        (fun t => t.rd CFS.ECC_CE_CNT == 1 && t.rd CFS.ECC_UE_CNT == 1) = true := by decide +kernel

/-! ### Engines -/

/-- Engine 15 of cluster 7 as `x`, running. -/
def eng (x : EngineState) : State := (on 4).setEng 7 15 { x with phase := .running }

/-- Engine 15 of cluster 7 as `x` is ready for results `ds`, a condition that evaluates (R219, R242). -/
theorem ready (x : EngineState) (ds : List Dest) (hb : x.bubble = 0)
    (hf : ((ds ++ (x.flight.filter (fun f => f.issue == x.t)).map (·.dst)).filterMap writes).Nodup) (h : (eng x).eng 7 15 = { x with phase := .running }) :
    Ready (eng x) 7 15 ds := by
  refine ⟨⟨?_, ?_⟩, ?_⟩
  · rw [h]
  · rw [h]; exact Or.inl hb
  · rw [OnceEach, h]; exact hf

/-- The value that the newest operation in flight at engine 15 of cluster 7 has for its scalar register. -/
def newScalar (t : State) : Option (Nat × Word) :=
  match (t.eng 7 15).flight.getLast? with
  | some { issue := _, left := _, dst := .scal r v } => some (r, v)
  | _ => none

/-- Lane `i` of the vector that the newest operation in flight has. -/
def newLane (w i : Nat) (t : State) : Option (BitVec w) :=
  match (t.eng 7 15).flight.getLast? with
  | some { issue := _, left := _, dst := .vec _ v _ } => some (lane w v i)
  | _ => none

/-- v1 and v2 with lane 0 as given and lane 31 the same. -/
def vecs (a b : Nat) : State :=
  eng { v := [(1, BitVec.ofNat 512 (a + a * 2 ^ 496)), (2, BitVec.ofNat 512 (b + b * 2 ^ 496))], mode := 1 + 4 * 4 }

/-- v0 := v1 op v2 under p0. -/
def vop : VecOp := { ps := 0, vd := 0, va := 1, vb := 2 }

theorem witness_ShortVectorOperations :
    Ready (vecs 0 0) (7 : Fin 8) (15 : Fin 16) [.vec vop.vd 0 0] ∧
      2 * ((3 : Int) % 2 ^ (0 + 1)) = 2 ^ (0 + 1) ∧ 2 * ((4 : Int) % 2 ^ (0 + 1)) ≠ 2 ^ (0 + 1) ∧
      after (.vadd 7 15 vop) (vecs 0x7FFF 1) (fun t => newLane 16 31 t == some 0x7FFF) = true ∧
      after (.vsubu 7 15 vop) (vecs 3 5) (fun t => newLane 16 0 t == some 0) = true ∧
      after (.vminu 7 15 vop) (vecs 0xFFFF 5) (fun t => newLane 16 0 t == some 5) = true ∧
      after (.vmin 7 15 vop) (vecs 0xFFFF 5) (fun t => newLane 16 0 t == some 0xFFFF) = true ∧
      after (.vmulq 7 15 vop) (vecs 3 8) (fun t => newLane 16 31 t == some 2 && ((t.eng 7 15).flight.map (·.left)) == [3]) = true ∧
      after (.vshr 7 15 vop) (vecs 0xFFFD 1) (fun t => newLane 16 0 t == some 0xFFFF) = true ∧
      after (.vshl 7 15 vop) (vecs 0x4000 1) (fun t => newLane 16 0 t == some 0x7FFF) = true :=
  ⟨ready _ _ rfl (by decide) (by decide +kernel), by decide +kernel⟩

/-- s8 points at shared memory, s9 at local memory, s10 at the parameter buffer. -/
def ptrs : EngineState := { s := [(8, 0x100000 + 64 * 15), (9, 0x1FFC0), (10, 0x200000)], t := 0, v := [(4, BitVec.ofNat 512 0xAB)] }

theorem witness_MemoryOperations :
    MemoryFree ((eng ptrs).eng (7 : Fin 8) (15 : Fin 16)) ∧
      Ready (eng ptrs) 7 15 (.vec 31 0 0 :: (postInc ptrs { ps := 0, vr := 31, ar := 1, inc := 1 } 64).map (·.2)) ∧
      Stores (eng ptrs) 7 15 (ptrs.sr 9 / 64 * 64) ∧ ptrs.sr 9 < 0x20000 ∧ ptrs.sr (8 + 7) + 2 * 2 ^ 12 ≤ 0x20000 ∧ Loads (eng ptrs) 7 15 0x1FFC0 64 4 (Memory.read [] 0x1FFC0 64) ∧
      (0x1003C0 / 64 % 16 = (0 + 15) % 16) ∧ (1 + 15) % 16 = 0 ∧
      after (.vld 7 15 { ps := 0, vr := 31, ar := 1, inc := 1 }) (eng ptrs)
        (fun t => newScalar t == some (9, 0x20000) && ((t.eng 7 15).flight.map (·.left)) == [4, 1]) = true ∧
      after (.vld 7 15 { ps := 0, vr := 31, ar := 0, inc := 0 }) (eng ptrs) (fun t => ((t.eng 7 15).flight.map (·.left)) == [6]) = true ∧
      after (.sld 7 15 { ps := 0, vr := 15, ar := 2, inc := 0 }) (eng { ptrs with t := 1 }) (fun t => newScalar t == some (15, 0)) = true ∧
      after (.vst 7 15 { ps := 0, vr := 4, ar := 1, inc := 0 }) (eng ptrs) (fun t => (t.eng 7 15).flight.length == 1) = true ∧
      after (.vldo 7 15 { ps := 0, vr := 4, ar := 1, ofs := 1023 }) (eng ptrs) (fun t => newLane 8 0 t == some 0) = true ∧
      after (.vldb 7 15 { ps := 0, vr := 4, ar := 1, ofs := 31 }) (eng ptrs) (fun t => newLane 16 31 t == some 0) = true ∧
      after (.sldo 7 15 { ps := 0, vr := 4, ar := 1, ofs := 15 }) (eng ptrs) (fun t => newScalar t == some (4, 0)) = true ∧
      after (.vsto 7 15 { ps := 0, vr := 4, ar := 0, ofs := 0 }) (eng ptrs) (fun t => (t.eng 7 15).flight.length == 1) = true ∧
      after (.ssto 7 15 { ps := 0, vr := 9, ar := 1, ofs := 15 }) (eng ptrs) (fun t => (t.eng 7 15).phase == .running) = true ∧
      after (.vgath 7 15 { ps := 0, vr := 4, ar := 1, ofs := 0 }) (eng ptrs) (fun t => (t.eng 7 15).memBusy == 3) = true ∧
      after (.vlut 7 15 { ps := 0, vr := 4, ar := 7, ofs := 12 }) (eng ptrs) (fun t => (t.eng 7 15).memBusy == 3) = true ∧
      after (.vlut 7 15 { ps := 0, vr := 4, ar := 7, ofs := 1 }) (eng ptrs) (fun t => (t.eng 7 15).memBusy == 3) = true := by
  refine ⟨Or.inl (by decide +kernel), ready _ _ rfl (by decide) (by decide +kernel), Or.inl (by decide +kernel), by decide +kernel,
    by decide +kernel, ?_, by decide +kernel⟩
  exact ⟨by decide +kernel, Or.inl ⟨by decide, rfl, by decide +kernel⟩⟩

/-- s1 = -2, s2 = 3, p1 = 5. -/
def sc : EngineState := { s := [(1, 0xFFFFFFFE), (2, 3)], p := [(1, 5)] }

theorem witness_ScalarOperations :
    Ready (eng sc) (7 : Fin 8) (15 : Fin 16) [.scal 3 0] ∧ Ready (eng sc) 7 15 [.pred 1 0] ∧ Ready (eng sc) 7 15 [.mode 0] ∧
      Ready (eng sc) 7 15 [.stride 0] ∧
      after (.sadd 7 15 1 2) (eng sc) (fun t => newScalar t == some (1, 1)) = true ∧
      after (.ssrai 7 15 { sd := 3, sa := 1, imm := 1 }) (eng sc) (fun t => newScalar t == some (3, 0xFFFFFFFF)) = true ∧
      after (.sshri 7 15 { sd := 3, sa := 1, imm := 31 }) (eng sc) (fun t => newScalar t == some (3, 1)) = true ∧
      after (.slui 7 15 { sd := 3, sa := 1, imm := 32767 }) (eng sc) (fun t => newScalar t == some (3, 0xFFFFFFFE)) = true ∧
      after (.saddi 7 15 { sd := 3, sa := 2, imm := 32767 }) (eng sc) (fun t => newScalar t == some (3, 2)) = true ∧
      after (.smul 7 15 { sd := 3, sa := 1, imm := 2 }) (eng sc) (fun t => newScalar t == some (3, 0xFFFFFFFA)) = true ∧
      after (.spmov 7 15 { sd := 3, sa := 1, imm := 0 }) (eng sc) (fun t => newScalar t == some (3, 5)) = true ∧
      after (.pmov 7 15 { sd := 1, sa := 1, imm := 0 }) (eng sc) (fun t => (t.eng 7 15).flight.map (·.dst) == [.pred 1 0xFFFFFFFE]) = true ∧
      after (.smode 7 15 { sd := 0, sa := 0, imm := 127 }) (eng sc) (fun t => (t.eng 7 15).flight.map (·.dst) == [.mode 63]) = true ∧
      after (.sstride 7 15 { sd := 0, sa := 1, imm := 2 }) (eng sc) (fun t => (t.eng 7 15).flight.map (·.dst) == [.stride 0]) = true :=
  ⟨ready _ _ rfl (by decide) (by decide +kernel), ready _ _ rfl (by decide) (by decide +kernel), ready _ _ rfl (by decide) (by decide +kernel),
    ready _ _ rfl (by decide) (by decide +kernel), by decide +kernel⟩

theorem witness_ControlFlow :
    Ready (eng sc) (7 : Fin 8) (15 : Fin 16) [] ∧ Ready (eng sc) 7 15 [.lc 0 3] ∧ ¬ Delayed sc ∧ ¬ BodyEnd sc ∧ Nested sc 0 2047 ∧ Nested sc 1 1 ∧
      Nested { sc with lc0 := 2, body0 := (1, 5) } 1 5 ∧ ¬ Nested { sc with lc0 := 2, body0 := (1, 5) } 1 6 ∧
      ((eng sc).eng 7 15).sr 2 ≠ 0 ∧ ((eng sc).eng 7 15).sr 0 = 0 ∧ ((eng sc).eng 7 15).pc < 2047 ∧
      after (.vnop 7 15) (eng sc) (fun t => (t.eng 7 15).flight == []) = true ∧
      after (.brneg 7 15 { sd := 0, sa := 1, imm := 2047 }) (eng sc) (fun t => (t.eng 7 15).target == some 2047 && (t.eng 7 15).delay == 3) = true ∧
      after (.brz 7 15 { sd := 0, sa := 1, imm := 2047 }) (eng sc) (fun t => (t.eng 7 15).target == none) = true ∧
      after (.loop 7 15 { sd := 0, sa := 2, imm := 2047 }) (eng sc)
        (fun t => (t.eng 7 15).body0 == (1, 2047) && (t.eng 7 15).flight.map (·.dst) == [.lc 0 3]) = true ∧
      after (.loop 7 15 { sd := 1, sa := 2, imm := 1 }) (eng sc) (fun t => (t.eng 7 15).body1 == (1, 1)) = true ∧
      after (.loop 7 15 { sd := 1, sa := 0, imm := 1 }) (eng sc) (fun t => (t.eng 7 15).bubble == 3 && (t.eng 7 15).target == some 2) = true ∧
      after (.endBundle 7 15) (eng sc) (fun t => (t.eng 7 15).ending) = true := by
  refine ⟨ready _ _ rfl (by decide) (by decide +kernel), ready _ _ rfl (by decide) (by decide +kernel), ?_⟩
  unfold Delayed BodyEnd Nested
  decide +kernel

/-- v4 and v5 a lane pair of 0x7FFFFFFF, v1 = 100, v2 = 200 in lane 0; p1 has lane 0 alone. -/
def xs : EngineState := { v := [(4, 0xFFFF), (5, 0x7FFF), (1, 100), (2, 200)], p := [(1, 1)] }

/-- Operands of an extended operation. -/
def xop (vd va vb : Fin 32) (sh : Fin 16) (imm : Fin 65536) : ExtOp :=
  { pd := 1, rnd := 1, sh := sh, es := false, vd := vd, va := va, vb := vb, imm := imm }

theorem witness_ExtendedVectorOperations :
    Ready (eng xs) (7 : Fin 8) (15 : Fin 16) [.vec 3 0 0] ∧ Ready (eng xs) 7 15 [.vec 4 0 0, .vec (4 + 1 : Nat) 0 0] ∧
      Ready (eng xs) 7 15 [.pred 7 0] ∧ Ready (eng xs) 7 15 [.scal 15 0] ∧
      after (.valu 7 15 (xop 3 1 2 0 1)) (eng xs) (fun t => newLane 16 0 t == some 300) = true ∧
      after (.vmac 7 15 (xop 4 1 2 0 0)) (eng xs) (fun t => newLane 16 0 t == some 0x7FFF && (t.eng 7 15).flight.length == 2) = true ∧
      after (.vmacu 7 15 (xop 4 1 2 0 0)) (eng xs) (fun t => newLane 16 0 t == some 0x8000) = true ∧
      after (.vnarrow 7 15 (xop 3 4 0 0 0)) (eng xs) (fun t => newLane 16 0 t == some 0x7FFF) = true ∧
      after (.vnarrowu 7 15 (xop 3 4 0 15 65535)) (eng xs) (fun t => newLane 16 0 t == some 0xFFFF) = true ∧
      after (.vmulr 7 15 (xop 3 1 2 3 0)) (eng xs) (fun t => newLane 16 0 t == some 2500) = true ∧
      after (.vmulru 7 15 (xop 3 1 2 3 255)) (eng xs) (fun t => newLane 16 0 t == some 255) = true ∧
      after (.vsplat 7 15 (xop 3 0 0 0 65535)) (eng xs) (fun t => newLane 16 31 t == some 0xFFFF) = true ∧
      after (.vcmp 7 15 (xop 7 1 2 5 0)) (eng xs) (fun t => (t.eng 7 15).flight.map (·.dst) == [.pred 7 1]) = true ∧
      after (.vsel 7 15 (xop 3 1 2 0 0)) (eng xs) (fun t => newLane 16 0 t == some 100) = true ∧
      after (.vred 7 15 (xop 15 2 0 0 0)) (eng xs) (fun t => newScalar t == some (15, 200)) = true ∧
      after (.vred 7 15 (xop 0 2 0 2 0)) (eng { xs with p := [(1, 0)] }) (fun t => newScalar t == some (0, 0xFFFF8000)) = true ∧
      after (.vperm 7 15 (xop 3 1 0 0 0)) (eng xs) (fun t => newLane 16 31 t == some 100) = true ∧
      after (.vext 7 15 (xop 3 1 2 0 31)) (eng xs) (fun t => newLane 16 1 t == some 200) = true ∧
      after (.vabsd 7 15 (xop 3 1 2 0 0)) (eng xs) (fun t => newLane 16 0 t == some 100) = true :=
  ⟨ready _ _ rfl (by decide) (by decide +kernel), ready _ _ rfl (by decide) (by decide +kernel), ready _ _ rfl (by decide) (by decide +kernel),
    ready _ _ rfl (by decide) (by decide +kernel), by decide +kernel⟩

theorem witness_EngineCycleEnds :
    bundleReserved ((eng { pc := 5 }).bundleAt (7 : Fin 8) (15 : Fin 16)) = false ∧
      after (.resultWriteback 7 15) ((on 4).setEng 7 15 { pc := 5 }) (fun t => (t.eng 7 15).pc == 5 && (t.eng 7 15).t == 1) = true ∧
      after (.resultWriteback 7 15) (eng { pc := 5 }) (fun t => (t.eng 7 15).pc == 6) = true ∧
      after (.resultWriteback 7 15) (eng { pc := 5, ending := true }) (fun t => (t.eng 7 15).ended && (t.eng 7 15).phase == .idle) = true ∧
      after (.resultWriteback 7 15) (eng { pc := 5, bubble := 3 }) (fun t => (t.eng 7 15).bubble == 2 && (t.eng 7 15).pc == 5) = true ∧
      after (.resultWriteback 7 15) (eng { pc := 2047 }) (fun t => (t.eng 7 15).pc == 2047 && (t.eng 7 15).past) = true ∧
      after (.resultWriteback 7 15) (eng { pc := 2047, past := true }) (fun t => (t.eng 7 15).pc == 2047 && (t.eng 7 15).past) = true ∧
      after (.resultWriteback 7 15) (eng { pc := 2047, bubble := 1, target := some 2048 }) (fun t => (t.eng 7 15).pc == 2047 && (t.eng 7 15).past) = true ∧
      after (.resultWriteback 7 15) (eng { pc := 5, bubble := 2 }) (fun t => (t.eng 7 15).bubble == 1 && (t.eng 7 15).pc == 5) = true ∧
      after (.resultWriteback 7 15) (eng { pc := 5, delay := 2, target := some 9 }) (fun t => (t.eng 7 15).pc == 6 && (t.eng 7 15).delay == 1) = true ∧
      after (.resultWriteback 7 15) (eng { pc := 7, lc0 := 1, body0 := (3, 7), lc1 := 1, body1 := (6, 7) })
        (fun t => (t.eng 7 15).pc == 8 && (t.eng 7 15).lc0 == 0 && (t.eng 7 15).lc1 == 0) = true ∧
      after (.resultWriteback 7 15) (eng { pc := 5, bubble := 1, target := some 9 }) (fun t => (t.eng 7 15).pc == 9) = true ∧
      after (.resultWriteback 7 15) (eng { pc := 5, delay := 3, target := some 9 }) (fun t => (t.eng 7 15).pc == 6 && (t.eng 7 15).delay == 2) = true ∧
      after (.resultWriteback 7 15) (eng { pc := 7, delay := 1, target := some 9 }) (fun t => (t.eng 7 15).pc == 9) = true ∧
      after (.resultWriteback 7 15) (eng { pc := 7, delay := 1 }) (fun t => (t.eng 7 15).pc == 8) = true ∧
      after (.resultWriteback 7 15) (eng { pc := 7, lc1 := 2, body1 := (6, 7) }) (fun t => (t.eng 7 15).pc == 6 && (t.eng 7 15).lc1 == 1) = true ∧
      after (.resultWriteback 7 15) (eng { pc := 7, lc1 := 1, body1 := (6, 7) }) (fun t => (t.eng 7 15).pc == 8 && (t.eng 7 15).lc1 == 0) = true ∧
      after (.resultWriteback 7 15) (eng { pc := 7, lc0 := 2, body0 := (6, 7) }) (fun t => (t.eng 7 15).pc == 6 && (t.eng 7 15).lc0 == 1) = true ∧
      after (.resultWriteback 7 15) (eng { pc := 7, lc0 := 1, body0 := (6, 7) }) (fun t => (t.eng 7 15).pc == 8 && (t.eng 7 15).lc0 == 0) = true ∧
      after (.resultWriteback 7 15) (eng { pc := 7, lc0 := 2, body0 := (3, 7), lc1 := 1, body1 := (6, 7) })
        (fun t => (t.eng 7 15).pc == 3 && (t.eng 7 15).lc0 == 1 && (t.eng 7 15).lc1 == 0) = true ∧
      after (.resultWriteback 7 15) (eng { flight := [{ issue := 0, left := 1, dst := .scal 3 7 }, { issue := 0, left := 1, dst := .scal 3 9 },
          { issue := 0, left := 2, dst := .pred 3 9 }, { issue := 0, left := 1, dst := .vec 2 0xFFFFFFFF 0xFFFF }, { issue := 0, left := 1, dst := .pred 1 6 },
          { issue := 0, left := 1, dst := .mode 5 }, { issue := 0, left := 1, dst := .stride 8 }, { issue := 0, left := 1, dst := .lc 0 4 },
          { issue := 0, left := 1, dst := .store 0x1FFFE [(1, true), (2, false)] }] })
        (fun t => (t.eng 7 15).sr 3 == 9 && (t.eng 7 15).pr 3 == 0 && (t.eng 7 15).vr 2 == 0xFFFF && (t.eng 7 15).pr 1 == 6 && (t.eng 7 15).mode == 5 &&
          (t.eng 7 15).stride == 8 && (t.eng 7 15).lc0 == 4 && (t.eng 7 15).flight == [{ issue := 0, left := 1, dst := .pred 3 9 }] &&
          Memory.readByte (t.cl 7).lmem (0x1FFFFE) == 1 && Memory.readByte (t.cl 7).lmem (0x1FFFFF) == 0) = true ∧
      after (.resultWriteback 7 15) (eng { flight := [{ issue := 0, left := 1, dst := .store 0x100000 [(1, true)] }] })
        (fun t => Memory.readByte (t.cl 7).smem 0 == 1 && (t.cl 7).lmem == []) = true ∧
      after (.resultWriteback 7 15) (eng { flight := [{ issue := 0, left := 1, dst := .lc 1 4 }] }) (fun t => (t.eng 7 15).lc1 == 4) = true ∧
      after (.resultWriteback 7 15) (((eng { flight := [{ issue := 0, left := 1, dst := .segment 9 0 2 [] }] }).modCl 7
          (fun c => { c with lmem := [(0x1E0001, 7)], tasks := [{ idx := 0, asm := [{ line := 9, segs := [(15, none)], size := 2 }] }] })))
        (fun t => (t.task 7 0).any (fun b => b.asm == [{ line := 9, segs := [(15, some [0, 7])], size := 2 }])) = true ∧
      after (.resultWriteback 7 15) (eng { flight := [{ issue := 0, left := 1, dst := .segment 9 0 65 [] }] })
        (fun t => (t.eng 7 15).flight == [{ issue := 1, left := 1, dst := .segment 9 64 1 (List.replicate 64 0) }]) = true := by decide +kernel

/-- The engine has faulted with `c` and its cause is logged. -/
def faultedWith (c : Nat) (t : State) : Bool :=
  (t.eng 7 15).phase == .faulted && t.rd (CLU.FAULT_CNT 7) == 1 && t.rd (CLU.FAULT_LOG 7) == 2 ^ 31 + c * 2 ^ 28 + 15 * 2 ^ 24 + (t.eng 7 15).pc

/-- Engine 15 of cluster 7 at a bundle of reserved operation code (R224). -/
def badBundle : State := (eng {}).modCl 7 (fun c => { c with imem := Memory.write c.imem 0x78000 [0, 0, 0x18, 0, 0, 0, 0, 0x80] })

theorem witness_EngineFaults :
    ((eng sc).eng (7 : Fin 8) (15 : Fin 16)).pc < 2 ^ 24 ∧ Issuing (eng sc) 7 15 ∧ ¬ Issuing (on 4) (7 : Fin 8) (15 : Fin 16) ∧
      MemoryFree ((eng sc).eng 7 15) ∧ ¬ MemoryFree ((eng { memBusy := 1 }).eng 7 15) ∧
      ¬ OnceEach (eng { flight := [{ issue := 0, left := 2, dst := .vec 0 0 0 }] }) (7 : Fin 8) (15 : Fin 16) [.vec vop.vd 0 0] ∧
      ¬ OnceEach (eng { flight := [{ issue := 0, left := 2, dst := .scal 0 0 }] }) (7 : Fin 8) (15 : Fin 16) [.scal 0 0] ∧
      bundleReserved (badBundle.bundleAt (7 : Fin 8) (15 : Fin 16)) = true ∧
      after (.resultWriteback 7 15) badBundle (faultedWith 1) = true ∧
      after (.smov 7 15 0 0) (eng { flight := [{ issue := 0, left := 2, dst := .scal 0 0 }] }) (faultedWith 1) = true ∧
      after (.loop 7 15 { sd := 1, sa := 2, imm := 6 }) (eng { lc0 := 2, body0 := (1, 5) }) (faultedWith 1) = true ∧
      after (.valu 7 15 (xop 0 0 0 0 0)) (eng {}) (faultedWith 1) = true ∧
      after (.emit 7 15 { sd := 0, sa := 1, sb := 2, sc := 3, qsel := 0 })
        ((eng { task := 3, s := [(2, 0x20000), (3, 1)] }).modCl 7 (fun c => { c with tasks := [{ idx := 3 }] })) (faultedWith 2) = true ∧
      after (.emit 7 15 { sd := 0, sa := 1, sb := 2, sc := 3, qsel := 0 })
        ((eng { task := 3, s := [(1, 9)] }).modCl 7 (fun c => { c with tasks := [{ idx := 3, asm := [{ line := 9, segs := [(15, none)], size := 0 }] }] }))
        (faultedWith 5) = true ∧
      after (.emit 7 15 { sd := 0, sa := 1, sb := 2, sc := 3, qsel := 0 }) ((eng { task := 3, s := [(1, 9)] }).modCl 7 (fun c => { c with tasks := [{ idx := 3, done := [9] }] }))
        (faultedWith 5) = true ∧
      after (.emit 7 15 { sd := 0, sa := 1, sb := 2, sc := 3, qsel := 0 }) ((eng { task := 3, s := [(1, 9)] }).modCl 7 (fun c =>
          { c with tasks := [{ idx := 3, asm := [1, 2].map (fun l => { line := l, segs := [(14, none)], size := 0 }) }, { idx := 4, asm := [3, 4].map (fun l => { line := l, segs := [(13, none)], size := 0 }) }] }))
        (faultedWith 5) = true ∧
      after (.qlen 7 15 { sd := 0, sa := 0, sb := 0, sc := 0, qsel := 1 })
        ((eng { task := 3 }).modCl 7 (fun c => { c with tasks := [{ idx := 3, isBand := false }] })) (faultedWith 4) = true ∧
      after (.vadd 7 15 vop) (on 4) (fun t => t == on 4) = true ∧
      after (.vadd 7 15 vop) (eng { flight := [{ issue := 0, left := 2, dst := .vec 0 0 0 }] }) (faultedWith 1) = true ∧
      after (.br 7 15 { sd := 0, sa := 0, imm := 0 }) (eng { delay := 2 }) (faultedWith 1) = true ∧
      after (.loop 7 15 { sd := 0, sa := 0, imm := 1 }) (eng { pc := 3, lc1 := 2, body1 := (1, 3) }) (faultedWith 1) = true ∧
      after (.endBundle 7 15) (eng { delay := 1 }) (faultedWith 1) = true ∧
      after (.pmov 7 15 { sd := 8, sa := 0, imm := 0 }) (eng {}) (faultedWith 1) = true ∧
      after (.loop 7 15 { sd := 1, sa := 2, imm := 2 }) (eng { pc := 2 }) (faultedWith 1) = true ∧
      after (.vmac 7 15 (xop 3 0 0 0 0)) (eng {}) (faultedWith 1) = true ∧ after (.vnarrow 7 15 (xop 3 1 0 0 0)) (eng {}) (faultedWith 1) = true ∧
      after (.vcmp 7 15 (xop 8 0 0 0 0)) (eng {}) (faultedWith 1) = true ∧ after (.vcmp 7 15 (xop 1 0 0 6 0)) (eng {}) (faultedWith 1) = true ∧
      after (.vred 7 15 (xop 16 0 0 0 0)) (eng {}) (faultedWith 1) = true ∧ after (.vext 7 15 (xop 1 0 0 0 32)) (eng {}) (faultedWith 1) = true ∧
      after (.vld 7 15 { ps := 0, vr := 0, ar := 0, inc := 0 }) (eng { memBusy := 1 }) (faultedWith 1) = true ∧
      after (.vld 7 15 { ps := 0, vr := 0, ar := 0, inc := 0 }) (eng { s := [(8, 0x20000)] }) (faultedWith 2) = true ∧
      after (.sld 7 15 { ps := 0, vr := 0, ar := 0, inc := 0 }) (eng { s := [(8, 0x207000)] }) (faultedWith 2) = true ∧
      after (.vst 7 15 { ps := 0, vr := 0, ar := 0, inc := 0 }) (eng { s := [(8, 0x200000)], t := 1 }) (faultedWith 2) = true ∧
      after (.vld 7 15 { ps := 0, vr := 0, ar := 0, inc := 0 }) (eng { s := [(8, 0x100000)] }) (faultedWith 3) = true ∧
      after (.vgath 7 15 { ps := 0, vr := 0, ar := 0, ofs := 0 }) (eng { s := [(8, 0x20000)] }) (faultedWith 2) = true ∧
      after (.vlut 7 15 { ps := 0, vr := 0, ar := 0, ofs := 13 }) (eng {}) (faultedWith 1) = true ∧
      after (.qlen 7 15 { sd := 0, sa := 0, sb := 0, sc := 0, qsel := 2 }) (eng {}) (faultedWith 4) = true ∧
      after (.qpop 7 15 { sd := 0, sa := 1, sb := 2, sc := 0, qsel := 0 }) (eng { s := [(1, 0x20000), (2, 1)] }) (faultedWith 2) = true ∧
      after (.emit 7 15 { sd := 0, sa := 1, sb := 0, sc := 0, qsel := 0 })
        ((eng { task := 3 }).modCl 7 (fun c => { c with tasks := [{ idx := 3, isBand := false }] })) (faultedWith 5) = true := by
  unfold Issuing MemoryFree OnceEach
  decide +kernel

/-- Context 0 of cluster 7: EVT_Q 6, ADDR 30.30 = 1 with IN2 Q 5, OUT_Q 7; task 3 on engine 15, a band, running. -/
def fed (x : EngineState) : State :=
  ((((eng { x with task := 3 }).modCl 7 (fun c => { c with tasks := [{ idx := 3, mask := 0x8000, phase := .run }] })).setCtxWord 7 0 0x000 0x60000000).setCtxWord
    7 0 0x004 (7 + 5 * 2 ^ 10 + 6 * 2 ^ 20))

/-- Queue 6, whose consumer is cluster 7, with `items`. -/
def fedQ (x : EngineState) (items : List CfsItem) : State :=
  ({ fed x with cfs := { (fed x).cfs with ready := true, free := [[(0, 8)], [(1, 8)], [(2, 8)], [(3, 8)]] } } : State).setQ 6
    { en := true, cons := 25, prod := 1, quota := 4, items := items }

/-- qpop s1 := queue of QSEL 0, to address s2, at most s3 bytes. -/
def pop3 : CtlOp := { sd := 1, sa := 2, sb := 3, sc := 3, qsel := 0 }

/-- An engine that waits in a qpop with limit 1 to address 4. -/
def popping (s : State) : State := s.modEng 7 15 (fun y => { y with wait := some { queue := 6, addr := 4, limit := 1, sd := 1 } })

/-- An item that engine 15 has claimed; an item it read that a flush cut. -/
def ownedItem : CfsItem := { claimedItem with owner := 16 }
def cutRead : Delivered := { bytes := [7, 8], ue := 1, cut := true, owner := 16 }

/-- A loss of a parameter write before its submission (R207). -/
def lossy (refused : Bool) : State := (fed { s := [(1, 0x20000000), (2, 0x40)] }).modCl 7 (fun c => { c with skipSubmit := [(0, refused)] })

theorem witness_EnginesUseQueues :
    Selects (fed {}) (7 : Fin 8) (15 : Fin 16) pop3 6 ∧ Selects (fed {}) (7 : Fin 8) (15 : Fin 16) { pop3 with qsel := 1 } 5 ∧
      (fedQ {} []).popAllowed 6 (18 + 7) = true ∧ ((fedQ {} [waiting]).q 6).items = [] ++ waiting :: [] ∧
      ((fedQ {} [waiting]).q 6).udepth = 1 ∧ ((fedQ {} []).q 6).udepth = 0 ∧
      (∀ i, ((fedQ {} [written]).q 6).items.find? (fun y => !y.claimed) = some i → i.committed = false) ∧
      after (.qlen 7 15 { pop3 with qsel := 1 }) (fed {}) (fun t => newScalar t == some (1, 0)) = true ∧
      after (.qlen 7 15 pop3) (fedQ {} [waiting]) (fun t => newScalar t == some (1, 1)) = true ∧
      after (.qpop 7 15 pop3) (fedQ { s := [(2, 0x1FFFF), (3, 1)] } [waiting])
        (fun t => (t.eng 7 15).phase == .waiting && (t.eng 7 15).wait == some { queue := 6, addr := 0x1FFFF, limit := 1, sd := 1 } &&
          (t.q 6).items == [{ waiting with claimed := true, owner := 16 }]) = true ∧
      after (.qpop 7 15 pop3) (fedQ {} []) (fun t => t.rd (CLU.QREAD_ABORT_CNT 7) == 1 && (t.eng 7 15).phase == .idle) = true ∧
      ((popping (fedQ {} [ownedItem])).eng (7 : Fin 8) (15 : Fin 16)).wait = some { queue := 6, addr := 4, limit := 1, sd := 1 } ∧
      (popping (fedQ {} [ownedItem])).delivered 6 = [] ∧ ((popping (fedQ {} [ownedItem])).q 6).items = [] ++ ownedItem :: [] ∧
      after (.qpopResume 7 15 {}) (popping (fedQ {} [ownedItem]))
        (fun t => (t.eng 7 15).phase == .running && newScalar t == some (1, 0x80000002) && (t.q 6).items == []) = true ∧
      after (.qpopResume 7 15 { err := { ue := [(12, 0, 1)] } }) (popping (fedQ {} [ownedItem]))
        (fun t => newScalar t == some (1, 0xC0000002) && t.rd (CLU.UE_CNT 7) == 1) = true ∧
      after (.qpopResume 7 15 { got := 1 }) ((popping (fedQ {} [])).setDelivered 6 [cutRead])
        (fun t => newScalar t == some (1, 0xC8000001) && t.rd (CLU.UE_CNT 7) == 1 && Memory.readByte (t.cl 7).lmem 0x1E0004 == 7) = true ∧
      after (.qpopResume 7 15 { got := 1, err := { ue := [(12, 0, 1)] } }) ((popping (fedQ {} [])).setDelivered 6 [{ cutRead with ue := 0, cells := [12] }])
        (fun t => newScalar t == some (1, 0xC8000001) && t.rd (CLU.UE_CNT 7) == 1) = true ∧
      (fed {}).task 7 3 = some { idx := 3, mask := 0x8000, phase := .run } ∧
      after (.emit 7 15 { sd := 0, sa := 1, sb := 2, sc := 3, qsel := 0 }) (fed { s := [(1, 9), (2, 8), (3, 16376)] })
        (fun t => (t.eng 7 15).memBusy == 256 && (t.task 7 3).any (fun b => b.asm.any (fun l => l.line == 9 && l.segs == [(15, none)] && l.size == 16376))) = true ∧
      after (.emitLineWrite 7 3 9) ((fed {}).modCl 7 (fun c => { c with tasks := [{ idx := 3, mask := 0x8000, phase := .run, asm := [{ line := 9, segs := [(15, some [1, 2])], size := 2 }] }] }))
        (fun t => (t.task 7 3).any (fun b => b.linesOut == 1 && b.asm == [] && b.done == [9])) = true ∧
      (fed {}).linesAsm 7 = 0 ∧ (fedQ {} [waiting]).cfs.upsets = [] ∧
      (fed {}).ctrlRefused 7 0 { ctx := 0, tgt := 1, ofs := 4, data := 7 } = false ∧ (fed {}).ctrlRefused 7 0 { ctx := 0, tgt := 1, ofs := 5, data := 7 } = true ∧
      (lossy true).ctrlRefused 7 0 { ctx := 0, tgt := 2, ofs := 0, data := 0x40 } = false ∧
      after (.ctrlw 7 15 { sd := 0, sa := 1, sb := 2, sc := 0, qsel := 0 }) (lossy true) (fun t => t.rd (CLU.CTRL_REF_CNT 7) == 1) = true ∧
      after (.ctrlw 7 15 { sd := 0, sa := 1, sb := 2, sc := 0, qsel := 0 }) (lossy false) (fun t => t.rd (CLU.CTRL_DROP_CNT 7) == 1) = true ∧
      after (.ctrlw 7 15 { sd := 0, sa := 1, sb := 2, sc := 0, qsel := 0 }) (fed { s := [(1, 0x10000004), (2, 7)] })
        (fun t => (t.cl 7).fifo == [{ ctx := 0, tgt := 1, ofs := 4, data := 7 }]) = true ∧
      after (.ctrlw 7 15 { sd := 0, sa := 1, sb := 2, sc := 0, qsel := 0 }) (fed { s := [(1, 0x10000005), (2, 7)] })
        (fun t => t.rd (CLU.CTRL_REF_CNT 7) == 1 && t.bit (CLU.EVT 7) 6) = true ∧
      after (.ctrlw 7 15 { sd := 0, sa := 1, sb := 2, sc := 0, qsel := 0 })
        ((fed { s := [(1, 0x10000004), (2, 7)] }).modCl 7 (fun c => { c with fifo := List.replicate 32 { ctx := 0, tgt := 3, ofs := 0, data := 0 } }))
        (fun t => t.rd (CLU.CTRL_DROP_CNT 7) == 1 && (t.cl 7).fifo.length == 32) = true := by
  refine ⟨Or.inl (by decide +kernel), Or.inr ⟨rfl, ⟨{ idx := 3, mask := 0x8000, phase := .run }, by decide +kernel⟩, by decide +kernel⟩, ?_⟩
  refine ⟨by decide +kernel, by decide +kernel, by decide +kernel, by decide +kernel, ?_, by decide +kernel⟩
  intro i h
  have g : ((fedQ {} [written]).q 6).items.find? (fun y => !y.claimed) = some written := by decide +kernel
  rw [g] at h; injection h with h; subst h; rfl

/-- The first bundle of a program: vmuluq, vnop, a vector load. -/
def bundleOps : Option Nat := encodeFull 7 15 0 (.vmuluq 7 15 { ps := 0, vd := 2, va := 1, vb := 3 }) (.vnop 7 15) (some (.vld 7 15 { ps := 0, vr := 1, ar := 0, inc := 1 })) none

theorem witness_BundlesDecodeAsEncoded :
    bundleOps = some 0x0D10460000108400 ∧
      (encodeScalarLong 7 15 3 (.vnop 7 15) none (some (.br 7 15 { sd := 0, sa := 0, imm := 2047 }))).isSome = true ∧
      (encodeMemoryLong 7 15 3 (.vnop 7 15) (.vnop 7 15) (some (.vldo 7 15 { ps := 3, vr := 31, ar := 7, ofs := 1023 }))).isSome = true ∧
      (encodeExtended 7 15 (.vmac 7 15 (xop 4 1 2 0 65535))).isSome = true := by decide +kernel

/-- Bundles written out from the encoding tables of the spec (R218 to R224). -/
theorem test_bundles_decode :
    decodeBundle 7 15 0x0D10460000108400
        = some [.vmuluq 7 15 { ps := 0, vd := 2, va := 1, vb := 3 }, .vnop 7 15, .vld 7 15 { ps := 0, vr := 1, ar := 0, inc := 1 }] ∧
      decodeBundle 7 15 0x07208A0000221400
        = some [.vminu 7 15 { ps := 0, vd := 4, va := 2, vb := 5 }, .vnop 7 15, .vst 7 15 { ps := 0, vr := 4, ar := 1, inc := 1 }] ∧
      decodeBundle 7 15 0 = some [.vnop 7 15, .vnop 7 15] := by decide +kernel

/-- Reserved operation codes (R222, R224, R228). -/
theorem test_reserved_bundles :
    decodeBundle 0 0 (2 ^ 62 + 0x0B * 2 ^ 23) = none ∧ decodeBundle 0 0 (2 ^ 63 + 6 * 2 ^ 18) = none ∧
      decodeBundle 0 0 (2 ^ 63 + 2 ^ 62 + 5 * 2 ^ 56) = none := by decide +kernel

/-! ### Clusters -/

/-- Context 7 of cluster 7: lines 0 to 7 in two bands of 4, queues 7, 5 and 6, camera 3, control writes allowed; frame `f` is open and
line `l` is next; the cluster is in service. -/
def ctxState (f l : Nat) : State :=
  let s := (on 4).modCl 7 (fun c => { c with svc := 3 })
  let s := (((s.setCtxWord 7 7 0x000 0x63000000).setCtxWord 7 7 0x004 (7 + 5 * 2 ^ 10 + 6 * 2 ^ 20)).setCtxWord 7 7 0x008 0x00080000).setCtxWord 7 7 0x00C 0x04000002
  (s.setCtxWord 7 7 0x1000 f).setCtxWord 7 7 0x1004 (2 ^ 31 + l)

/-- `s` with task 3 as `a`, in context 7, on engine 15. -/
def withTask (a : TaskState) (s : State) : State := s.modCl 7 (fun c => { c with tasks := [{ a with idx := 3, ctx := 7, mask := 0x8000 }] })

/-- `s` with `d` read from queue `q` and not yet handled. -/
def hand (q : Nat) (d : Delivered) (s : State) : State := s.setDelivered q [d]

/-- A line item of frame 9. -/
def lineItem (l : Byte) : Delivered := { bytes := [0, 0, 1, 0, 9, 0, l, 0, 5, 6, 7] }

/-- Cluster 7 has one table entry: a band task 0 of context 7. -/
def planned : State :=
  { ctxState 9 0 with sched := { (ctxState 9 0).sched with cur :=
      { cluster := List.replicate 7 [] ++ [[{ slot := 0, carry := false, op := 1, w1 := 0, w2 := 0x00078000, w3 := 2047 }]] } } }

theorem witness_TasksTakeTheirItems :
    (planned.taskEntry 7 0).isSome = true ∧ (planned.cl 7).svc = 3 ∧ planned.task 7 0 = none ∧ planned.bit (CLU.CTL 7) 0 = false ∧ ((on 4).cl 7).svc ≠ 3 ∧
      after (.taskStart 7 0) planned (fun t => (t.task 7 0).any (fun a => a.entry == 2047 && a.mask == 0x8000 && a.ctx == 7) && t.rd (CLU.TASK 7) == 2 ^ 31 + 7 * 2 ^ 24)
        = true ∧
      after (.taskStart 7 0) (on 4) (fun t => t == on 4) = true ∧
      (nth [] (planned.tableSet false).cluster 7)[0]? = some { slot := 0, carry := false, op := 1, w1 := 0, w2 := 0x00078000, w3 := 2047 } ∧
      planned.entryNow (35 + 7) false 0 false = true ∧ (planned.modSched (fun c => { c with slot := 1 })).entryNow (35 + 7) false 0 false = false ∧
      after (.taskStart 7 0) (planned.modSched (fun c => { c with slot := 1 })) (fun t => (t.task 7 0).isNone) = true ∧
      after (.taskStart 7 1024) planned (fun t => (t.task 7 1024).isNone) = true ∧
      (withTask {} (ctxState 9 0)).intakeQueue 7 { ctx := 7, idx := 3, mask := 0x8000 } = some (6, false) ∧
      after (.watchdogCancel 7 3) ((withTask {} (ctxState 9 0)).modQ 6 (fun q => { q with stall := 1 }))
        (fun t => (t.q 6).stall == 0 && t.rd (CLU.WD_CNT 7) == 1 && (t.task 7 3).any (·.wdPassed)) = true ∧
      after (.watchdogCancel 7 3) (withTask {} (ctxState 9 0)) (fun t => t.rd (CLU.WD_CNT 7) == 0 && (t.task 7 3).any (·.wdPassed)) = true ∧
      ((hand 6 (lineItem 3) (withTask {} (ctxState 9 3))).takeItem 6).isSome = true ∧
      after (.intakeItemTake 7 3) (hand 6 { kind := .gap } (withTask {} (ctxState 9 3))) (fun t => t.rd (CLU.MARKER_CNT 7) == 1) = true ∧
      (ctxState 9 3).winHi 7 7 0 = 3 ∧ (ctxState 9 3).winLo 7 7 0 = 0 ∧ le (slice (lineItem 3).bytes 4 2) = (ctxState 9 3).ctxFrame 7 7 % 65536 ∧
      after (.intakeItemTake 7 3) (hand 6 (lineItem 3) (withTask {} (ctxState 9 3)))
        (fun t => (t.task 7 3).any (fun b => b.taken.map (·.1) == [3]) && t.cst 7 7 0x004 0 16 == 4) = true ∧
      after (.intakeItemTake 7 3) (hand 6 (lineItem 2) (withTask {} (ctxState 9 3))) (fun t => t.rd (CLU.STALE_CNT 7) == 1) = true ∧
      after (.intakeItemTake 7 3) (hand 6 (lineItem 2) (withTask { isBand := false } (ctxState 9 3))) (fun t => (t.task 7 3).any (fun b => b.item == some (lineItem 2)))
        = true := by decide +kernel

theorem witness_ProgramStartsAndTaskEnds :
    (withTask { taken := [(3, [])], entry := 77 } (ctxState 9 4)).task 7 3 = some { idx := 3, ctx := 7, mask := 0x8000, taken := [(3, [])], entry := 77 } ∧
      (ctxState 9 4).ownLast 7 7 0 = 3 ∧ (ctxState 9 4).cst 7 7 0x004 0 16 = 4 ∧
      after (.programStart 7 3 40) (withTask { taken := [(3, [])], entry := 77 } (ctxState 9 4))
        (fun t => (t.eng 7 15).phase == .running && (t.eng 7 15).pc == 77 && (t.eng 7 15).t == 40 && (t.eng 7 15).sr 15 == 9) = true ∧
      after (.programStart 7 3 40) (withTask { isBand := false, item := some { bytes := [1] } } (ctxState 9 4))
        (fun t => (t.eng 7 15).phase == .running && (t.eng 7 15).sr 12 == 0) = true ∧
      after (.programStart 7 3 0) (withTask { band := 0 } (ctxState 9 3)) (fun t => t.getF (CLU.LAST_ABORT 7) 28 4 == 1 && t.bit (CLU.EVT 7) 0) = true ∧
      after (.programStart 7 3 0) (withTask { isBand := false } (ctxState 9 3)) (fun t => t.getF (CLU.LAST_ABORT 7) 28 4 == 1) = true ∧
      (ctxState 9 4).lastBand 7 7 0 = false ∧ (ctxState 9 4).lastBand 7 7 1 = true ∧
      after (.taskEnd 7 3) (withTask { phase := .run } (ctxState 9 4)) (fun t => (t.task 7 3).isNone && t.rd (CLU.OVERRUN_CNT 7) == 1) = true ∧
      after (.taskEnd 7 3) (withTask { band := 1 } (ctxState 9 8)) (fun t => !t.ctxOpen 7 7 && t.cst 7 7 0x004 0 16 == 0) = true := by decide +kernel

theorem witness_ContextsAndCommits :
    Served (ctxState 9 0) (CLU.CTX_COMMIT 7) ∧ Served (ctxState 9 0) (CLU.CTL 7 + 0x80000 + 0x10000 * 7 + 0xFFFF) ∧ Served (on 6) (CLU.CTL 7) ∧
      Served (on 4) (CLU.CTL 7) ∧ wbit 0x107 8 = true ∧ wbit 0x107 4 = false ∧ wbit 0x117 4 = true ∧ bufferOffset 0xFFFF = some (1, 0x6FFF) ∧ bufferOffset 0x8FFF = some (0, 0x6FFF) ∧
      bufferOffset 0x1FFF = none ∧ (ctxState 9 0).activeBuf 7 7 = 0 ∧ (on 6).mode = 6 ∧ (on 4).mode ≠ 6 ∧
      after (.hostCommit 7 0x117) ((ctxState 9 0).wr (CLU.CTX_TGT 7) 10) (fun t => t.cst 7 7 0x004 28 1 == 1 && t.ctxWord 7 7 0x1014 == 10) = true ∧
      after (.hostCommit 7 0x107) (ctxState 9 0) (fun t => (t.cl 7).noTarget == [7]) = true ∧
      after (.contextWrite 7 7 0xFFFF 0x01020304) (ctxState 9 0) (fun t => t.ctxWord 7 7 0xFFFC == 0x01020304) = true ∧
      after (.contextWrite 7 7 0x2000 1) (ctxState 9 0) (fun t => t.bit (CLU.EVT 7) 8 && t.clu == (ctxState 9 0).clu) = true ∧
      after (.contextWrite 7 7 0x1FFF 1) (ctxState 9 0) (fun t => t.bit (CLU.EVT 7) 8) = true ∧
      (((ctxState 9 0).modCl 7 (fun c => { c with copying := [(7, [(4, 8)])] })).cl 7).copying.find? (fun p => p.1 == 7) = some (7, [(4, 8)]) ∧
      after (.debugHalt 7 1) (on 6) (fun t => t.bit (CLU.CTL 7) 0) = true ∧
      after (.debugHalt 7 1) (on 4) (fun t => t.bit (CLU.EVT 7) 8 && !t.bit (CLU.CTL 7) 0) = true := by
  unfold Served
  decide +kernel

/-- Cluster 7 with a control write of context 7 in its FIFO. -/
def toDeliver (tgt ofs data : Nat) : State := (ctxState 9 0).modCl 7 (fun c => { c with fifo := [{ ctx := 7, tgt := tgt, ofs := ofs, data := data }] })

theorem witness_ControlWritesAreDelivered :
    (ctxState 9 0).hdr 7 7 0x000 24 5 = 3 ∧ 0x10200000 + 0x10000 * 3 + (FE.SRC 3 - 0x10230000) ∈ feShadowed 3 ∧
      (on 4).domOn (camDomain 3) = true ∧ (on 4).underTest 11 = false ∧
      after (.ctrlWriteDeliver 7) (toDeliver 0 (FE.SRC 3 - 0x10230000) 0xFFFFFFFF) (fun t => t.sh (FE.SRC 3) &&& 15 == 15 && (t.cl 7).fifo == []) = true ∧
      after (.ctrlWriteDeliver 7) ((toDeliver 0 (FE.SRC 3 - 0x10230000) 1).setDom (camDomain 3) .off) (fun t => t.rd SYS.OFF_ACCESS_CNT == 1) = true ∧
      after (.ctrlWriteDeliver 7) ((toDeliver 2 0 0x360).setDom (camDomain 3) .off)
        (fun t => t.rd SYS.OFF_ACCESS_CNT == 1 && (t.lnk 3).requests == []) = true ∧
      (toDeliver 2 0 0x360).domOn (camDomain 3) = true ∧
      after (.ctrlWriteDeliver 7) (toDeliver 1 4 0xAB) (fun t => Map.get 0 (t.cl 7).staging 60 == 0xAB) = true ∧
      after (.ctrlWriteDeliver 7) ((toDeliver 2 0 0x360).setLnk 3 { up with inFlight := some (.keepalive 0 false false) })
        (fun t => (t.lnk 3).requests.map (·.payload) == [[0, 0, 0]]) = true ∧
      after (.ctrlWriteDeliver 7) (toDeliver 3 7 10) (fun t => t.ctxWord 7 7 0x1014 == 10 && t.cst 7 7 0x004 28 1 == 1) = true ∧
      ((toDeliver 2 0 0x360).lnk 3).script = [] := by decide +kernel

/-! ### Garnet, the packetiser and pass-through -/

/-- Stream 63: format 1, 70 by 2, OUT_Q 6, presented queue 7. -/
def strm : StreamCfg := { stream := 63, cfg := 0x80001000, outW := 70, outH := 2, outQ := 6, presQ := 7 }

/-- The packetiser table holds one entry for stream 63, of operation `op` and INDEX `i`. -/
def pktTable (op i : Nat) (c : StreamCfg) : State :=
  { on 4 with sched := { (on 4).sched with cur :=
      { pkt := [{ slot := 0, carry := false, op := op, w1 := 0, w2 := 63 * 2 ^ 24 + i, w3 := 0 }], loads := { streams := [c], passQ := some 5 } } } }

/-- The same with queue 6 from cluster 7 to Garnet, holding `items`. -/
def withOutQ (items : List CfsItem) : State :=
  ({ pktTable 1 0 strm with cfs := { (on 4).cfs with ready := true } } : State).setQ 6 { en := true, cons := 28, prod := 25, quota := 4, items := items }

/-- Garnet's stream 63 as `g`, with its configuration. -/
def garnet (g : GrnStream) : State := (pktTable 1 0 strm).modGrn 63 (fun _ => { g with cfg := strm })

/-- A line item of frame 9 with `n` bytes of data. -/
def outLine (l : Byte) (n : Nat) : Delivered := { bytes := [0, 0, 0, 0, 9, 0, l, 0] ++ List.replicate n 0x55 }

/-- A frame-open and a frame-close item of frame 9. -/
def openItem : Delivered := { bytes := [0, 0, 0, 9] ++ List.replicate 27 0 ++ [1] }
def closeItem : Delivered := { bytes := [0, 0, 0, 9] ++ List.replicate 27 0 ++ [2] }

/-- Garnet in a LINE range with frame 9 open. -/
def inRange : GrnStream := { range := some { op := 1, index := 0 }, isOpen := true, fn := 9 }

theorem witness_GarnetHandlesItems :
    ((pktTable 1 0 strm).tableSet false).stream 63 = some strm ∧ strm.preview = false ∧ ((pktTable 1 0 strm).grn 63).held = none ∧
      (pktTable 1 0 strm).entryNow 43 false 0 false = true ∧ (pktTable 1 0 strm).entryNow 43 true 0 false = false ∧
      (withOutQ []).delivered 6 = [] ∧ (withOutQ []).popAllowed 6 28 = true ∧
      after (.garnetRangeStart false 0) (withOutQ []) (fun t => (t.q 6).stall == 1) = true ∧
      after (.garnetRangeStart false 0) (withOutQ [{ len := 2, cells := [8], committed := true }])
        (fun t => (t.q 6).stall == 0 && (t.q 6).items == [{ len := 2, cells := [8], committed := true, claimed := true }]) = true ∧
      after (.garnetRangeStart false 0) ((pktTable 1 0 strm).modSched (fun c => { c with slot := 1 })) (fun t => (t.grn 63).range == none) = true ∧
      after (.pktRangeStart false 0) ((pktTable 4 1 strm).modSched (fun c => { c with slot := 1 })) (fun t => (t.pkt 63).range == none) = true ∧
      after (.garnetRangeStart false 0) (pktTable 1 0 strm) (fun t => (t.grn 63).range == some { op := 1, index := 0 } && (t.grn 63).cfg == strm) = true ∧
      ((hand 6 (outLine 1 140) (garnet inRange)).takeItem 6).isSome = true ∧ outItem (outLine 1 140) = .line ∧ outItem openItem = .frameOpen ∧
      outItem closeItem = .frameClose ∧ (garnet inRange).drawList 63 = [] ∧
      after (.garnetItemTake 63) (hand 6 { kind := .flush } (garnet inRange)) (fun t => t.rd PRES.GRN_MARKER_CNT == 1 && (t.grn 63).gap) = true ∧
      after (.garnetItemTake 63) (hand 6 openItem (garnet { inRange with isOpen := false })) (fun t => (t.grn 63).isOpen && (t.grn 63).fn == 9) = true ∧
      after (.garnetItemTake 63) (hand 6 (outLine 1 140) (garnet inRange)) (fun t => (t.grn 63).range == some { op := 1, index := 0, done := true }) = true ∧
      after (.garnetItemTake 63) (hand 6 (outLine 1 140) (garnet { inRange with fn := 10 })) (fun t => t.rd PRES.GRN_STALE_CNT == 1) = true ∧
      (((garnet inRange).wr (PRES.FRZ_CFG 7) 0xBF00001F).sampleSlots 63) = [7] ∧
      after (.garnetItemTake 63) (hand 6 closeItem ((garnet inRange).wr (PRES.FRZ_CFG 7) 0xBF00001F)) (fun t => (t.grn 63).closed && t.dmaReq == 2 ^ 55) = true ∧
      after (.garnetRangeEnd 63) ((garnet inRange).modQ 6 (fun q => { q with stall := 1 })) (fun t => t.rd PRES.GRN_CANCEL_CNT == 1 && (t.grn 63).range.isNone) = true ∧
      after (.garnetProofPush false 0) { garnet inRange with sched := (pktTable 3 0 strm).sched } (fun t => !(t.grn 63).isOpen) = true ∧
      after (.frozenCompareResult 7) ({ on 4 with pres := { (on 4).pres with compared := [6] } } : State) (fun t => t == { on 4 with pres := { (on 4).pres with compared := [6] } }) = true ∧
      (let s := ((garnet { inRange with closed := true }).wr (PRES.FRZ_CFG 7) 0xBF00001F).wr (DMA.CH_MISMATCH 31) 3;
       after (.frozenCompareResult 7) { s with pres := { s.pres with compared := [7] } } (fun t => (t.grn 63).cmp == some 3 && t.pres.compared == [])) = true ∧
      (withOutQ []).cfs.upsets = [] := by decide +kernel

/-- The packetiser's stream 63 as `p`, with its configuration. -/
def packer (p : PktStream) (c : StreamCfg) : State := (pktTable 4 1 c).modPkt 63 (fun _ => { p with cfg := c })

/-- In UNIT range `i` of frame 9. -/
def inUnit (op i : Nat) : PktStream := { range := some { op := op, index := i }, isOpen := true, fn := 9, first := false, seq := 255 }

/-- A pass-through range expects its item at 10 ns, with no tolerance. -/
def passing : State := { (pktTable 6 0 strm).wr ETH.PASS_CFG 0 with eth := { (on 4).eth with passRange := some (3, 10, false, false), passFrom := 5 } }

/-- A stream with legacy statistics. -/
def legacyStrm : StreamCfg := { strm with statQ := some 4, legacy := true }

theorem witness_PacketiserAndPassThrough :
    (on 6).domOn 7 = true ∧ passing.comes 5 = false ∧ (pktTable 4 1 strm).entryNow 43 false 0 false = true ∧ (on 6).mode = 6 ∧ (on 4).mode ≠ 2 ∧ (on 4).mode ≠ 6 ∧ ((packer (inUnit 4 1) strm).pkt 63).kids = [] ∧
      after (.drawMemoryWrite 0x3FFFF 0x01020304) (on 6) (fun t => Memory.readByte t.pres.draw 0x3FFFC == 4 && Memory.readByte t.pres.draw 0x3FFFF == 1 && t.mgmt.answer.status == 0) = true ∧
      after (.drawMemoryWrite 0 1) (on 4) (fun t => t.rd PRES.DRAW_REF_CNT == 1 && t.mgmt.answer.status == 5 && t.pres == (on 4).pres) = true ∧
      after (.pktRangeStart false 0) (pktTable 4 1 strm) (fun t => (t.pkt 63).range == some { op := 4, index := 1 }) = true ∧
      ((hand 7 (outLine 1 140) (packer (inUnit 4 1) strm)).takeItem 7).isSome = true ∧
      after (.pktItemTake 63 false) (hand 7 (outLine 1 140) (packer (inUnit 4 1) strm))
        (fun t => (t.pkt 63).seq == 0 && (Map.get none t.eth.units (65536 * 63 + 1)).any (fun x => x.fn == 9 && x.line && x.frame.length == 14 + 32 + 140)) = true ∧
      after (.pktRangeEnd 63) (packer (inUnit 4 1) strm)
        (fun t => t.rd PRES.FILL_LINE_CNT == 1 && (Map.get none t.eth.units (65536 * 63 + 1)).any (fun x => x.frame.reverse.take 2 == [0x10, 0x80])) = true ∧
      after (.trailerRangeEnd 63) (packer (inUnit 5 0) strm)
        (fun t => t.rd PRES.NO_CLOSE_CNT == 1 && t.rd PRES.PROOF_MISS_CNT == 1 && (t.pkt 63).trailerDone && (Map.get none t.eth.units (65536 * 63 + 2)).isSome) = true ∧
      after (.statsRangeEnd 63) (packer { inUnit 5 0 with statRange := some { op := 7, index := 0 }, stats := some [1] } legacyStrm)
        (fun t => !(t.pkt 63).isOpen && t.rd PRES.STATS_MISS_CNT == 0 && (Map.get none t.eth.units (65536 * 63 + 3)).isSome) = true ∧
      ((pktTable 6 0 strm).sched.cur.loads.passQ.getD 0) = 5 ∧
      after .passItemTake (hand 5 { bytes := [9, 0, 0, 0, 0, 0, 0, 0, 1, 2] } passing)
        (fun t => t.rd (ETH.PASS_STALE_CNT 1) == 1) = true ∧
      after .passItemTake (hand 5 { bytes := [10, 0, 0, 0, 0, 0, 0, 0, 1, 2] } passing)
        (fun t => Map.get none t.eth.pass 3 == some [1, 2]) = true ∧
      after .passItemTake (hand 5 { bytes := [11, 0, 0, 0, 0, 0, 0, 0, 1, 2] } passing)
        (fun t => t.rd (ETH.PASS_MISS_CNT 1) == 1 && t.eth.passHeld.isSome) = true ∧
      after .passRangeEnd passing
        (fun t => t.rd (ETH.PASS_MISS_CNT 1) == 1 && t.eth.passRange == none) = true ∧
      after (.pktRangeStart false 0) ((pktTable 5 0 strm).modPkt 63 (fun p => { p with isOpen := true, close := some [], proof := some [] }))
        (fun t => (t.pkt 63).range == some { op := 5, index := 0, done := true } && (t.pkt 63).cfg == strm) = true ∧
      after (.pktRangeStart false 0) ((pktTable 5 0 strm).modPkt 63 (fun p => { p with isOpen := true }))
        (fun t => (t.pkt 63).range == some { op := 5, index := 0 }) = true ∧
      after (.pktRangeStart false 0) ((pktTable 7 0 legacyStrm).modPkt 63 (fun p => { p with isOpen := true }))
        (fun t => (t.pkt 63).statRange == some { op := 7, index := 0 }) = true ∧
      after (.pktRangeStart false 0) (pktTable 6 9 strm) (fun t => t.eth.passRange == some (9, 0, false, false) && t.eth.passFrom == 5) = true ∧
      passing.time.refused = [] ∧ (packer (inUnit 4 1) strm).time.refused = [] := by decide +kernel

/-! ### Ethernet ports -/

/-- The lists that `State.Shaped` speaks of have their lengths. -/
def shaped (s : State) : Bool :=
  s.eth.ports.length == 2 && s.time.doms.length == 2 && s.time.pdelay.length == 2 && s.time.ppTrig.length == 2 && s.power.doms.length == 8 && s.cfs.free.length == 4

theorem shaped_iff (s : State) : shaped s = true ↔ s.Shaped := by simp [shaped, State.Shaped, and_assoc]

theorem witness_EveryStepKeepsShape : State.reset.Shaped ∧ (on 4).Shaped ∧ after .nop (on 4) shaped = true := by
  refine ⟨(shaped_iff _).1 ?_, (shaped_iff _).1 ?_, ?_⟩ <;> decide +kernel

/-- Port 1 as `x`, with `cfg` in ETH.PCFG. -/
def port (cfg : Nat) (x : PortState) : State := ((on 4).modPort 1 (fun _ => x)).wr (ETH.PCFG 1) cfg

theorem witness_PortsChangeState :
    (port 0 {}).Shaped ∧ Served (port 0 {}) (ETH.PCFG (1 : Fin 2)) ∧ Served (port 0 {}) (ETH.LOOP_CTL (1 : Fin 2)) ∧
      Served (port 0 {}) (laneAddr (.dfe 2) (1 : Fin 2) (3 : Fin 4)) ∧ (port 0 {}).hasPort (1 : Fin 2) = true ∧ ((port 0 {}).prt 1).link = .off ∧ (0x11 : Word).toNat / 2 % 4 ≠ 3 ∧
      (wbit 0x11 0 && !wbit 0x1E 0) = true ∧ (port 0 {}).sceneUsesPort 1 = false ∧
      after (.portEnable 1 0x11) (port 0 {}) (fun t => (t.prt 1).link == .fast && t.rd (ETH.PCFG 1) == 0x11) = true ∧
      after (.portEnable 1 0x09) (port 0 {}) (fun t => (t.prt 1).link == .an) = true ∧
      ((port 1 { link := .train }).prt 1).link = .train ∧ wbit 0 0 = false ∧
      after (.portCfgWrite 1 0x13) (port 1 { link := .up }) (fun t => t.bit ETH.EVT 8 && t.rd (ETH.PCFG 1) == 0x11) = true ∧
      after (.laneSettingsWrite 1 3 (.dfe 2) 0xFFFFFFFF) (port 0 {}) (fun t => t.rd (ETH.LANE_DFE 1 3 2) == writable (ETH.LANE_DFE 1 3 2)) = true ∧
      after (.laneSettingsWrite 1 3 (.dfe 2) 0x80) (port 0 {}) (fun t => t.rd (ETH.LANE_DFE 1 3 2) % 256 == 0x81) = true ∧
      after (.laneSettingsWrite 1 3 .txeq 1) (port 1 { link := .up }) (fun t => t.bit ETH.EVT 8) = true ∧
      after (.fastTimeout 1) (port 9 { link := .fast }) (fun t => (t.prt 1).link == .an && t.rd (ETH.FR_FAIL_CNT 1) == 1 && t.bit ETH.EVT 6) = true ∧
      after (.trainingMarkerDetect 1) (port 1 { link := .fast }) (fun t => (t.prt 1).link == .train) = true ∧
      after (.anComplete 1) (port 9 { link := .an }) (fun t => (t.prt 1).link == .train) = true ∧
      after (.portTrainTimeout 1) (port 9 { link := .train }) (fun t => (t.prt 1).link == .an && t.rd (ETH.TRAIN_FAIL_CNT 1) == 1) = true ∧
      ((port 1 { link := .fast }).prt 1).link = .fast ∧
      after (.portLinkLoss 1) (port 1 { link := .up }) (fun t => (t.prt 1).link == .fast && t.rd (ETH.LINK_DOWN_CNT 1) == 1) = true ∧
      after (.linkFaultReceive 1) (port 1 { link := .up }) (fun t => !t.carries 1) = true ∧
      after (.linkFaultClear 1) (port 1 { link := .up, fault := true }) (fun t => t.carries 1) = true ∧
      after (.portLoopbackSelect 1 3 5) (port 1 { link := .up }) (fun t => (t.prt 1).link == .loop && t.rd (ETH.LOOP_CTL 1) == 3) = true ∧
      after (.portLoopbackSelect 1 1 0) { port 1 { link := .up } with sched := { (on 4).sched with cur := { loads := { passQ := some 5 } } } }
        (fun t => (t.prt 1).link == .up && t.rd (ETH.LOOP_CTL 1) == 0 && t.bit ETH.EVT 8) = true ∧
      after (.portLoopbackSelect 1 3 5) ((port 1 { link := .loop }).wr (ETH.LOOP_CTL 1) 1) (fun t => t.rd (ETH.LB_ERR_CNT 1) == 5 && (t.prt 1).link == .loop) = true ∧
      after (.fecCodewordError 1 true) (port 1 {}) (fun t => t.rd (ETH.FEC_UNCORR_CNT 1) == 1 && t.rd (ETH.FEC_CORR_CNT 1) == 0) = true ∧
      after (.trainingMarkerDetect 1) ((port 0x21 { link := .fast }).wr (ETH.LANE_RXCFG 1 0) 0x30) (fun t => t.rd (ETH.LANE_RXCFG 1 0) == 0x30) = true ∧
      after (.trainingMarkerDetect 1) ((port 1 { link := .fast }).wr (ETH.LANE_RXCFG 1 0) 0x30) (fun t => t.rd (ETH.LANE_RXCFG 1 0) == 0x20) = true ∧
      ((port 0x21 { link := .train }).prt 1).link = .train ∧ (port 0x21 {}).lanesUsed 1 ≠ 0 := by
  unfold Served
  refine ⟨(shaped_iff _).1 ?_, ?_⟩ <;> decide +kernel

/-- Port 0 UP, device time 1000 ns; a pass-through queue. -/
def net (x : PortState) : State :=
  { (on 4).modPort 0 (fun _ => { x with link := .up }) with
    time := { (on 4).time with dt := 1000 * 2 ^ 40 }, sched := { (on 4).sched with cur := { loads := { passQ := some 5 }, launch :=
      [{ slot := 0, carry := false, op := 1, w1 := 5000, w2 := 0, w3 := 63 * 2 ^ 24 + 1 }] } } }

/-- A frame to this device of type `t` with `n` bytes of data. -/
def frameOf (t n : Nat) : List Byte := beBytes 6 (net {}).uplAddress ++ beBytes 6 1 ++ beBytes 2 t ++ List.replicate n 0

/-- A launch of unit 1 of stream 63, due at 900 ns. -/
def due900 : PendLaunch := { port := 0, due := 900 * 2 ^ 40, handed := 0, pass := false, stream := 63, index := 1 }

/-- Unit 1 of stream 63 is built; `l` is pending. -/
def withUnit (l : List PendLaunch) (s : State) : State :=
  { s with eth := { s.eth with units := [(65536 * 63 + 1, some { frame := [1, 2], fn := 9, line := true })] }, time := { s.time with launches := l } }

theorem witness_FramesAreReceivedAndLaunched :
    (net {}).Shaped ∧ (net {}).macsecOn = false ∧ (net {}).entryNow 44 false 0 false = true ∧ (net {}).carries 0 = true ∧
      (net { fault := true }).carries 0 = false ∧ (withUnit [] (net {})).protect 0 [1, 2] = (some [1, 2], withUnit [] (net {})) ∧
      (onWire [1, 2]).length = 64 ∧ crc32 ([0x31, 0x32, 0x33, 0x34, 0x35, 0x36, 0x37, 0x38, 0x39] : List Byte) = 0xCBF43926 ∧
      after (.launchHandover true 0) (net {}) (fun t => t.time.launches == []) = true ∧
      after (.launchHandover false 0) ((net {}).modSched (fun c => { c with slot := 1 })) (fun t => t.time.launches == []) = true ∧
      after (.launchFire 0) (withUnit [{ due900 with queue := 1 }] (net {})) (fun t => (t.prt 0).sent == none) = true ∧ (frameType (frameOf ((net {}).getF ETH.MGMT_ETYPE 0 16) 46)).1 = (net {}).getF ETH.MGMT_ETYPE 0 16 ∧
      (net {}).getF ETH.MGMT_ETYPE 0 16 ≠ 0x88F7 ∧ (net {}).getF ETH.MGMT_ETYPE 0 16 ≠ 0x22F0 ∧
      after (.ethFrameReceive 0 [1] false 0) (net {}) (fun t => t.rd (ETH.RX_FCS_CNT 0) == 1) = true ∧
      after (.ethFrameReceive 0 (frameOf 0x1234 45) true 0) (net {}) (fun t => t.rd (ETH.RX_DISCARD_CNT 0) == 1) = true ∧
      after (.ethFrameReceive 0 (frameOf ((net {}).getF ETH.MGMT_ETYPE 0 16) 46) true 0) (net {}) (fun t => t.mgmt.frames.length == 1 && t.power.hostAt == t.now) = true ∧
      after (.passthroughFrameReceive (frameOf 0x22F0 46) true 10) ((net {}).modPort 1 (fun p => { p with link := .up }))
        (fun t => t == ((net {}).modPort 1 (fun p => { p with link := .up })).push 5 27 (leBytes 4 990 ++ List.replicate 4 0 ++ frameOf 0x22F0 46)) = true ∧
      after (.launchHandover false 0) (net {}) (fun t => t.time.launches.map (·.due) == [5000 * 2 ^ 40]) = true ∧
      after (.launchFire 0) (withUnit [due900] (net {})) (fun t => (t.prt 0).sent == some { bytes := onWire [1, 2], at_ := 900 * 2 ^ 40 } && t.time.launches == [] &&
        t.rd (TIME.LAUNCH_LATE_CNT + 0) == 0) = true ∧
      after (.launchFire 0) (withUnit [{ due900 with handed := 10 ^ 9 * 2 ^ 40 }] (net {})) (fun t => t.rd (TIME.LAUNCH_DROP_CNT + 0) == 1 && t.bit TIME.EVT 9) = true ∧
      after (.launchFire 0) (withUnit [due900] (net { busyUntil := 901 * 2 ^ 40 })) (fun t => (t.prt 0).deferred == [due900]) = true ∧
      after (.launchFire 0) (withUnit [due900] (net { fault := true })) (fun t => t.rd (ETH.LAUNCH_DOWN_CNT 0) == 1) = true ∧
      after (.launchDeferredStart 0) (withUnit [] (net { busyUntil := 901 * 2 ^ 40, deferred := [due900] }))
        (fun t => (t.prt 0).sent.any (fun x => x.at_ == 901 * 2 ^ 40) && t.rd (TIME.LAUNCH_LATE_CNT + 0) == 1) = true ∧
      (net {}).fits 0 60 = true ∧ ({ net {} with time := { (net {}).time with dt := 4999 * 2 ^ 40 } } : State).fits 0 60 = false ∧
      after (.unschedFrameStart 0) (net { q7 := [[1, 2]] }) (fun t => (t.prt 0).q7 == [] && (t.prt 0).sent.any (fun x => x.bytes.length == 64)) = true ∧
      after (.unschedFrameStart 0) { net { q7 := [[1, 2]] } with time := { (net {}).time with dt := 4999 * 2 ^ 40 } } (fun t => (t.prt 0).q7 == [[1, 2]]) = true ∧
      after (.launchHandover false 0) (withUnit (List.replicate 448 { due900 with stream := 62 }) (net {}))
        (fun t => t.time.launches.length == 448 && t.rd (TIME.LAUNCH_DROP_CNT + 0) == 1 && Map.get none t.eth.units (65536 * 63 + 1) == none && t.time.refused == []) = true ∧
      after (.launchHandover false 0) { net {} with time := { (net {}).time with launches := List.replicate 448 { due900 with stream := 62 } } }
        (fun t => t.rd (TIME.LAUNCH_DROP_CNT + 0) == 1 && t.time.refused.map (fun l => (l.stream, l.index)) == [(63, 1)]) = true := by
  refine ⟨(shaped_iff _).1 ?_, ?_⟩ <;> decide +kernel

/-! ### Meridian -/

/-- Domain 1 of number 5 is enabled, QUALIFIED with offset 16, as is peer delay on UPL; device time is 1 s. -/
def meridian (x : DomState) (f : TimeState → TimeState) : State :=
  let s := net {}
  ({ s with time := f { s.time with dt := 10 ^ 9 * 2 ^ 40, doms := [{}, { x with gptp := true }], pdelay := [{ capable := true }, {}] } }).wr (TIME.DOM_CFG 1) 0x80000005

/-- A record at 1 s with offset 16. -/
def tracked : DomState := { phase := .qualified, ofs := 16, ofsAt := 10 ^ 9 * 2 ^ 40, seen := true }

/-- A Sync of domain number 5 whose origin is `o` ns. -/
def sync (two : Bool) (o : Nat) : SyncMsg :=
  { domain := 5, seq := 65535, logInterval := 253, twoStep := two, info := { origin := o, correction := 0, rateOfs := 0, gmInfo := [], tlv := none } }

theorem witness_DomainsAndMessages_tracked :
    (meridian tracked id).Shaped ∧ (meridian tracked id).syncFor (sync false 0).domain.toNat = some 1 ∧ Tracked (meridian tracked id) 1 ∧
      (residual (meridian tracked id) 1 (syncOffset (meridian tracked id) 1 (sync false (10 ^ 9 + 2)).info ((meridian tracked id).ingressStamp 0 0)) (10 ^ 9 * 2 ^ 40)).natAbs = 16 ∧
      after (.syncReceive (sync false (10 ^ 9 + 2)) 0) (meridian tracked id) (fun t => (t.gdom 1).ofs == 32 && (t.gdom 1).logSync == 253) = true ∧
      after (.syncReceive (sync false 0) 0) (meridian tracked id) (fun t => (t.gdom 1).ofs == 16 && (t.gdom 1).candidate.isSome) = true ∧
      after (.syncReceive (sync true 0) 8) (meridian tracked id)
        (fun t => t.time.twoStep == [{ domain := 5, seq := 65535, ingress := 16 * (10 ^ 9 - 10), correction := 0, logInterval := 253 }]) = true ∧
      after (.followUpReceive 5 65535 (sync true (10 ^ 9)).info) (meridian tracked (fun t => { t with twoStep := [{ domain := 5, seq := 65535, ingress := 16 * 10 ^ 9, correction := 0, logInterval := 0 }] }))
        (fun t => (t.gdom 1).ofs == 0 && t.time.twoStep == []) = true ∧
      after (.followUpTimeout 5 65535) (meridian tracked (fun t => { t with twoStep := [{ domain := 5, seq := 65535, ingress := 1, correction := 0, logInterval := 0 }] }))
        (fun t => t.rd TIME.RELAY_DROP_CNT == 1 && t.bit TIME.EVT 10) = true ∧
      Served (meridian tracked id) (TIME.DOM_ASYM (1 : Fin 2)) ∧
      after (.asymWrite 1 0xFFFFFFFF) (meridian tracked id) (fun t => (t.gdom 1).ofs == 15) = true ∧
      (meridian tracked id).domEnabled 1 = true ∧
      after (.syncReceiptTimeout 1) (meridian tracked (fun t => { t with selected := true, drive := 1, dtState := .locked }))
        (fun t => (t.gdom 1).phase == .listen && t.time.dtState == .hold && t.rd TIME.SYNC_TO_CNT == 1) = true ∧
      after (.suspectTimeout 1) (meridian { tracked with phase := .suspect, susp := some (-7, 3) } id) (fun t => (t.gdom 1).phase == .qualified && (t.gdom 1).ofs == -7) = true := by
  refine ⟨(shaped_iff _).1 ?_, ?_, ⟨?_, ?_, ?_, ?_⟩, ?_⟩ <;> (try unfold Served) <;> decide +kernel

theorem witness_DeviceTimeIsSteered :
    (meridian tracked id).Shaped ∧ Served (meridian tracked id) TIME.CTL ∧ Served (meridian tracked id) TIME.NOW_CAP ∧ wbit 0x110 8 = true ∧
      after (.switchRequest 0x110) (meridian { tracked with phase := .suspect } (fun t => { t with selected := true, drive := 1, switchTo := some (0, 5) }))
        (fun t => t.time.switchTo == none && t.time.drive == 1) = true ∧
      after .acqStepApply (meridian tracked (fun t => { t with stepPend := some (-24) }))
        (fun t => t.time.dt == (10 ^ 9 - 1) * 2 ^ 40 && t.rd TIME.ACQ_STEP_CNT == 1 && t.bit TIME.EVT 6) = true ∧
      after .acqStepApply (meridian tracked (fun t => { t with stepPend := some (-24), twoStep := [{ domain := 5, seq := 1, ingress := 64, correction := 0, logInterval := 0 }] }))
        (fun t => t.time.twoStep == ((meridian tracked (fun t => { t with twoStep := [{ domain := 5, seq := 1, ingress := 64, correction := 0, logInterval := 0 }] })).stepTime (-1)).time.twoStep) = true ∧
      (let s := meridian tracked (fun t => { t with stepPend := some (-24) });
       after .acqStepApply { s with power := { s.power with coresHalted := true } } (fun t => t.time.stepPend == some (-24) && t.time.dt == s.time.dt)) = true ∧
      after (.switchRequest 0x110) { meridian tracked id with position := 3 } (fun t => t.bit TIME.EVT 11 && t.rd TIME.CTL == 0x10) = true ∧
      after (.switchRequest 0x110) (meridian tracked (fun t => { t with dtState := .hold })) (fun t => t.time.switchTo.any (fun x => x.1 == 1)) = true ∧
      (meridian tracked id).qualified 1 = true ∧
      after .domainSwitch (meridian tracked (fun t => { t with dtState := .locked, switchTo := some (1, 0) }))
        (fun t => t.time.drive == 1 && t.time.selected && t.time.dtState == .slew && t.rd TIME.SWITCH_CNT == 1) = true ∧
      after .autoSelectTimeout ((meridian tracked id).wr TIME.CTL 2) (fun t => t.time.selected && t.time.drive == 1) = true ∧
      after .holdTimeout (meridian tracked (fun t => { t with dtState := .hold })) (fun t => t.time.dtState == .free && t.bit TIME.EVT 1 && !t.time.selected) = true ∧
      after .holdTimeout ((meridian tracked (fun t => { t with dtState := .hold })).wr TIME.CTL 1) (fun t => t.time.dtState == .free && t.time.selected && t.time.drive == 1) = true ∧
      after (.timeCapture 1) (meridian tracked (fun t => { t with dt := (2 ^ 32 * 10 ^ 9 + 5) * 2 ^ 40 + 2 ^ 39 }))
        (fun t => t.rd TIME.NOW_SEC_HI == 1 && t.rd TIME.NOW_SEC_LO == 0 && t.rd TIME.NOW_NS == 5 && t.rd TIME.NOW_FRAC == 0x8000) = true ∧
      after .gmSyncTransmit ((meridian tracked (fun t => { t with gmSeq := 65535 })).wr TIME.CTL 8)
        (fun t => t.time.gmSeq == 0 && (t.prt 0).q6.head? == some (.gmSync 65535) && (t.prt 0).q6.length == 2) = true := by
  unfold Served
  refine ⟨(shaped_iff _).1 ?_, ?_⟩ <;> decide +kernel

/-- Port 1 UP beside port 0, with `q` in its queue 6. -/
def cas (q : List TimeMsg) (s : State) : State := s.modPort 1 (fun p => { p with link := .up, q6 := q })

/-- A Sync on its way to CAS. -/
def relayMsg : TimeMsg := .relay 5 1 (16 * 10 ^ 9) 0 (sync false 0).info

theorem witness_DomainsAndMessages :
    (cas [] (meridian tracked id)).Shaped ∧ ((cas [] (meridian tracked id)).prt 1).link = .up ∧
      after (.pdelayReqReceive 1 9 [1] 8) (cas [] (meridian tracked id)) (fun t => (t.prt 1).q6 == [.pdelayResp 9 [1] (16 * (10 ^ 9 - 10))]) = true ∧
      after (.pdelayRespReceive 1 false 9 100 8) (cas [] (meridian tracked (fun t => { t with pdelay := [{}, { req := some (9, some 7) }] })))
        (fun t => (nth {} t.time.pdelay 1).resp == some (100, 16 * (10 ^ 9 - 10))) = true ∧
      after (.pdelayRespReceive 1 true 9 116 0) (cas [] (meridian tracked (fun t => { t with pdelay := [{}, { req := some (9, some 7), resp := some (100, 25623) }] })))
        (fun t => (nth {} t.time.pdelay 1).delay == 12800 && (nth {} t.time.pdelay 1).capable && t.rd (TIME.PDELAY 1) == 12800) = true ∧
      after (.pdelayInterval 1) (cas [] (meridian tracked (fun t => { t with pdelay := [{}, { req := some (9, some 7), seq := 65535, lost := 9 }] })))
        (fun t => (t.prt 1).q6 == [.pdelayReq 65535] && (nth {} t.time.pdelay 1).lost == 10) = true ∧
      after (.signalingReceive 1 (some (-5)) (some 3) none) (cas [] (meridian tracked id)) (fun t => t.time.syncLog == -5 && (nth {} t.time.pdelay 1).log == 3) = true ∧
      after (.signalingReceive 1 (some (-6)) (some (-4)) none) (cas [] (meridian tracked id)) (fun t => t.time.syncLog == -5 && (nth {} t.time.pdelay 1).log == -3) = true ∧
      ((meridian tracked (fun t => { t with syncLog := -5 })).timeBytes 0 0 (.gmSync 1))[47]? = some 0xFB ∧
      (meridian tracked id).syncFor (be (slice [0, 0, 0, 0, 5] 4 1)) = some 1 ∧
      after (.announceReceive [0, 0, 0, 0, 5]) (cas [] (meridian tracked id)) (fun t => (t.gdom 1).utc.isSome && (t.prt 1).q6.length == 1) = true ∧
      isRelay relayMsg = true ∧
      after .relaySyncTransmit (cas [relayMsg] (meridian tracked id)) (fun t => (t.prt 1).q6 == [] && (t.prt 1).sent.isSome) = true ∧
      after .relayTimeout (cas [relayMsg] (meridian tracked id)) (fun t => (t.prt 1).q6 == [] && t.rd TIME.RELAY_DROP_CNT == 1) = true := by
  refine ⟨(shaped_iff _).1 ?_, ?_⟩ <;> decide +kernel

/-- The trigger table holds one entry of camera `c` at instant `i` ns. -/
def trigger (c i : Nat) : State :=
  let s := (on 4).wr (TIME.CAM_DLY c) 0
  { s with time := { s.time with dt := 10 ^ 9 * 2 ^ 40 }, sched := { s.sched with cur := { trig := [{ slot := 0, carry := false, op := 1, w1 := i, w2 := c * 2 ^ 16, w3 := 65535 }] } } }

/-- A trigger of camera `c` is pending. -/
def pendingTrig (c : Nat) : State := { trigger c 0 with time := { (trigger c 0).time with trigs := [{ cam := c, instant := 5, dly := 0, out := 1, width := 3 }] } }

theorem witness_TriggersAreSent :
    (trigger 17 0).Shaped ∧ (trigger 17 0).entryNow 45 false 0 false = true ∧
      after (.triggerHandover (.slot true 0)) (trigger 17 (2 * 10 ^ 9)) (fun t => t.time.trigs == []) = true ∧
      after (.triggerHandover (.slot false 0)) ((trigger 17 (2 * 10 ^ 9)).modSched (fun c => { c with slot := 1 })) (fun t => t.time.trigs == []) = true ∧
      after (.triggerHandover (.slot false 0)) (trigger 17 (2 * 10 ^ 9)) (fun t => t.time.trigs.map (fun g => (g.cam, g.width)) == [(17, 65535)]) = true ∧
      after (.triggerHandover (.slot false 0)) ((trigger 17 (10 ^ 9)).wr TIME.LATE_TOL 0xFFFF) (fun t => t.time.trigs == [] && t.rd TIME.TRIG_LATE_CNT == 1) = true ∧
      after (.triggerHandover (.slot false 0)) (trigger 17 0) (fun t => t.time.trigs == [] && t.rd TIME.TRIG_SKIP_CNT == 1) = true ∧
      after (.triggerHandover (.due 17)) (pendingTrig 17) (fun t => t.time.trigs == [] && t.time.ppPend == [(1, 3)]) = true ∧
      (((pendingTrig 15).setLnk 15 { up with inFlight := some (.keepalive 0 false false) }).lnk 15).training = .active ∧
      after (.triggerHandover (.due 15)) ((pendingTrig 15).setLnk 15 { up with inFlight := some (.keepalive 0 false false) })
        (fun t => t.time.trigs == [] && (t.lnk 15).triggers.length == 1) = true ∧
      after (.ppTriggerAssert 1) { trigger 17 0 with time := { (trigger 17 0).time with ppPend := [(1, 3)] } } (fun t => t.time.ppTrig == [false, true] && t.time.ppPend == []) = true ∧
      after (.ppTriggerRelease 1) { trigger 17 0 with time := { (trigger 17 0).time with ppTrig := [true, true] } } (fun t => t.time.ppTrig == [true, false]) = true ∧
      after (.triggerHandover (.slot false 0)) (let s := trigger 17 0; { s with time := { s.time with trigs := List.replicate 64 { cam := 1, instant := 5, dly := 0, out := 1, width := 3 } } })
        (fun t => t.time.trigs.length == 64 && t.rd TIME.TRIG_SKIP_CNT == 1 && t.rd TIME.TRIG_LAST == 4 * 2 ^ 29 + 17 * 2 ^ 24) = true ∧
      after (.triggerHandover (.due 15)) (pendingTrig 15) (fun t => t.time.trigs == [] && t.rd TIME.TRIG_SKIP_CNT == 1 && t.rd TIME.TRIG_LAST == 2 * 2 ^ 29 + 15 * 2 ^ 24) = true ∧
      after (.triggerHandover (.due 15)) ((pendingTrig 15).setLnk 15 up)
        (fun t => (t.lnk 15).inFlight == (let x := (pendingTrig 15).trigTarget 15 5; some (.trigger x.1 1 x.2 3)) && (t.lnk 15).triggers == []) = true ∧
      after (.triggerHandover (.due 16)) (pendingTrig 15) (fun t => t.time == (pendingTrig 15).time) = true ∧
      after (.ppTriggerAssert 1) (trigger 17 0) (fun t => t.time.ppTrig == [false, false]) = true := by
  refine ⟨(shaped_iff _).1 ?_, ?_⟩ <;> decide +kernel

/-! ### Schedule control and the chain swap -/

/-- A set of period 10 ms is in force, in SERVICE at device time 1 s; schedule control is `f` of that. -/
def sched (f : SchedState → SchedState) : State :=
  { on 4 with time := { (on 4).time with dt := 10 ^ 9 * 2 ^ 40 }, sched := f { (on 4).sched with cur := { periodNs := 10000000 } } }

/-- A staged set of the same period, with S at 1 s. -/
def ready1s : Swap := { kind := .grade, scene := 0, grade := 1, variant := 0, after := 0, at_ := 10 ^ 9 * 2 ^ 40, staging := false, set := some { periodNs := 10000000, grade := 1 } }

theorem witness_SwapsTakeEffect :
    (sched id).sched.next = none ∧ (sched id).sched.cur.period ≠ 0 ∧ (sched id).swapReady ready1s = true ∧ (sched id).swapReady { ready1s with staging := true } = false ∧
      after (.swapRequest (some 2) none) (sched id) (fun t => t.sched.next.any (fun n => n.grade == 2 && n.staging && n.at_ % (10 ^ 7 * 2 ^ 40) == 0)) = true ∧
      after (.swapRequest none (some 8)) (sched id) (fun t => t.sched.next.any (fun n => n.variant == 8)) = true ∧
      after (.swapRequest none (some 8)) (sched (fun c => { c with oos := [0] })) (fun t => t.sched.next.isNone && t.rd SCHED.MULTI_OOS_CNT == 1 && t.bit SCHED.EVT 6) = true ∧
      after (.swapRequest none (some 8)) (sched (fun c => { c with next := some { ready1s with variant := 1 } }))
        (fun t => t.sched.next == some { ready1s with variant := 1 } && t.rd SCHED.MULTI_OOS_CNT == 1) = true ∧
      after (.swapRequest none (some 8)) (sched (fun c => { c with oos := [7] })) (fun t => t.sched.next.any (fun n => n.variant == 8)) = true ∧
      after (.swapRequest none (some 0)) (sched (fun c => { c with oos := [7] })) (fun t => t.sched.next.isNone) = true ∧
      after (.swapRequest none (some 0)) { sched (fun c => { c with oos := [7] }) with bist := { passed := [7] } } (fun t => t.sched.next.any (fun n => n.variant == 0)) = true ∧
      after (.stagingComplete {}) (sched (fun c => { c with next := some { ready1s with staging := true, set := none } }))
        (fun t => t.bit SCHED.EVT 2 && t.rd SCHED.LOAD_ERR / 2 ^ 24 % 128 == 3 && t.sched.next.isNone && t.alm.refused == none) = true ∧
      after (.stagingComplete {}) (sched (fun c => { c with next := some { ready1s with staging := true, set := none, graded := true } })) (fun t => t.alm.refused == some 1) = true ∧
      after .swapGoGuard (sched (fun c => { c with next := some { ready1s with staging := true } }))
        (fun t => t.rd SCHED.SWAP_DEFER_CNT == 1 && t.sched.next.any (fun n => n.deferred && n.at_ == (10 ^ 9 + 10 ^ 7) * 2 ^ 40)) = true ∧
      after .swapGoGuard (sched (fun c => { c with next := some { ready1s with staging := true, seq := 256 } }))
        (fun t => t.sched.next.isNone && t.sched.report.any (fun m => m.code == 0xF0)) = true ∧
      after (.switchSlot 45) (sched (fun c => { c with old := some {} })) (fun t => t.sched.switched == [45]) = true ∧
      after (.switchSlot 45) (sched id) (fun t => t == sched id) = true ∧
      after .slotBoundary (sched id) (fun t => t.sched.slot == 1) = true ∧
      after (.swapRequest (some 0) none) { sched id with alm := { (sched id).alm with grade := 2 } } (fun t => t.sched.next.any (fun n => n.grade == 2)) = true ∧
      after (.swapRequest (some 1) (some 8)) (sched id) (fun t => t.sched.next.any (fun n => n.variant == 8 && n.grade == 1 && n.graded)) = true ∧
      (sched id).afterGuard { ready1s with at_ := (sched id).swapPoint (sched id).leadTime } = false ∧
      after (.swapRequest (some 2) none) (sched (fun c => { c with next := some { ready1s with kind := .scene, scene := 3, at_ := 4 * 10 ^ 9 * 2 ^ 40 } }))
        (fun t => t.sched.next.any (fun n => n.scene == 3 && n.grade == 2 && n.staging && n.at_ == 4 * 10 ^ 9 * 2 ^ 40)) = true ∧
      after (.swapRequest (some 2) none) (sched (fun c => { c with next := some ready1s })) (fun t => t.sched.next == some ready1s && t.sched.waiting.any (fun w => w.grade == 2)) = true ∧
      (sched id).afterGuard ready1s = true ∧ (sched id).afterGuard { ready1s with at_ := 4 * 10 ^ 9 * 2 ^ 40 } = false := by decide +kernel

theorem witness_SwapsTakeEffect_period :
    (sched id).power.shutStep ≠ 3 ∧ (sched id).sched.next = none ∧ (sched id).sched.old = none ∧ (sched id).sched.autoOffDue = false ∧ (sched id).power.coresHalted = false ∧
      (sched id).bit SCHED.CTL 0 = false ∧ ((sched id).setBit SCHED.CTL 0).bit SCHED.CTL 0 = true ∧
      after .periodStart (sched (fun c => { c with slot := 9 })) (fun t => t.sched.slot == 0 && t.sched.periods == 1 && t.sched.periodStart == 10 ^ 9 * 2 ^ 40) = true ∧
      after .periodStart ((sched (fun c => { c with next := some ready1s })).setBit SCHED.CTL 0)
        (fun t => t.sched.cur.grade == 0 && t.sched.next.any (fun n => n.at_ == (10 ^ 9 + 10 ^ 7) * 2 ^ 40)) = true ∧
      (sched id).alm.sampleDue = none ∧
      after .periodStart (sched (fun c => { c with overlap := true, slot := 9 })) (fun t => !t.sched.overlap) = true ∧
      after .periodStart (sched (fun c => { c with next := some { ready1s with seq := 5, staging := true } })) (fun t => t.sched.next.isNone && t.sched.report.any (fun m => m.code == 0xF0)) = true ∧
      after .periodStart ((sched (fun c => { c with next := some { ready1s with seq := 5 } })).setBit SCHED.CTL 0) (fun t => t.sched.next.isNone && t.sched.report.any (fun m => m.code == 0xF1)) = true ∧
      after .periodStart (sched (fun c => { c with next := some { ready1s with kind := .acquisition, set := none } })) (fun t => t.sched.stepping && t.rd SCHED.SWAP_CNT == 1) = true ∧
      (sched id).swapReady { ready1s with kind := .acquisition } = true ∧
      after .periodStart { sched (fun c => { c with next := some ready1s }) with power := { (on 4).power with coresHalted := true } } (fun t => t.sched.next == some ready1s && t.sched.slot == 0) = true ∧
      ({ sched id with power := { (on 4).power with shutStep := 3 } } : State).power.shutStep = 3 := by decide +kernel

/-- A chain swap message of SEQ 5 for scene 3 at `ns`. -/
def chainMsg (cmd ns : Nat) : ChainMsg := { cmd := cmd, seq := 5, scene := 3, code := 0, swapNs := ns, planId := 7, position := 0 }

/-- Position `p`, its oldest management frame the broadcast of `m`. -/
def heard (p : Nat) (m : ChainMsg) (f : SchedState → SchedState) : State :=
  let s := sched f
  { s with position := p, mgmt := { s.mgmt with frames := [s.mgmtFrame 0xFFFFFFFFFFFF 5 9 0 0 m.bytes] } }

theorem witness_ChainSwap_early :
    ((sched id).wr PWR.MODE 2).mode = 2 ∧
      after .chainPrepReceive ((heard 3 (chainMsg 1 (3 * 10 ^ 9)) (fun c => { c with next := some { ready1s with kind := .early } })).wr PWR.MODE 2)
        (fun t => t.sched.next.any (fun n => n.kind == .early) && t.sched.waiting.any (fun w => w.scene == 3 && w.seq == 5 && w.kind == .boot)) = true ∧
      (((sched id).wr PWR.MODE 2).modeAtSwap .early).mode = 3 ∧ (((sched id).wr PWR.MODE 2).modeAtSwap .boot).mode = 4 := by decide +kernel

theorem witness_ChainSwap :
    (sched id).Shaped ∧ (sched id).hasPort 1 = true ∧ (heard 3 (chainMsg 1 (3 * 10 ^ 9)) id).chainHead = some (chainMsg 1 (3 * 10 ^ 9)) ∧
      (heard 3 (chainMsg 1 0) id).fwActs = true ∧ (heard 3 (chainMsg 1 0) id).mode ≠ 7 ∧
      after .chainPrepSend (sched (fun c => { c with chainOut := some (chainMsg 1 9), prepLeft := 1 }))
        (fun t => t.sched.prepLeft == 0 && (t.prt 1).q7.map (·.drop 22) == [(chainMsg 1 9).bytes]) = true ∧
      after .chainCancelSend (sched (fun c => { c with chainOut := some (chainMsg 1 9), cancelLeft := 3 })) (fun t => t.sched.cancelLeft == 2 && (t.prt 1).q7.length == 1) = true ∧
      after .chainPrepReceive (heard 3 (chainMsg 1 (3 * 10 ^ 9)) id) (fun t => t.mgmt.frames == [] && t.sched.next.any (fun n => n.scene == 3 && n.seq == 5 && n.planId == some 7)) = true ∧
      after .chainPrepReceive (heard 3 (chainMsg 1 (10 ^ 9)) id) (fun t => t.sched.next.isNone && t.sched.report.any (fun r => r.code == 0xF2)) = true ∧
      (heard 3 (chainMsg 1 0) id).sched.seenSeq ≠ 5 + 1 ∧ (sched id).bit PWR.MODE 16 = false ∧ (sched id).bit NVM.STAT 3 = false ∧
      (heard 3 (chainMsg 1 0) (fun c => { c with next := some ready1s })).afterGuard { ready1s with at_ := 3 * 10 ^ 9 * 2 ^ 40 } = false ∧
      after .chainPrepReceive (heard 3 (chainMsg 1 (3 * 10 ^ 9)) (fun c => { c with next := some { ready1s with at_ := 4 * 10 ^ 9 * 2 ^ 40, grade := 2, variant := 4 } }))
        (fun t => t.sched.next.any (fun n => n.scene == 3 && n.after == 3 * 10 ^ 9 * 2 ^ 40 && n.grade == 2 && n.variant == 4)) = true ∧
      after .chainPrepReceive ((heard 3 (chainMsg 1 (3 * 10 ^ 9)) id).wr PWR.MODE (2 ^ 16 + 3)) (fun t => t.sched.next.isNone && t.sched.report.any (fun r => r.code == 0xF0)) = true ∧
      (heard 3 (chainMsg 1 0) id).sceneHeld 3 = false ∧
      after .chainPrepReceive ((heard 3 (chainMsg 1 (3 * 10 ^ 9)) id).setBit NVM.STAT 3) (fun t => t.sched.next.isNone && t.sched.report.any (fun r => r.code == 3)) = true ∧
      after .chainCancelReceive (heard 3 (chainMsg 2 0) (fun c => { c with next := some { ready1s with seq := 5 } })) (fun t => t.sched.next.isNone && t.sched.report.any (fun r => r.cmd == 4)) = true ∧
      after .chainReadinessCheck (sched (fun c => { c with chainOut := some (chainMsg 1 (2 * 10 ^ 9)), next := some { ready1s with seq := 5, staging := true } }))
        (fun t => t.sched.cancelLeft == 3 && t.sched.next.isNone && t.sched.report.any (fun r => r.code == 0xF0)) = true ∧
      (let s := sched (fun c => { c with chainOut := some (chainMsg 1 (2 * 10 ^ 9)), next := some { ready1s with seq := 5 } })
       after .chainReadinessCheck s (fun t => t == s)) = true ∧
      after .swapReport (sched (fun c => { c with report := some (chainMsg 3 0) })) (fun t => t.mgmt.events == [(2, (chainMsg 3 0).bytes)] && t.sched.report.isNone) = true ∧
      after .chainPrepReceive (heard 0 (chainMsg 1 (3 * 10 ^ 9)) id) (fun t => t.mgmt.frames == [] && t.sched == (heard 0 (chainMsg 1 0) id).sched) = true ∧
      after .chainPrepReceive (heard 3 (chainMsg 1 (3 * 10 ^ 9)) (fun c => { c with seenSeq := 6 })) (fun t => t.mgmt.frames == [] && t.sched.next.isNone) = true ∧
      after .chainPrepReceive (heard 3 (chainMsg 1 (3 * 10 ^ 9)) (fun c => { c with next := some ready1s })) (fun t => t.sched.next == some ready1s && t.sched.waiting.any (fun w => w.scene == 3 && w.seq == 5)) = true ∧
      (heard 3 (chainMsg 1 0) id).afterGuard ready1s = true ∧
      after .chainCancelReceive (heard 0 (chainMsg 2 0) id) (fun t => t.mgmt.frames == []) = true := by
  refine ⟨(shaped_iff _).1 ?_, ?_⟩ <;> decide +kernel

/-! ### The mailbox -/

/-- Mode `m`, with a command `c` and its body in the host-to-device FIFO. -/
def asked (m c : Nat) (body : List Word) : State := { on m with mgmt := { (on m).mgmt with h2d := BitVec.ofNat 32 (c * 2 ^ 24 + 0xAB0000 + body.length) :: body } }

/-- The command with its body came in the FIFO, and is next, the firmware serving. -/
def taking (c : Nat) (body : List Word) (s : State) : Bool :=
  s.nextCmd == some { cmd := c, tag := 0xAB, body := body } && s.mbxServes

/-- The reply that waits has `status` and `body`. -/
def replied (c status : Nat) (body : List Word) (t : State) : Bool :=
  t.mgmt.reply == some (BitVec.ofNat 32 ((c ||| 128) * 2 ^ 24 + 0xAB0000 + status * 4096 + body.length) :: body) && t.mgmt.h2d == []

/-- Command `c` was refused by mode. -/
def refusedByMode (c : Nat) (t : State) : Bool := replied c 1 [] t && t.rd PWR.CMD_REF_CNT == 1 && t.bit PWR.MODE_EVT 5

/-- A key of 8 words. -/
def key8 : List Word := List.replicate 8 0x01020304

theorem witness_MailboxCommands :
    taking 0 [] (asked 4 0 []) = true ∧ after .nop (asked 4 0 []) (replied 0 0 []) = true ∧ after .nop (asked 4 0 [1]) (replied 0 2 []) = true ∧
      taking 0x7F [1] (asked 4 0x7F [1]) = true ∧ 0x7F ∉ mbxCommands ∧ after .mbxInvalidCommand (asked 4 0x7F [1]) (replied 0x7F 2 []) = true ∧
      after .maintEnter (asked 5 0x40 []) (fun t => replied 0x40 0 [] t && t.mode == 6 && t.getF PWR.MODE 8 4 == 5) = true ∧
      after .maintEnter (asked 2 0x40 []) (fun t => replied 0x40 1 [] t && t.mode == 2 && t.rd PWR.CMD_REF_CNT == 1) = true ∧
      (asked 6 0x41 []).maintBusy = false ∧ ((asked 6 0x41 []).wr (LNK.LOOP_CTL 15) 3).maintBusy = true ∧
      after .maintExit (asked 6 0x41 []) (fun t => replied 0x41 0 [] t && t.mode == 4) = true ∧
      after .maintExit ((asked 6 0x41 []).wr (LNK.LOOP_CTL 15) 3) (fun t => refusedByMode 0x41 t && t.mode == 6) = true ∧
      (asked 4 0x50 []).imageMode = true ∧ (asked 4 0x50 []).fwActs = true ∧ (asked 4 0x50 []).sched.cur.period = 0 ∧
      after .shutdown { asked 4 0x50 [] with sched := (sched id).sched } (fun t => t.mgmt.d2h == [0xD0AB0000] && t.mgmt.h2d == [] && t.mgmt.reply.isNone && t.mode == 7 && t.power.shutStep == 3) = true ∧
      (let s := asked 4 0x50 [];
       after .shutdown { s with mgmt := { s.mgmt with d2h := List.replicate 256 0 } } (fun t => replied 0x50 0 [] t && t.mgmt.shutAfter && t.mode == 4 && t.power == s.power)) = true ∧
      after .maintExit (asked 4 0x41 []) (refusedByMode 0x41) = true ∧ after .timeSet (asked 7 0x30 [0, 1, 2]) (refusedByMode 0x30) = true ∧
      after .keyProv (asked 7 0x20 []) (refusedByMode 0x20) = true ∧ after .shutdown (asked 7 0x50 []) (refusedByMode 0x50) = true ∧
      after .imgData (asked 7 0x11 []) (refusedByMode 0x11) = true ∧ after .imgCommit (asked 7 0x12 []) (refusedByMode 0x12) = true ∧
      after .imgAbort (asked 7 0x13 []) (refusedByMode 0x13) = true ∧ (on 7).imageMode = false ∧ (on 7).position = 0 ∧
      after .imgBegin (asked 7 0x10 [100]) (fun t => replied 0x10 1 [] t && t.rd NVM.WR_REF_CNT == 1 && t.bit NVM.EVT 4 && t.rd PWR.CMD_REF_CNT == 1 && t.bit PWR.MODE_EVT 5) = true ∧
      after .timeSet { asked 4 0x30 [0xFFFF, 1, 999999999] with mgmt := { (asked 4 0x30 [0xFFFF, 1, 999999999]).mgmt with h2dAt := [0, 0, 0, 3 * 2 ^ 36] } }
        (fun t => replied 0x30 0 [] t && t.time.stepPend == some (16 * (((0xFFFF * 2 ^ 32 + 1) * 1000000000 + 999999999 : Nat) : Int) - 3))
        = true ∧
      after .timeSet { asked 4 0x30 [0, 1, 9] with time := { (on 4).time with dtState := .locked } } (refusedByMode 0x30) = true ∧
      after .sceneSelect (asked 7 1 [3]) (fun t => refusedByMode 1 t && t.sched.next.isNone) = true ∧
      after .keyProv ((asked 4 0x20 ([0x02000003, 9] ++ key8)).wr ETH.MS_CTL 2)
        (fun t => replied 0x20 0 [] t && Map.get none t.eth.ms.rxKeys 3 == some (key8.flatMap (fun x => beBytes 4 x.toNat)) && Map.get 0 t.eth.ms.rxNext 3 == 9) = true ∧
      after .keyProv ((asked 4 0x20 ([0x03000000, 9] ++ key8)).wr ETH.MS_CTL 2) (fun t => replied 0x20 0 [] t && t.nvm.decryptKey.isSome && t.nvm.ops.length == 1) = true ∧
      after .keyProv { (asked 4 0x20 ([0x02000003, 9] ++ key8)).wr ETH.MS_CTL 2 with position := 3 } (replied 0x20 1 []) = true ∧
      (asked 4 0x20 []).scanActive = false ∧ (asked 4 0x20 []).eth.ms.txKeys = [] ∧
      after .keyProv ((asked 4 0x20 ([0x01000003, 9] ++ key8)).wr ETH.MS_CTL 2)
        (fun t => replied 0x20 0 [] t && t.eth.ms.txAn == 3 && t.eth.ms.pn == 8 && !t.bit BIST.STAT 5) = true := by decide +kernel

theorem witness_MailboxCommands_invalid :
    (asked 4 1 [8]).fwActs = true ∧ (asked 4 1 [8]).imageMode = true ∧ (asked 4 1 [8]).position = 0 ∧
      after .sceneSelect (asked 4 1 [8]) (replied 1 2 []) = true ∧ after .sceneSelect (asked 4 1 []) (replied 1 2 []) = true ∧
      (asked 4 1 [7]).sceneUsable 7 = false ∧ after .sceneSelect (asked 4 1 [7]) (replied 1 2 []) = true ∧
      after .timeSet (asked 4 0x30 [0]) (replied 0x30 2 []) = true ∧ after .timeSet (asked 4 0x30 [0x10000, 0, 0]) (replied 0x30 2 []) = true ∧
      after .timeSet (asked 4 0x30 [0, 0, 1000000000]) (replied 0x30 2 []) = true ∧
      after .keyProv (asked 4 0x20 ([0x04000000, 9] ++ key8)) (replied 0x20 2 []) = true ∧ after .keyProv (asked 4 0x20 [0x03000000]) (replied 0x20 2 []) = true ∧
      after .keyProv { asked 4 0x20 [] with bist := { (on 4).bist with portScan := true } } (replied 0x20 1 []) = true ∧
      after .maintEnter (asked 4 0x40 [1]) (replied 0x40 2 []) = true ∧ after .maintExit (asked 6 0x41 [1]) (replied 0x41 2 []) = true ∧
      after .shutdown (asked 4 0x50 [1]) (replied 0x50 2 []) = true ∧
      after .imgBegin { asked 4 0x10 [1, 2] with nvm := { (on 4).nvm with bank := some 0 } } (replied 0x10 2 []) = true ∧
      after .imgData (asked 4 0x11 [1]) (replied 0x11 2 []) = true ∧ after .imgData (asked 4 0x11 [0, 1]) (replied 0x11 1 []) = true ∧
      after .imgCommit (asked 4 0x12 [1]) (replied 0x12 2 []) = true ∧ after .imgCommit (asked 4 0x12 []) (replied 0x12 1 []) = true ∧
      after .imgAbort (asked 4 0x13 [1]) (replied 0x13 2 []) = true := by decide +kernel

/-- An image of one scene has every set of it; no swap pends and no set is in force. -/
def imaged : State :=
  { asked 4 1 [7] with nvm := { (on 4).nvm with sections := (upto 27).map (fun i =>
      { early := false, index := i, type := 2, enc := false, id := 7 + 256 * (i / 9) + 65536 * (i % 9), offset := 0, length := 0, iv := [], digest := [] }) } }

theorem witness_MailboxCommands_scene :
    imaged.sceneUsable 7 = true ∧ imaged.sched.next = none ∧ imaged.position = 0 ∧
      after .sceneSelect imaged (fun t => replied 1 0 [] t && t.sched.next.any (fun n => n.scene == 7 && n.staging)) = true ∧
      after .sceneSelect { imaged with sched := { (sched (fun c => { c with next := some ready1s })).sched with cur := { periodNs := 10000000, scene := 1 } } }
        (fun t => replied 1 0 [] t && (t.sched.next.any (fun n => n.scene == 7) || t.sched.waiting.any (fun n => n.scene == 7))) = true ∧
      after .sceneSelect { asked 4 1 [0] with sched := (sched id).sched } (fun t => replied 1 0 [] t && t.sched == (sched id).sched) = true := by decide +kernel

/-- An image-write session on bank 1, of `len` bytes, `next` taken. -/
def session (c : Nat) (body : List Word) (len next : Nat) : State :=
  { asked 4 c body with nvm := { (on 4).nvm with bank := some 0, session := some { bank := 1, len := len, next := next } } }

theorem witness_MailboxCommands_image :
    taking 0x10 [50331648] (asked 4 0x10 [50331648]) = true ∧
      after .imgBegin { asked 4 0x10 [50331648] with nvm := { (on 4).nvm with bank := some 0 } }
        (fun t => replied 0x10 0 [1] t && t.nvm.session == some { bank := 1, len := 50331648 } && t.bit NVM.WR_STAT 31) = true ∧
      after .imgBegin (session 0x10 [100] 5 0) (fun t => replied 0x10 3 [] t && t.rd NVM.WR_REF_CNT == 1) = true ∧
      after .imgData (session 0x11 (256 :: List.replicate 64 7) 512 256) (fun t => replied 0x11 0 [] t && t.nvm.session.any (fun w => w.next == 512) && t.nvm.ops.length == 1) = true ∧
      after .imgData (session 0x11 (0 :: List.replicate 64 7) 512 256) (fun t => replied 0x11 1 [] t && t.rd NVM.WR_REF_CNT == 1) = true ∧
      after .imgData (session 0x11 (256 :: List.replicate 2 7) 263 256) (fun t => replied 0x11 0 [] t && t.nvm.session.any (fun w => w.next == 263) &&
        t.nvm.ops.any (fun j => j.op == .program (bankAddr 1 + 256) [0, 0, 0, 7, 0, 0, 0])) = true ∧
      after .imgData (session 0x11 (256 :: List.replicate 2 7) 512 256) (fun t => replied 0x11 2 [] t && t.nvm == (session 0x11 [] 512 256).nvm) = true ∧
      after .imgCommit { session 0x12 [] 512 512 with nvm := { (session 0x12 [] 512 512).nvm with session := some { bank := 1, len := 512, next := 512, commit := true } } }
        (replied 0x12 3 []) = true ∧
      after .imgCommit (session 0x12 [] 512 512) (fun t => replied 0x12 0 [] t && t.nvm.session.any (·.commit)) = true ∧
      after .imgCommit (session 0x12 [] 512 256) (replied 0x12 1 []) = true ∧
      after .imgAbort (session 0x13 [] 512 256) (fun t => replied 0x13 0 [] t && t.nvm.session.isNone && t.getF NVM.WR_STAT 28 3 == 3) = true ∧
      after .imgAbort (asked 4 0x13 []) (replied 0x13 1 []) = true ∧
      after .imgData (session 0x11 (256 :: List.replicate 128 7) 512 256) (replied 0x11 2 []) = true := by decide +kernel

/-- The mailbox path as `f` of a running device's. -/
def mgmt (f : MgmtState → MgmtState) : State := { on 4 with mgmt := f (on 4).mgmt }

/-- An event of the mailbox drives IRQ_N low; events are sent to the host at address 5. -/
def irq (f : MgmtState → MgmtState) : State :=
  (((((mgmt f).wr MGMT.EVT 1).wr MGMT.EVT_EN 1).wr (SYS.IRQ_EN 1) (2 ^ 21)).wr MGMT.CTL 0x101).wr MGMT.HOST_ADDR_LO 5

theorem witness_MailboxAndEvents :
    (on 4).domOn 1 = true ∧ Served (on 4) MGMT.MBX_PUSH ∧ Served (on 4) MGMT.CTL ∧ (irq id).getF MGMT.CTL 8 8 = 1 ∧
      after (.mailboxReset 0xFF03) (mgmt (fun m => { m with h2d := [1] })) (fun t => t.mgmt.h2d == [1] && t.rd MGMT.CTL == 0xFF03) = true ∧
      after (.mailboxPush 7) (mgmt id) (fun t => t.mgmt.h2d == [7] && t.mgmt.h2dAt == [(mgmt id).time.dt]) = true ∧
      after (.mailboxPush 7) (mgmt (fun m => { m with h2d := List.replicate 1040 0 })) (fun t => t.rd MGMT.MBX_OVF_CNT == 1 && t.bit MGMT.STAT 2 && !t.mbxServes) = true ∧
      after (.mailboxReset 0x0004) ((mgmt (fun m => { m with h2d := [1], d2h := [2] })).setBit MGMT.STAT 2) (fun t => t.mgmt == (on 4).mgmt && t.rd MGMT.CTL == 0 && !t.bit MGMT.STAT 2) = true ∧
      after .mailboxPop (mgmt (fun m => { m with d2h := [9, 8] })) (fun t => t.mgmt.answer.words == [9] && t.mgmt.d2h == [8]) = true ∧
      after .mailboxPop (mgmt id) (fun t => t.mgmt.answer.words == [0] && t.rd MGMT.MBX_EMPTY_CNT == 1 && t.bit MGMT.MBX_LEVEL 31) = true ∧
      after .mailboxReplyWrite (mgmt (fun m => { m with d2h := List.replicate 254 0, reply := some [1, 2] })) (fun t => t.mgmt.d2h.length == 256 && t.bit MGMT.EVT 0) = true ∧
      after .mailboxReplyWrite (mgmt (fun m => { m with d2h := List.replicate 255 0, reply := some [1, 2] })) (fun t => t.mgmt.d2h.length == 255) = true ∧
      (mgmt id).getF MGMT.HOST_ADDR_HI 0 16 = 0 ∧ (mgmt id).rd MGMT.HOST_ADDR_LO = 0 ∧ (irq id).irqLow = true ∧ (irq id).bit MGMT.CTL 0 = true ∧
      after (.eventReport false) (mgmt (fun m => { m with events := [(2, [1])] })) (fun t => t.mgmt.events == [] && (t.prt 0).q7 == []) = true ∧
      after (.eventReport false) (irq (fun m => { m with events := [(2, [1])] })) (fun t => (t.prt 0).q7.map (·.take 6) == [beBytes 6 5]) = true ∧
      after (.eventReport true) (irq id) (fun t => t.mgmt.irqHold && (t.prt 0).q7.length == 1) = true ∧
      after (.eventReport true) (irq (fun m => { m with irqHold := true })) (fun t => t.mgmt.irqPend && (t.prt 0).q7 == []) = true ∧
      after .irqEventHoldoffEnd (irq (fun m => { m with irqHold := true })) (fun t => !t.mgmt.irqHold) = true ∧
      after .irqEventHoldoffEnd (irq (fun m => { m with irqHold := true, irqPend := true })) (fun t => t.mgmt.irqHold && !t.mgmt.irqPend) = true ∧
      after .mailboxReplyWrite { mgmt (fun m => { m with reply := some [1] }) with power := { (on 4).power with coresHalted := true } } (fun t => t.mgmt.d2h == []) = true ∧
      after .mailboxReplyWrite { mgmt (fun m => { m with reply := some [1], shutAfter := true }) with sched := (sched id).sched } (fun t => t.mgmt.d2h == [1] && t.mode == 7 && t.power.shutStep == 3 && !t.mgmt.shutAfter) = true := by
  unfold Served
  decide +kernel

/-! ### The SPI target and management requests -/

/-- LNK.EVT_EN of link 15. -/
def evtEn : Nat := LNK.EVT_EN 15

/-- Its value is 0x155; `p` are the posted writes. -/
def spi (p : List PostedWrite) : State := (mgmt (fun m => { m with posted := p })).wr evtEn 0x155

/-- The same, with the words 7 and 9 in control RAM at 0x1000. -/
def inRam (s : State) : State := { s with dma := { s.dma with ram := Memory.writeWord (Memory.writeWord [] 0x1000 7) 0x1004 9 } }

theorem witness_SpiTransactions :
    (LNK.EVT 15, evtEn) ∈ blockEvents ∧ (BitVec.ofNat 32 evtEn).toNat = evtEn ∧ (spi []).domOn 1 = true ∧ (spi []).domOn ((windowDomain evtEn).getD 1) = true ∧
      (spi []).windowTest evtEn = false ∧ (spi []).spiServes = true ∧ State.reset.spiServes = false ∧ ({ spi [] with power := { (spi []).power with spiReady := false } } : State).spiServes = false ∧
      after (.spiRead (BitVec.ofNat 32 evtEn) 1) (spi []) (fun t => t.mgmt.answer == { status := 0, words := [0x155] }) = true ∧
      after (.spiReadFixed (BitVec.ofNat 32 evtEn) 3) (spi []) (fun t => t.mgmt.answer == { status := 0, words := [0x155, 0x155, 0x155] }) = true ∧
      after (.spiWrite (BitVec.ofNat 32 evtEn) [(0, 3)] false) (spi []) (fun t => t.mgmt.posted == [{ addr := evtEn, value := 3 }] && t.rd evtEn == 0x155) = true ∧
      after (.spiExclWrite (BitVec.ofNat 32 evtEn) (some 3)) (spi []) (fun t => t.mgmt.posted == [{ addr := evtEn, value := 3, exclusive := true }]) = true ∧
      after (.spiWriteFixed (BitVec.ofNat 32 evtEn) [(0, 3), (1, 4)] true) (spi [])
        (fun t => t.mgmt.posted == [{ addr := evtEn, value := 4 }] && t.rd evtEn == 3 && t.bit MGMT.EVT 2) = true ∧
      after (.spiWrite (BitVec.ofNat 32 evtEn) [(0, 3)] false) (spi (List.replicate 4 { addr := 0, value := 0 })) (fun t => t.mgmt.posted.length == 4 && t.rd MGMT.SPI_ERR_CNT == 1) = true ∧
      after .postedWriteDone (spi [{ addr := evtEn, value := 0xFFFFFFFF }]) (fun t => t.mgmt.posted == [] && t.rd evtEn == 0x3FF) = true ∧
      after .spiStatus (spi [{ addr := 0, value := 0 }]) (fun t => t.mgmt.answer.words == [0x88] && t.mgmt.spi.miso == [0x88] && t.mgmt.spi.fill == 0x88) = true ∧
      after (.spiExclRead (BitVec.ofNat 32 evtEn)) (spi []) (fun t => t.mgmt.answer.words == [0x155] && Map.get none t.dma.sems (semOf evtEn) == some (.spi, evtEn)) = true ∧
      after .spiReservedCommand (spi []) (fun t => t.rd MGMT.SPI_ERR_CNT == 1) = true ∧
      after .spiReadTimeout (spi []) (fun t => t.mgmt.answer == { status := 4, words := [] }) = true ∧
      after (.spiRead 0 2) State.reset (fun t => t.mgmt.answer == { status := 0, words := [0, 0] }) = true ∧
      after (.spiWrite 0 [(0, 1)] false) State.reset (fun t => t.mgmt.posted == []) = true ∧
      spiCommand [0x02, 1, 2, 3, 4, 5, 6, 7, 8] 9 = some (.spiWrite 0x01020304 [(0, 0x05060708)] false) ∧
      spiCommand [0x0B, 1, 2, 3, 4] 9 = some (.spiReadFixed 0x01020304 9) ∧ spiCommand [0x05] 0 = some .spiStatus ∧ spiCommand [0x04] 0 = some .spiReservedCommand ∧
      spiCommand [0x12, 1, 2, 3, 4, 5, 6, 7, 8] 9 = some (.spiExclWrite 0x01020304 (some 0x05060708)) ∧
      after (.spiRead (BitVec.ofNat 32 evtEn) 1) (spi []) (fun t => t.mgmt.spi.reads && t.mgmt.spi.fill == 0) = true ∧
      after .spiReadTimeout (mgmt (fun m => { m with spi := { reads := true, words := [7], miso := [0, 0xA5, 0, 0, 0, 7] } }))
        (fun t => t.mgmt.answer == { status := 4, words := [7] } && t.mgmt.spi.fill == 0xFF &&
          t.mgmt.spi.miso == [0, 0xA5, 0, 0, 0, 7] ++ List.replicate 255 0 ++ [0x5A, 0, 0, 0, 4]) = true ∧
      after (.spiRead 0x1000 2) (inRam (spi [])) (fun t => t.mgmt.answer == { status := 0, words := [7, 9] }) = true ∧
      busMapped (0x30000000 / 4 * 4) = false ∧
      after (.spiRead 0x30000000 2) (spi []) (fun t => t.mgmt.answer == { status := 5, words := [] } && t.rd MGMT.SPI_ERR_CNT == 1 && t.mgmt.spi.fill == 0xFF) = true ∧
      after (.spiExclRead 0x30000000) (spi []) (fun t => t.mgmt.answer.status == 5 && t.mgmt.spiLast == 5) = true ∧
      after .postedWriteDone (spi []) (fun t => t == spi []) = true ∧
      after .postedWriteDone (spi [{ addr := 0x30000000, value := 3 }]) (fun t => t.mgmt.spiLast == 5 && t.mgmt.posted == []) = true ∧
      after .postedWriteDone (spi [{ addr := evtEn, value := 3, exclusive := true }]) (fun t => t.mgmt.spiLast == 6 && t.rd evtEn == 0x155 && t.rd BRG.EXFAIL_CNT == 1) = true ∧
      after .postedWriteDone { spi [{ addr := evtEn, value := 3, exclusive := true }] with dma := { (on 4).dma with sems := [(semOf evtEn, some (.spi, evtEn))] } }
        (fun t => t.mgmt.spiLast == 0 && t.rd evtEn == 3 && t.dma.sems == []) = true := by decide +kernel

/-- A management request of operation `op` and SEQ 9 from address 2, with `body`. -/
def request (op : Nat) (body : List Byte) : List Byte :=
  beBytes 6 (net {}).uplAddress ++ beBytes 6 2 ++ beBytes 2 0x88B5 ++ beBytes 1 1 ++ beBytes 1 op ++ beBytes 2 9 ++ beBytes 2 body.length ++ [0, 0] ++ body

/-- It is the oldest frame of a device whose management path is `f` of a running one's. -/
def framed (op : Nat) (body : List Byte) (f : MgmtState → MgmtState) : State :=
  ((mgmt (fun m => f { m with frames := [request op body] })).wr evtEn 0x155).wr MGMT.CTL 0x100

/-- ADDR of `evtEn`, COUNT 1, FLAGS 0. -/
def oneWord : List Byte := beBytes 4 evtEn ++ [0, 1, 0, 0]

theorem witness_ManagementRequests :
    (framed 1 oneWord id).mgmtHead.any (fun r => r.valid && r.op == 1 && r.addr == evtEn && r.count == 1 && !r.broadcast && r.seq == 9 && r.src == beBytes 6 2 &&
        (framed 1 oneWord id).storedFor r == none) = true ∧
      (framed 1 oneWord id).power.phase = .running ∧ (framed 1 oneWord id).bit MGMT.CTL 1 = false ∧ (framed 1 oneWord id).mgmt.cmds = [] ∧
      after .mfRead (framed 1 oneWord id) (fun t => t.mgmt.frames == [] && t.mgmt.stored.any (fun x => x.2.2.drop 22 == [0, 0, 1, 0x55])) = true ∧
      (readMgmt (request 2 (oneWord ++ [0, 0, 0, 3]))).words 8 = [3] ∧
      after .mfWrite (framed 2 (oneWord ++ [0, 0, 0, 3]) id) (fun t => t.rd evtEn == 3 && t.mgmt.stored.any (fun x => x.2.2.drop 22 == [0, 1])) = true ∧
      after .mfMbx (framed 3 [0, 0, 0, 0] id) (fun t => t.mgmt.cmds == [{ words := [0], src := beBytes 6 2, seq := 9 }] && t.mgmt.frames == []) = true ∧
      after .mfMbx (framed 3 [0, 0, 0, 0] (fun m => { m with cmds := List.replicate 4 { words := [0], src := [], seq := 0 } }))
        (fun t => t.mgmt.cmds.length == 4 && t.mgmt.frames == [] && (t.prt 0).q7.length == 1) = true ∧
      after .mfRead (framed 1 oneWord (fun m => { m with stored := some (beBytes 6 2, 9, [1]) })) (fun t => t.rd MGMT.MF_DUP_CNT == 1 && (t.prt 0).q7 == [[1]]) = true ∧
      after .mfWrite (framed 2 (oneWord ++ [0, 0, 0, 3]) (fun m => { m with stored := some (beBytes 6 2, 9, [1]) })) (fun t => t.rd MGMT.MF_DUP_CNT == 1 && t.rd evtEn == 0x155) = true ∧
      after .mfMbx (framed 3 [0, 0, 0, 0] (fun m => { m with stored := some (beBytes 6 2, 9, [1]) })) (fun t => t.rd MGMT.MF_DUP_CNT == 1 && t.mgmt.cmds == []) = true ∧
      (framed 6 [] id).mgmtHead.any (fun r => !r.valid && !r.broadcast && r.op == 6) = true ∧
      after .mfInvalidRequest (framed 6 [] id) (fun t => t.rd MGMT.MF_ERR_CNT == 1 && t.bit MGMT.EVT 3 && t.mgmt.frames == []) = true ∧
      after .mfInvalidRequest (framed 5 [] id) (fun t => t.rd MGMT.MF_ERR_CNT == 0 && t.mgmt.frames == []) = true ∧
      after .mfInvalidRequest { framed 6 [] id with mgmt := { (mgmt id).mgmt with frames := [(mgmt id).mgmtFrame 0xFFFFFFFFFFFF 6 9 0 0 []] } }
        (fun t => t.rd MGMT.MF_ERR_CNT == 1 && t.mgmt.frames == []) = true ∧
      after .mfInvalidRequest { framed 6 [] id with mgmt := { (mgmt id).mgmt with frames := [(mgmt id).mgmtFrame 0xFFFFFFFFFFFF 5 9 0 0 (chainMsg 3 0).bytes] } }
        (fun t => t.rd MGMT.MF_ERR_CNT == 0 && t.mgmt.frames == []) = true ∧
      after .mfRead (inRam (framed 1 [0, 0, 0x10, 0, 0, 2, 0, 0] id)) (fun t => t.mgmt.stored.any (fun x => x.2.2.drop 22 == [0, 0, 0, 7, 0, 0, 0, 9])) = true ∧
      after .mfWrite (framed 2 [0, 0, 0x10, 0, 0, 2, 0, 0, 0, 0, 0, 3, 0, 0, 0, 4] id)
        (fun t => Memory.readWord t.dma.ram 0x1000 == 3 && Memory.readWord t.dma.ram 0x1004 == 4 && t.mgmt.stored.any (fun x => x.2.2.drop 22 == [0, 2])) = true ∧
      after .mfRead (framed 1 [0x30, 0, 0, 0, 0, 1, 0, 0] id) (fun t => t.mgmt.stored.any (fun x => x.2.2.drop 22 == [])) = true ∧
      after .mfMbx ((framed 3 [0, 0, 0, 0] id).setBit MGMT.CTL 1) (fun t => t.rd MGMT.HOST_ADDR_LO == 2 && t.mgmt.cmds.length == 1) = true := by decide +kernel

/-! ### The service DMA and the bridge -/

/-- Channel 31 as `x`; control RAM holds the words `ws` from 0x1000. -/
def dma (x : Channel) (ws : List Nat) : State :=
  { on 4 with dma := { (on 4).dma with chans := [(31, x)], ram := (ws.zip (upto ws.length)).foldl (fun m p => Memory.writeWord m (0x1000 + 4 * p.2) p.1) [] } }

/-- A fill of 8 bytes of 0xAB at 0x3FFF8, in 32-bit elements, LAST. -/
def fillWords : List Nat := [2 ^ 30 + 2 ^ 29 + 2 ^ 15, 0xAB, 0x3FFF8, 8, 0]

/-- A copy of the 8 bytes at 0x1000 to 0x2000, in 32-bit elements, that goes on at 0x20. -/
def copyWords : List Nat := [2 ^ 29, 0x1000, 0x2000, 8, 0x20]

/-- The fill and the copy, granted, with none of their accesses made. -/
def filling : Channel :=
  { phase := .burst, words := fillWords, todo := [{ step := .write, addr := 0x3FFF8, len := 4 }, { step := .write, addr := 0x3FFFC, len := 4 }],
    buf := [0xAB, 0, 0, 0, 0xAB, 0, 0, 0] }
def copying : Channel :=
  { phase := .burst, words := copyWords, todo := [{ step := .read, addr := 0x1000, len := 4 }, { step := .write, addr := 0x2000, len := 4 },
      { step := .read, addr := 0x1004, len := 4 }, { step := .write, addr := 0x2004, len := 4 }] }

theorem witness_DmaChannels :
    (dma {} []).domOn 1 = true ∧ (dma {} []).bit (DMA.CH_CTL 31) 8 = false ∧ ((dma {} []).setBit (DMA.CH_CTL 31) 8).bit (DMA.CH_CTL 31) 8 = true ∧
      after (.dmaGo 31 .spi 1) ((dma {} []).wr (DMA.CH_DESC 31) 0x1000) (fun t => t.chan 31 == { phase := .fetch, cur := 0x1000 }) = true ∧
      after (.dmaGo 31 .spi 1) (dma { phase := .wait } []) (fun t => t.rd DMA.REFUSED_CNT == 1 && t.bit DMA.EVT 0) = true ∧
      after (.dmaAbort 31 .spi 2) (dma { phase := .wait, words := fillWords } []) (fun t => (t.chan 31).phase == .drain && (t.chan 31).code == 5) = true ∧
      after (.dmaAbort 31 .spi 2) (dma { phase := .burst, words := fillWords } []) (fun t => (t.chan 31).phase == .burst && (t.chan 31).abort) = true ∧
      after (.dmaAbort 31 .spi 2) (dma {} []) (fun t => t.chan 31 == {}) = true ∧
      after (.dmaGo 31 .frame 1) ((dma {} []).setBit (DMA.CH_CTL 31) 8) (fun t => t.rd DMA.REFUSED_CNT == 1 && t.chan 31 == {}) = true ∧
      ({ words := fillWords } : Channel).programError = none ∧ ({ words := [2 ^ 29, 1, 0, 8, 0] } : Channel).programError = some 2 ∧
      ({ words := [2 ^ 29, 0, 0, 0, 0] } : Channel).programError = some 3 ∧
      after (.descriptorFetchDone 31) (dma { phase := .fetch, cur := 0x1000 } fillWords) (fun t => t.chan 31 == { phase := .wait, cur := 0x1000, words := fillWords }) = true ∧
      after (.descriptorFetchDone 31) (dma { phase := .fetch, cur := 0x1000 } [2 ^ 29, 1, 0, 8, 0])
        (fun t => (t.chan 31).phase == .drain && (t.chan 31).code == 2 && t.rd DMA.PROG_ERR_CNT == 1) = true ∧
      (dma { phase := .wait, words := fillWords } []).arbiter = some 31 ∧ (dma { phase := .wait, words := copyWords } []).arbiter = some 31 ∧
      ({ words := fillWords } : Channel).esize = 4 ∧ ({ words := fillWords } : Channel).mode = 1 ∧ ({ words := fillWords } : Channel).dst = 0x3FFF8 ∧
      ({ words := copyWords } : Channel).mode = 0 ∧ ({ words := copyWords } : Channel).esize = 4 ∧
      after (.dmaGo 31 .spi 3) (dma {} []) (fun t => t.rd DMA.REFUSED_CNT == 1 && t.chan 31 == {}) = true ∧
      after (.dmaBurstGrant {}) (dma { phase := .wait, words := fillWords } [])
        (fun t => t.chan 31 == filling && t.dma.order == [31] && t.dma.ram == []) = true ∧
      after (.dmaBurstGrant {}) (dma { phase := .wait, words := copyWords } [7, 9]) (fun t => t.chan 31 == copying) = true ∧
      after (.dmaBurstDone 31) ((dma filling []).setBit (DMA.CH_CTL 31) 5)
        (fun t => Memory.readWord t.dma.ram 0x3FFF8 == 0xAB && Memory.readWord t.dma.ram 0x3FFFC == 0xAB && (t.chan 31).done == 8 &&
          (t.chan 31).phase == .drain && (t.chan 31).code == 1 && t.bit (DMA.CH_EVT 31) 0) = true ∧
      after (.dmaBurstDone 31) (dma copying [7, 9]) (fun t => Memory.readWord t.dma.ram 0x2000 == 7 && Memory.readWord t.dma.ram 0x2004 == 9 && (t.chan 31).phase == .drain) = true ∧
      after (.dmaBurstDone 31) (dma { phase := .burst, words := [0, 0, 0, 0x1000, 0], done := 64 } []) (fun t => (t.chan 31).phase == .wait) = true ∧
      after (.dmaDomainOffTimeout 31 4) (dma { filling with abort := true, code := 6 } [])
        (fun t => (t.chan 31).done == 4 && (t.chan 31).phase == .drain && t.rd DMA.DOMAIN_OFF_CNT == 1 && Memory.readWord t.dma.ram 0x3FFF8 == 0xAB &&
          Memory.readWord t.dma.ram 0x3FFFC == 0) = true ∧
      after (.descriptorComplete 31) (((dma { phase := .drain, words := copyWords, done := 8, code := 1, cur := 0x1000 } []).wr (DMA.CH_CTL 31) 0xC0).wr (PRES.FRZ_CFG 7) 0x8000001F)
        (fun t => t.chan 31 == { phase := .fetch, cur := 0x20 } && Memory.readWord t.dma.ram 0x1014 == 2 ^ 28 && t.bit (DMA.CH_EVT 31) 1 && t.pres.compared == [7]) = true ∧
      after (.descriptorComplete 31) (dma { phase := .drain, words := fillWords, done := 4, code := 5, cur := 0x1000 } [])
        (fun t => t.chan 31 == { cur := 0x1000 } && t.rd DMA.ABORT_CNT == 1 && t.rd (DMA.CH_RESIDUE 31) == 4) = true ∧
      after (.dmaSwRequest .core 0x18000) (dma {} []) (fun t => t.dmaReq == 0x8000) = true := by decide +kernel

/-- Semaphore of `evtEn` held by `h`. -/
def held (h : Option (Master × Nat)) : State := { spi [] with dma := { (on 4).dma with sems := Map.set none [] (semOf evtEn) h } }

theorem witness_BridgeAndSemaphores :
    (held none).domOn 1 = true ∧ Map.get none (held none).dma.sems (semOf evtEn) = none ∧ semOf evtEn < 16 ∧
      after (.exclusiveRead true (BitVec.ofNat 32 evtEn)) (held none) (fun t => Map.get none t.dma.sems (semOf evtEn) == some (.core, evtEn)) = true ∧
      after (.exclusiveWrite false (BitVec.ofNat 32 evtEn) 3) (held (some (.spi, evtEn))) (fun t => t.rd evtEn == 3 && Map.get none t.dma.sems (semOf evtEn) == none) = true ∧
      after (.exclusiveWrite true (BitVec.ofNat 32 evtEn) 3) (held (some (.spi, evtEn))) (fun t => t.rd evtEn == 0x155 && t.mgmt.answer.status == 6 && t.rd BRG.EXFAIL_CNT == 1) = true ∧
      after (.semaphoreTimeout 15) { on 4 with dma := { (on 4).dma with sems := [(15, some (.core, 4))] } } (fun t => t.dma.sems == [] && t.rd BRG.SEM_TO_CNT == 1) = true ∧
      after (.semaphoreTimeout 15) (on 4) (fun t => t == on 4) = true ∧
      after (.semaphoreRelease .core 0x8000) { on 4 with dma := { (on 4).dma with sems := [(15, some (.spi, 4))] } } (fun t => Map.get none t.dma.sems 15 == none) = true ∧
      after (.bridgeRetryTimeout { master := .spi, addr := 0x22FFFFFF, write := none }) (on 4) (fun t => t.dma.retries.length == 1 && t.rd BRG.RETRY_CNT == 1) = true ∧
      (on 4).domOn 2 = true ∧ (on 6).mode = 6 ∧
      after .bridgeAccessRepeat { on 4 with dma := { (on 4).dma with retries := [{ master := .spi, addr := 0x20000000, write := none }] } } (fun t => t.dma.retries == [] && t.mgmt.answer.words == [0])
        = true ∧
      after .bridgeAccessRepeat { on 6 with dma := { (on 6).dma with retries := [{ master := .spi, addr := 0x22FFFFFF, write := some 0x01020304 }] } }
        (fun t => t.dma.retries == [] && Memory.readByte t.cfs.mem 0x2FFFFFF == 1) = true ∧
      (on 4).cfs.upsets = [] := by decide +kernel


/-! ### Self-test and ageing -/

/-- A device in mode `m` with units under test `ts`, one waiting for zeroisation, keys in the key store, and what the image expects. -/
def bench (m : Nat) (ts : List UnitTest) (w : Option UnitTest) : State :=
  let s := (on m).modCl 2 (fun c => { c with svc := 1 })
  { s with
    bist := { s.bist with testing := ts, waiting := w },
    nvm := { s.nvm with decryptKey := some [1], config := { s.nvm.config with cluTest := some { count := 32768, sig := 0x123456789 }, feTest := some { count := 8192, sig := 7 } } } }

/-- Unit 2, with a logic test, a memory test. -/
def test2 (logic mem : Bool) : UnitTest := { unit := 2, logic := logic, mem := mem }

/-- Key-off step 4 with `s.power.shutStep`, and the order of the units still to test. -/
def keyoff4 (s : State) (order : List Nat) : State := { s with power := { s.power with shutStep := 4 }, bist := { s.bist with order := order } }

/-- Results of the logic tests of a cluster: as expected, another signature, too few patterns. -/
def good2 : LogicResult := { count := 32768, sig := 0x123456789 }
def bad2 : LogicResult := { count := 32768, sig := 1 }
def few2 : LogicResult := { count := 32767, sig := 0x123456789 }

/-- A macro of cluster 2 with 64 words, two faulty rows and a faulty column group, repaired. -/
def faulty : MacroTest := { id := .cluster 2 0, words := 64, count := 1280, rows := [1, 5], cols := [0] }

/-- Phase `p` of the key-on test, the boot ROM running. -/
def early (p : Nat) : State := { (on 2).wr BIST.STAT (8 + p) with power := { (on 2).power with firmware := false } }

theorem witness_SelfTests_run :
    wbit 0x1C2#32 8 = true ∧ wbit 0x1C2#32 9 = false ∧ (bench 6 [] none).mode = 6 ∧ (bench 6 [] none).bist.testing = [] ∧ (bench 6 [] none).bit BIST.STAT 3 = false ∧
      (0x1C2#32).toNat % 32 = 2 ∧ wbit 0x1C2#32 7 = true ∧ (bench 6 [] none).unitOut 2 = true ∧ (bench 6 [] none).unitOut 3 = false ∧
      after (.bistRun 0x1C2) (bench 6 [] none) (fun t => (t.cl 2).svc == 4 && t.bist.testing == [test2 true true] && t.getF BIST.STAT 0 4 == 12) = true ∧
      after (.bistRun 0x1C3) (bench 6 [] none) (fun t => t.bist.testing == [] && t.rd BIST.REFUSED_CNT == 1) = true ∧
      after (.bistRun 0x1DA) (bench 6 [] none) (fun t => t.bist.testing == [] && t.rd BIST.REFUSED_CNT == 1) = true ∧
      after (.bistRun 0x1C2) (bench 4 [] none) (fun t => t.bist.testing == [] && t.rd BIST.REFUSED_CNT == 1) = true := by decide +kernel

theorem witness_SelfTests_end :
    Served (bench 6 [] none) BIST.RUN ∧ (bench 6 [] none).power.phase = .running ∧
      after (.zeroiseDone { port := true, ok := true }) (bench 6 [] none) (fun t => t.scanActive && t.bist.keyBlocked && t.nvm.decryptKey == none && t.bit BIST.STAT 5) = true ∧
      after (.zeroiseDone { port := true, ok := false }) (bench 6 [] none) (fun t => t.bist.zeroFailed && !t.scanActive && t.nvm.decryptKey == none) = true ∧
      after (.zeroiseDone { port := true, ok := false }) ({ bench 6 [] none with bist := { (bench 6 [] none).bist with zeroFailed := true } } : State)
        (fun t => t.bit BIST.STAT 6 && t.rd BIST.ZERO_FAIL_CNT == 1 && !t.bist.zeroFailed) = true ∧
      after (.zeroiseDone { port := true, ok := true }) ((bench 6 [] none).setBit BIST.STAT 6) (fun t => t == (bench 6 [] none).setBit BIST.STAT 6) = true ∧
      wbit 0x200#32 8 = false ∧ wbit 0x200#32 9 = true ∧ (test2 true false).unit < 26 ∧ (bench 6 [test2 true false] none).power.shutStep = 0 ∧
      after (.bistAbort 0x200) (bench 6 [test2 false true] none) (fun t => t.bist.testing == [] && t.getF (BIST.UNIT_RES 2) 4 3 == 3 && t.bit (BIST.UNIT_RES 2) 9) = true ∧
      after (.bistAbort 0x200) (bench 6 [] none) (fun t => t.rd BIST.INCOMPLETE_CNT == 0) = true ∧
      (bench 6 [test2 true true] (some (test2 true true))).bist.waiting = some (test2 true true) ∧ (bench 6 [] none).bit BIST.STAT 6 = false ∧
      (bench 6 [] none).bist.zeroFailed = false ∧
      after (.zeroiseDone { ok := true }) (bench 6 [test2 true true] (some (test2 true true)))
        (fun t => t.nvm.decryptKey == none && t.bit BIST.STAT 5 && t.bist.testing == [{ test2 true true with at_ := some 0 }]) = true ∧
      after (.zeroiseDone { ok := false }) (bench 6 [test2 true true] (some (test2 true true))) (fun t => t.bist.zeroFailed && t.bist.waiting.isSome) = true ∧
      after (.zeroiseDone { ok := false })
        ({ bench 6 [test2 true true] (some (test2 true true)) with bist := { (bench 6 [test2 true true] (some (test2 true true))).bist with zeroFailed := true } } : State)
        (fun t => t.bit BIST.STAT 6 && t.rd BIST.ZERO_FAIL_CNT == 1 && t.bist.waiting == none && t.bist.testing == [] && t.getF (BIST.UNIT_RES 2) 0 3 == 0 && t.getF BIST.STAT 0 4 == 0) = true ∧
      (bench 6 [] none).testExpect 2 = some { count := 32768, sig := 0x123456789 } ∧
      after (.unitTestDone good2 { macros := [] }) (bench 6 [test2 true false] none)
        (fun t => t.rd (BIST.UNIT_RES 2) == 1 && t.rd (BIST.UNIT_COUNT 2) == 32768 && t.rd (BIST.UNIT_SIG_LO 2) == 0x23456789 && t.rd (BIST.UNIT_SIG_HI 2) == 1 && t.rd BIST.FAIL_CNT == 0) = true ∧
      after (.unitTestDone bad2 { macros := [] }) (bench 6 [test2 true false] none) (fun t => t.rd (BIST.UNIT_RES 2) == 2 && t.rd BIST.FAIL_CNT == 1) = true ∧
      after (.unitTestDone few2 { macros := [] }) (bench 6 [test2 true false] none) (fun t => t.rd (BIST.UNIT_RES 2) == 3) = true ∧
      after (.unitTestDone good2 { macros := [faulty] }) (bench 6 [test2 false true] none)
        (fun t => t.rd (BIST.UNIT_RES 2) == 0x40 && t.rd BIST.REPAIR_CNT == 3 && t.bist.testing == [] && t.bist.repair == [(faulty.id, [1, 5], [0])]) = true ∧
      after (.unitTestDone good2 { macros := [faulty] }) (bench 6 [test2 true true] none)
        (fun t => t.bist.waiting == some { test2 true false with memV := some 4 } && t.bist.testing == [{ test2 true false with memV := some 4 }] && t.rd (BIST.UNIT_RES 2) == 0) = true ∧
      after (.unitTestDone good2 { macros := [{ faulty with rows := [1, 2, 3, 4, 5] }] }) (bench 6 [test2 false true] none)
        (fun t => t.rd (BIST.UNIT_RES 2) == 0x20 && t.rd BIST.FAIL_CNT == 1 && t.rd BIST.REPAIR_CNT == 5) = true ∧
      after (.unitTestDone good2 { macros := [{ faulty with count := 1279 }] }) (bench 6 [test2 false true] none) (fun t => t.rd (BIST.UNIT_RES 2) == 0x30 && t.rd BIST.REPAIR_CNT == 0) = true ∧
      after (.unitTestDone good2 { macros := [] }) (bench 6 [{ test2 true false with memV := some 4 }] none) (fun t => t.rd (BIST.UNIT_RES 2) == 0x41) = true ∧
      (bench 6 [test2 true true] none).getF BIST.STAT 0 3 = 0 ∧ ((bench 6 [test2 true true] none).wr BIST.STAT 12).getF BIST.STAT 0 3 = 4 ∧
      after (.bistAbort 0x200) ((bench 6 [test2 false true] none).wr BIST.STAT 12)
        (fun t => t.bist.testing == [] && t.rd (BIST.UNIT_RES 2) == 0x230 && t.getF BIST.STAT 0 4 == 0 && t.rd BIST.INCOMPLETE_CNT == 1) = true ∧
      after (.bistAbort 0x200) (early 1) (fun t => t.getF BIST.STAT 0 3 == 2 && t.bist.anaDone && t.rd BIST.INCOMPLETE_CNT == 1) = true ∧
      after (.bistAbort 0x200) (early 2) (fun t => t.getF BIST.STAT 0 4 == 0 && t.bist.memDone && t.bit BIST.EVT 4) = true := by
  unfold Served
  decide +kernel

theorem witness_SelfTests_keyoff :
    (keyoff4 (bench 7 [] none) []).power.shutStep = 4 ∧ (keyoff4 (bench 7 [] none) []).bist.testing = [] ∧ (keyoff4 (bench 7 [] none) []).bit BIST.STAT 6 = false ∧
      after (.zeroiseDone { ok := true }) (keyoff4 (bench 7 [] none) []) (fun t => t.bist.testing.map (·.unit) == [0, 1] && t.bist.order.length == 24) = true ∧
      (bench 7 [] none).testExpect 2 = some { count := 32768, sig := 0x123456789 } ∧ (bench 7 [] none).testExpect 9 = some { count := 8192, sig := 7 } ∧
      after (.logicTestPairDone [good2, { count := 8192, sig := 8 }]) (keyoff4 (bench 7 [test2 true false, { unit := 9, logic := true, mem := false }] none) [3, 4])
        (fun t => t.rd (BIST.UNIT_RES 2) == 1 && t.rd (BIST.UNIT_RES 9) == 2 && t.bist.testing.map (·.unit) == [3, 4] && t.bist.order == []) = true ∧
      after (.logicTestPairDone [good2, { count := 8192, sig := 7 }]) (keyoff4 (bench 7 [test2 true false, { unit := 9, logic := true, mem := false }] none) [])
        (fun t => t.rd (BIST.UNIT_RES 9) == 1 && t.power.shutStep == 5) = true ∧
      (on 4).power.firmware = true ∧ after .keyWaitTimeout (on 4) (fun t => t.nvm.keyWaitOver) = true := by decide +kernel

/-- A device in operation with periods of 1 ms, in which only CTRL, NET, STORE and the sensor front ends are up, and its calendar. -/
def aging (f : AlmState → AlmState) : State :=
  let s := on 4
  { s with power := { s.power with doms := [.up, .up, .up, .up, .up, .off, .off, .up] },
           sched := { s.sched with cur := { s.sched.cur with periodNs := 1000000 } }, alm := f s.alm }

/-- Every monitor that takes part measures `d` ps at 125 degrees. -/
def reading (d : Nat) : AlmReading := { delays := List.replicate 48 d, rings := List.replicate 8 100, canaries := List.replicate 8 500, temps := List.replicate 8 500 }

/-- Steps are enabled, with the least slack 30 ps, the floor and ceiling 700 and 800 mV. -/
def policy (s : State) : State := ((((s.wr ALM.CTL 3).wr ALM.SLACK_MIN 30).wr ALM.SLACK_CFG 0).wr ALM.AVS_CFG (700 + 1024 * 800 + 3 * 2 ^ 28)).wr ALM.AVS_STAT 750

/-- An acknowledged raise, a command that waits for its answer. -/
def up1 : AvsStep := { up := true, phase := .settle, mv := 755 }
def ack0 : AvsStep := { up := false, mv := 745 }

/-- A boot that is over, with a raise in progress. -/
def booted : State :=
  let s := aging (fun a => { a with step := some up1 })
  { s with power := { s.power with step6 := true, step7 := true, asked := true } }

theorem witness_AgeingAndCalendar_samples :
    (policy (aging id)).fwActs = true ∧ (policy (aging id)).sched.cur.period ≠ 0 ∧ (policy (aging id)).sched.overlap = false ∧ (policy (aging id)).getF ALM.SLACK_CFG 8 8 = 0 ∧
      (policy (aging id)).setMv + 5 ≤ (policy (aging id)).ceilMv ∧ (policy (aging id)).stepFree = true ∧ (policy (aging id)).stepHeld = false ∧ almReadingOk (reading 980) = true ∧
      after (.almSample (reading 980)) (policy (aging id)) (fun t => t.alm.worst == 800 && t.alm.step == some { up := true, rail := 3, mv := 755 } && t.rd (ALM.MON 0) == 65536 * 980 + 20) = true ∧
      after (.almSample (reading 980)) ((policy (aging id)).wr ALM.CTL 1) (fun t => t.alm.due == some true && t.alm.step == none) = true ∧
      after (.almSample (reading 960)) (policy (aging id)) (fun t => t.alm.worst == 1600 && t.alm.step == none) = true ∧
      after (.almSample (reading 960)) ({ aging id with sched := { (aging id).sched with overlap := true } } : State)
        (fun t => t.alm.sampleDue == some (reading 960) && t.rd (ALM.MON 0) == 0) = true ∧
      (aging (fun a => { a with climb := 1 })).alm.climb ≠ 0 ∧ (aging (fun a => { a with climb := 1 })).alm.step = none ∧
      after (.avsRemeasure (reading 980)) (policy (aging (fun a => { a with climb := 1 }))) (fun t => t.alm.step == some { up := true, rail := 3, mv := 755 } && t.alm.climb == 2) = true ∧
      after (.avsRemeasure (reading 960)) (policy (aging (fun a => { a with climb := 1 }))) (fun t => t.alm.step == none && t.alm.climb == 0) = true := by decide +kernel

theorem witness_AgeingAndCalendar_steps :
    (aging (fun a => { a with step := some ack0 })).alm.step = some ack0 ∧ ack0.phase = .ack ∧ ack0.failed = 0 ∧ up1.phase = .settle ∧
      after .avsAck (aging (fun a => { a with step := some ack0 })) (fun t => t.alm.step == some { ack0 with phase := .settle }) = true ∧
      after .avsSettleDone (booted.wr ALM.AVS_STAT 750) (fun t => t.rd ALM.AVS_STAT == 755 && t.rd PWR.AVS_SHADOW == 755 && t.getF PWR.SUP_SET 0 10 == 755 && t.rd ALM.AVS_UP_CNT == 1 && t.alm.step.isNone) = true ∧
      after .avsSettleDone ((aging (fun a => { a with step := some { ack0 with phase := .settle } })).wr ALM.AVS_STAT 750) (fun t => t.rd ALM.AVS_STAT == 745 && t.rd ALM.AVS_DOWN_CNT == 1) = true ∧
      after .avsAckTimeout (aging (fun a => { a with step := some ack0 })) (fun t => t.alm.step == some { ack0 with failed := 1 } && t.rd ALM.AVS_ERR_CNT == 1) = true ∧
      after .avsAckTimeout (booted.modAlm (fun a => { a with step := some { ack0 with failed := 1 } })) (fun t => t.alm.step == none && t.bit ALM.STAT 2 && !t.stepFree) = true ∧
      wbit 3#32 0 = true ∧ wbit 2#32 0 = false ∧
      after (.rtcSet 3) ((((on 4).wr PWR.RTC_SET_HI 1).wr PWR.RTC_SET_LO 5).wr PWR.RTC_ALARM_HI 1)
        (fun t => t.rtcSec == 0 && ({ t with now := 31000 } : State).rtcSec == 2 ^ 32 + 5 && !t.bit PWR.RTC_CTL 1 && t.getF PWR.RTC_STAT 4 2 == 1) = true ∧
      31000 * 32768 / 1000000000 = (on 4).aonCycle + 1 ∧
      after (.rtcSet 3) (((on 4).wr PWR.RTC_SET_LO 5).wr PWR.RTC_ALARM_HI 1) (fun t => ({ t with now := 31000 } : State).rtcSec == 5 && t.bit PWR.RTC_CTL 1) = true ∧
      after (.rtcSet 3) (((on 7).wr PWR.RTC_SET_LO 5).wr PWR.WAKE_CFG 4) (fun t => t.power.latched == some 3 && t.rd PWR.SHUT_ABORT_CNT == 1 && !t.bit PWR.RTC_CTL 1) = true ∧
      (on 7).wokeNow = false ∧ (on 7).power.latched = none ∧
      (aging (fun a => { a with step := some up1 })).coresRun = true ∧ booted.power.step6 = true ∧ booted.power.step7 = true ∧ booted.power.asked = true ∧
      booted.bist.keyonDue = false ∧ booted.alm.target = none ∧ booted.alm.restoring = false ∧
      after (.rtcSet 2) (on 4) (fun t => t.rtcSec == 0 && t.bit PWR.RTC_CTL 1) = true := by decide +kernel

theorem witness_AgeingAndCalendar_records :
    (on 4).fwActs = true ∧ (on 4).mode ≠ 7 ∧ Served (on 6) ALM.REBASE ∧ Served (on 4) ALM.REBASE ∧ Served (on 4) PWR.RTC_CTL ∧
      after .hourlyRecordDue ((on 4).wr (LNK.CV_CNT 3) 8) (fun t => t.nvm.ops.any (fun j => decide (j.op = .journal .hourly)) && Map.get 0 t.alm.linkRead 24 == 8) = true ∧
      (on 6).mode = 6 ∧ after (.rebaseWrite 0x10005) (on 6) (fun t => t.rd ALM.REBASE == 5) = true ∧ after (.rebaseWrite 5) (on 4) (fun t => t.rd ALM.REBASE == 0) = true ∧
      ((on 4).modLnk 3 (fun l => { l with sounding := .running })).lnk 3 = { (on 4).lnk 3 with sounding := .running } ∧ (List.replicate 768 (1 : Byte)).length = 768 ∧
      Map.get none ((on 4).modLnk 3 (fun l => { l with sounding := .running })).alm.base 3 = none ∧
      after (.soundingDone 3 (List.replicate 768 1)) ((on 4).modLnk 3 (fun l => { l with sounding := .running }))
        (fun t => t.rd ALM.SOUND_CNT == 1 && t.bit (LNK.EVT 3) 6 && t.rd (LNK.SOUND_BUF 3 191) == 0x01010101 && (Map.get none t.alm.base 3).isSome) = true := by
  unfold Served
  decide +kernel

/-! ### Wake, resets, boot and shutdown -/

/-- The flash answers; it does not. -/
def answers : FlashInit := { id := 0x20BA20, mhz := 133 }
def mute : FlashInit := { id := 0, mhz := 0, fail := true }

/-- STANDBY with wake sources `v`; the same while the rails come up; with RESET_N low; with the supply monitors armed. -/
def asleep (v : Nat) : State := State.reset.wr PWR.WAKE_CFG v
def phased (p : DevicePhase) (s : State) : State := { s with power := { s.power with phase := p } }
def pinned (p : DevicePhase) (s : State) : State := { s with power := { s.power with phase := p, resetN := false } }
def armed (f : PowerState → PowerState) : State := { on 4 with now := 2500000, power := f { (on 4).power with monitor := true } }

/-- The rails come up, or SHUTDOWN_RECORD runs, with a wake from source 2 recorded or latched in this AON cycle. -/
def wokenTwice (l : Option Nat) : State := ((phased .rails { on 7 with power := { (on 7).power with latched := l, wokeAt := some 0 } }).wr PWR.WAKE_CFG 7).wr PWR.WAKE_SRC 2

/-- The fall of PGOOD in this AON cycle has cut off the supply monitors that trip in it too. -/
def tripped : State := (phased .hold { on 4 with power := { (on 4).power with tripAt := some 0, causeAt := some 0 } }).wr PWR.RST_CAUSE 5

/-- The flash serves `op`; byte 7 is programmed. -/
def serving (op : FlashOp) : State := { on 4 with nvm := { (on 4).nvm with flash := [(7, 0xF0)], ops := [{ id := 3, op := op, started := true }], nextOp := 4 } }

theorem witness_WakesAndResets_wakes :
    (asleep 7).power.phase = .standby ∧ (asleep 7).bit PWR.WAKE_CFG 0 = true ∧ (asleep 7).bit PWR.WAKE_CFG 1 = true ∧ (asleep 7).bit PWR.WAKE_CFG 2 = true ∧
      after .wakePinDeclare (asleep 7) (fun t => t.power.phase == .rails && t.rd PWR.WAKE_SRC == 1 && t.rd PWR.WAKE_CNT == 1) = true ∧
      after .spiWake (asleep 7) (fun t => t.rd PWR.WAKE_SRC == 2 && t.getF PWR.SUP_SET 0 10 == 750) = true ∧
      ((asleep 7).wr PWR.RTC_CTL 2).bit PWR.RTC_CTL 1 = true ∧ after .rtcAlarm ((asleep 7).wr PWR.RTC_CTL 2) (fun t => t.rd PWR.WAKE_SRC == 3 && !t.bit PWR.RTC_CTL 1) = true ∧
      (asleep 0).bit PWR.WAKE_CFG 0 = false ∧ (asleep 0).bit PWR.WAKE_CFG 1 = false ∧ (asleep 0).bit PWR.RTC_CTL 1 = false ∧
      after .wakePinDeclare (asleep 0) (fun t => t.power.phase == .standby) = true ∧
      ((on 7).wr PWR.WAKE_CFG 2).mode = 7 ∧ (on 7).power.latched = none ∧ (on 7).power.shutStep ≠ 4 ∧
      after .spiWake ((on 7).wr PWR.WAKE_CFG 2) (fun t => t.power.latched == some 2 && t.rd PWR.SHUT_ABORT_CNT == 1) = true ∧
      (phased .rails State.reset).power.phase = .rails ∧
      after (.pgoodRise answers) (phased .rails State.reset) (fun t => t.power.phase == .running && t.rd NVM.FLASH_ID == 0x20BA20 && t.nvm.bank == none && t.dom 2 == .rising && t.dom 7 == .off && t.rd PWR.DOM_REQ == 4 && t.bist.keyonDue) = true ∧
      after (.pgoodRise mute) (phased .rails State.reset) (fun t => t.bit NVM.STAT 7 && t.rd NVM.FLASH_ERR_CNT == 1) = true ∧
      after .railTimeout (phased .rails State.reset) (fun t => t.power.phase == .standby && t.rd PWR.RAIL_FAIL_CNT == 1) = true ∧
      (on 4).power.pgood = true ∧ (on 4).power.pwrReq = true ∧
      after .pgoodFall (on 4) (fun t => t.power.phase == .hold && t.rd PWR.RST_CAUSE == 5 && t.rd PWR.MODE == 0x142 && !t.power.firmware) = true ∧
      after .railRetry (phased .hold State.reset) (fun t => t.power.phase == .rails) = true ∧
      after .spiTargetReady (on 4) (fun t => t.power.spiReady) = true ∧
      after (.pgoodRise mute) (pinned .rails State.reset) (fun t => t.power.phase == .pin && t.power.pgood && t.regs == State.reset.regs) = true ∧
      after (.pgoodRise mute) (phased .hold State.reset) (fun t => t.power == { (phased .hold State.reset).power with pgood := true }) = true ∧
      State.reset.power.pgood = false ∧ after .pgoodFall State.reset (fun t => t.power == State.reset.power) = true ∧
      (on 7).wokeNow = false ∧ (wokenTwice none).wokeNow = true ∧
      after .wakePinDeclare (wokenTwice none) (fun t => t.rd PWR.WAKE_SRC == 1 && t.power == (wokenTwice none).power) = true ∧
      after .wakePinDeclare (wokenTwice (some 3)) (fun t => t.power.latched == some 1) = true ∧
      (serving (.erase 0 4096)).flashRun = some { id := 3, op := .erase 0 4096, started := true } ∧ State.reset.flashRun = none := by decide +kernel

theorem witness_WakesAndResets_resets :
    (on 4).power.phase ≠ .off ∧ (on 4).power.phase ≠ .pin ∧
      after .resetPin (on 4) (fun t => t.power.phase == .pin && t.rd PWR.RST_CAUSE == 2 && t.rd PWR.PIN_RST_CNT == 1 && t.rd PWR.MODE == 0x142) = true ∧
      after .resetPin State.reset (fun t => t.rd PWR.MODE == 0x112) = true ∧
      (pinned .pin (on 2)).power.pwrReq = true ∧ (pinned .pin (on 2)).power.pgood = true ∧ (pinned .pin State.reset).power.pwrReq = false ∧
      after (.resetRelease 1 mute) (pinned .pin (on 2)) (fun t => t.power.phase == .running && t.position == 1) = true ∧
      after (.resetRelease 2 mute) (pinned .pin State.reset) (fun t => t.power.phase == .rails && t.position == 2) = true ∧
      (armed id).power.monitor = true ∧ (armed id).power.warnAt = none ∧
      after .supplyResetTrip (armed id) (fun t => t.power.phase == .hold && t.rd PWR.RST_CAUSE == 4) = true ∧
      after .supplyWarningAssert (armed id) (fun t => t.warning && t.bit PWR.EVT 0 && t.pres.warnLog == [(0, none)]) = true ∧
      (armed (fun p => { p with warnAt := some 500000 })).power.warnAt = some 500000 ∧
      after .supplyWarningRelease (armed (fun p => { p with warnAt := some 500000 })) (fun t => !t.warning && t.rd PWR.DIP_CNT == 1 && t.rd PWR.DIP_DUR == 2000 * 65537) = true ∧
      after .supplyMonitorArm (on 4) (fun t => t.power.monitor) = true ∧ State.reset.power.pgood = false ∧
      ((on 4).wr PWR.WDT_CFG 0x100FF).bit PWR.WDT_CFG 31 = false ∧ ((on 4).wr PWR.WDT_CFG 0x800100FF).bit PWR.WDT_CFG 31 = true ∧
      after (.wdtConfigWrite 0x80000001) ((on 4).wr PWR.WDT_CFG 0x100FF) (fun t => t.rd PWR.WDT_CFG == 0x80010064) = true ∧
      after (.wdtConfigWrite 1) ((on 4).wr PWR.WDT_CFG 0x800100FF) (fun t => t.rd PWR.WDT_CFG == 0x800100FF) = true ∧
      (0xA5A5#32).toNat % 65536 = 0xA5A5 ∧ (0x5A5A#32).toNat % 65536 ≠ 0xA5A5 ∧
      after (.watchdogKick 0xA5A5) (armed (fun p => { p with wdtWarned := true })) (fun t => t.power.wdtFrom == 2500000 && !t.power.wdtWarned) = true ∧
      ((on 4).wr PWR.WDT_CFG 0x100FF).wdtRuns = true ∧ (on 4).power.wdtWarned = false ∧
      after .watchdogWarning ((on 4).wr PWR.WDT_CFG 0x100FF) (fun t => t.power.wdtWarned && t.rd PWR.WDT_WARN_CNT == 1) = true ∧
      after (.watchdogExpiry mute) ((on 4).wr PWR.WDT_CFG 0x100FF) (fun t => t.power.phase == .running && t.rd PWR.RST_CAUSE == 3 && t.bit PWR.FAULT_STAT 7) = true ∧
      (on 4).power.coresHalted = false ∧ (on 4).power.restartAt = none ∧
      after .lockstepMismatch (on 4) (fun t => t.power.restartAt == some 0 && t.rd SYS.LOCKSTEP_CNT == 1) = true ∧
      after .lockstepMismatch (armed (fun p => { p with restartAt := some 7 })) (fun t => t.power.coresHalted) = true ∧
      after .resetPin (phased .rails (on 4)) (fun t => t.power.phase == .rails && !t.power.resetN) = true ∧
      after (.resetRelease 3 mute) (pinned .rails State.reset) (fun t => t.power == { (phased .rails State.reset).power with straps := 3 }) = true ∧
      (on 4).power.causeAt = none ∧ tripped.power.monitor = false ∧ tripped.power.tripAt = some tripped.aonCycle ∧ tripped.power.causeAt = some tripped.aonCycle ∧ tripped.rd PWR.RST_CAUSE = 5 ∧
      after .supplyResetTrip tripped (fun t => t.rd PWR.RST_CAUSE == 4 && t.rd PWR.SUP_RST_CNT == 1 && t.power == tripped.power) = true ∧
      after .supplyResetTrip (on 4) (fun t => t == on 4) = true := by decide +kernel

/-- BOOT with the key-on test in phase `p`, and `f` of the NVM state. -/
def booting (p : Nat) (f : NvmState → NvmState) : State :=
  let s := (on 2).wr BIST.STAT p
  { s with power := { s.power with firmware := false }, nvm := f s.nvm }

/-- Link 3 fails its analogue checks; a CFS data macro, a pointer macro and one of front end 4 fail, and one of cluster 7 is repaired. -/
def ana3 : AnaResult := { links := 8, lanes := 0, sensors := 0, crystal := false, supmon := false, bandgap := false, plls := 0, us := 400 }
def failing (m : MacroId) : MacroTest := { id := m, words := 2, count := 48, rows := [0], rerun := false }
def mem1 : MemResult :=
  { macros := [failing (.cfs 1 5), failing (.ptr 2 1), failing (.frontEnd 4 0), { failing (.cluster 7 0) with cols := [1], rerun := true },
      { failing (.draw 0) with rows := [] }], us := 900 }

/-- The memory test is over. -/
def memTested : State := { booting 0 id with bist := { (booting 0 id).bist with memDone := true } }

/-- The main pass is queued, on a bank whose header is erased but for one section, which lies off the 256-byte grid. -/
def badMain (n : NvmState) : NvmState :=
  { n with bank := some 0, ops := [{ id := 0, op := .mainPass }], nextOp := 1, flash := [(28, 1), (29, 0), (30, 0), (31, 0)] }

theorem witness_BootAndFlash_boot :
    (booting 9 id).getF BIST.STAT 0 3 = 1 ∧ (booting 10 id).getF BIST.STAT 0 3 = 2 ∧ (booting 9 id).nvm.config.feTables = [] ∧
      after (.analoguePhaseDone ana3) (booting 9 id) (fun t => t.getF BIST.STAT 0 3 == 2 && t.rd BIST.ANA_LNK == 8 && t.feOos == [3] && t.bit BIST.EVT 1 && !t.bit BIST.STAT 7) = true ∧
      after (.memoryPhaseDone mem1) (booting 10 id) (fun t => t.getF BIST.STAT 0 4 == 0 && t.cfs.retired == [(1, 5)] && t.cfs.retiredPtr == [(2, 1)] &&
        t.rd BIST.MEM_STAT == 0x02000100 && t.rd BIST.MEM_FE == 16 && t.feOos == [4] && t.rd BIST.REPAIR_CNT == 5 && t.rd BIST.FAIL_CNT == 3) = true ∧
      (booting 9 id).cfs.ready = false ∧ (booting 9 id).domOn 2 = true ∧ after .storeInitDone (booting 9 id) (fun t => !t.cfs.ready) = true ∧
      after .storeInitDone memTested (fun t => t.cfs.ready) = true ∧ memTested.domOn 2 = true ∧ memTested.cfs.ready = false ∧ memTested.mode = 2 ∧ memTested.bist.memDone = true ∧ (booting 9 id).bist.memDone = false ∧
      (booting 9 badMain).nvm.bank = some 0 ∧ (booting 9 badMain).power.phase = .running ∧ (booting 9 badMain).power.firmware = false ∧ (booting 9 badMain).power.coresHalted = false ∧ (booting 9 badMain).bit BIST.STAT 7 = false ∧
      (booting 9 badMain).bit PWR.LAST_SCENE 31 = false ∧ ({ config := { wdtMs := 50 } } : NvmState).config.feTables = [] ∧
      (booting 9 badMain).bootNeedsKey ((booting 9 badMain).mainSections 0 ((booting 9 badMain).imageHeader 0)) = none ∧
      (∃ j ∈ (booting 9 badMain).nvm.ops, j.op = .mainPass) ∧
      after .scriptWaitTimeout (booting 9 id) (fun t => t.power.scriptOver) = true ∧ after .bootPrepTimer (booting 9 id) (fun t => t.power.prepOk) = true ∧
      (booting 9 id).bist.cut = [] ∧ ((upto 8).all (fun d => (booting 9 badMain).dom d == .up)) = true ∧
      after (.earlySectionVerified {}) ((booting 9 badMain).setBit BIST.STAT 7) (fun t => t.bit NVM.STAT 2 && !t.power.firmware && t.nvm == (booting 9 badMain).nvm) = true ∧
      after (.earlySectionVerified {}) (booting 9 badMain) (fun t => t.power.firmware && t.nvm.ops.any (fun j => j.op == .mainPass) && t.nvm.ops.any (fun j => j.op == .journalRead)) = true ∧
      after (.earlySectionVerified {}) { booting 9 badMain with power := { (booting 9 badMain).power with firmware := true } } (fun t => !t.bit NVM.STAT 2) = true := by decide +kernel

/-- The main pass fails there, whatever the hash of the table: with code 10, or with code 4. -/
theorem witness_BootAndFlash_main : ∃ e, (booting 9 badMain).verifyMain 0 2 = some e := by
  unfold State.verifyMain
  have h : sectionsFit (4096 + le (slice ((booting 9 badMain).imageHeader 0) 20 4)) (le (slice ((booting 9 badMain).imageHeader 0) 24 4))
      ((booting 9 badMain).mainSections 0 ((booting 9 badMain).imageHeader 0)) = false := by decide +kernel
  simp only [h]
  split
  · exact ⟨_, rfl⟩
  · exact ⟨_, rfl⟩

/-- `s` with the main pass queued and a COMMIT of bank 1 at its end. -/
def verifying (s : State) : State :=
  { s with nvm := { s.nvm with bank := some 1, decryptKey := some [], ops := [{ id := 0, op := .mainPass }], session := some { bank := 1, len := 5, next := 5, commit := true } } }

theorem verifying_flashRead (s : State) : (verifying s).flashRead = s.flashRead := by
  funext a n
  induction n generalizing a with
  | zero => rfl
  | succ n ih => simp only [State.flashRead, ih]; rfl

theorem verifying_verifyMain (s : State) (k : Nat) : (verifying s).verifyMain 1 k = s.verifyMain 1 k := by
  unfold State.verifyMain State.imageHeader State.mainSections
  rw [verifying_flashRead]

theorem verifying_headerCode (s : State) (h : List Byte) : (verifying s).headerCode h = s.headerCode h := rfl

theorem verifying_earlyHolds (s : State) (l : List Section) : (verifying s).earlyHolds 1 l = s.earlyHolds 1 l := by
  unfold State.earlyHolds State.setId
  rw [verifying_flashRead]
  rfl

theorem verifying_verifyEarly (s : State) : (verifying s).verifyEarly 1 = s.verifyEarly 1 := by
  have k : (verifying s).nvm.keySlots = s.nvm.keySlots := rfl
  unfold State.verifyEarly State.imageHeader State.earlySections
  simp only [verifying_flashRead, verifying_headerCode, verifying_earlyHolds, k]

/-- Where the hashes of a bank agree (no Lean value can say which do), its main pass passes, and a commit of it confirms it. -/
theorem witness_BootAndFlash_good (s : State) (hm : s.verifyMain 1 2 = none) (hg : BankGood s 1) :
    (verifying s).nvm.bank = some 1 ∧ (∃ j ∈ (verifying s).nvm.ops, j.op = .mainPass) ∧
      (verifying s).bootNeedsKey ((verifying s).mainSections 1 ((verifying s).imageHeader 1)) = none ∧ (verifying s).verifyMain 1 2 = none ∧
      (verifying s).nvm.session = some { bank := 1, len := 5, next := 5, commit := true } ∧ (∀ j, j ∈ (verifying s).nvm.ops → j.op.isImage = false) ∧ BankGood (verifying s) 1 :=
  ⟨rfl, ⟨_, List.mem_singleton.2 rfl, rfl⟩, by simp [State.bootNeedsKey, verifying], (verifying_verifyMain s 2).trans hm, rfl,
    by simp [verifying, FlashOp.isImage],
    (verifying_verifyEarly s).trans hg.1, (verifying_verifyMain s 3).trans hg.2⟩

/-- The boot swap is due: step 7 is over, the main pass has passed; scene 7 is wanted, and `secs` are the sections of the image. -/
def bootDue (secs : List Section) : State :=
  let s := (on 2).wr NVM.STAT 8
  { s with power := { s.power with step7 := true, scriptOver := true }, sched := { s.sched with wantScene := 7 }, nvm := { s.nvm with sections := secs } }

/-- Every set of scene 7. -/
def scene7 : List Section := (upto 27).map (fun i =>
  { early := false, index := i, type := 2, enc := false, id := 7 + 256 * (i / 9) + 65536 * (i % 9), offset := 0, length := 0, iv := [], digest := [] })

/-- A section of the boot scene: draw memory of scene 0 for position 0, and the script of camera 3. -/
def drawSection : Section := { early := false, index := 0, type := 4, enc := false, id := 0, offset := 0, length := 0, iv := [], digest := [] }
def scriptSection : Section := { drawSection with type := 6, id := 3 }

theorem witness_BootAndFlash_sections :
    (booting 9 badMain).bootNeeds drawSection = true ∧ (booting 9 (fun n => { n with config := { n.config with sceneLinks := [(0, [3])] } })).bootNeeds scriptSection = true ∧
      (booting 9 id).bootNeedsKey [{ drawSection with enc := true }] = some { drawSection with enc := true } ∧
      (bootDue scene7).sceneHeld 7 = true ∧ (bootDue scene7).sched.wantScene = 7 ∧
      after .bootPrepTimer (bootDue scene7) (fun t => t.power.asked && t.sched.next.any (fun n => n.kind == .boot && n.scene == 7)) = true := by decide +kernel

/-- A COMMIT of bank 1, which is erased, runs, with `v` as its verdict so far and `ops` to come. -/
def committing (v : Nat) (ops : List FlashJob) : State :=
  { on 4 with nvm := { (on 4).nvm with bank := some 0, ops := ops, nextOp := 9, session := some { bank := 1, len := 5, next := 5, commit := true, verdict := v } } }

/-- The last program of a commit, in service. -/
def lastBit (v : Byte) : List FlashJob := [{ id := 3, op := .program (stateSector 1) [v], started := true }]

theorem witness_BootAndFlash_flash :
    (bootDue []).fwActs = true ∧ (bootDue []).power.step7 = true ∧ (bootDue []).power.asked = false ∧ (bootDue []).mode = 2 ∧ (bootDue []).bit NVM.STAT 3 = true ∧
      (bootDue []).bit PWR.MODE 16 = false ∧ (bootDue []).sched.next = none ∧ (bootDue []).position = 0 ∧ (bootDue []).power.scriptOver = true ∧
      (bootDue []).sceneHeld 7 = false ∧
      after .bootPrepTimer (bootDue []) (fun t => t.power.asked && t.sched.next.isNone && t.bit PWR.MODE 16) = true ∧
      (serving (.program 6 [0x0F, 0x3C])).flashRun = some { id := 3, op := .program 6 [0x0F, 0x3C], started := true } ∧
      after (.flashOpDone 0) (serving (.program 6 [0x0F, 0x3C])) (fun t => t.flashRead 5 4 == [0xFF, 0x0F, 0x30, 0xFF] && t.nvm.ops == [] && t.getF NVM.WR_STAT 0 26 == 2) = true ∧
      after (.flashOpDone 0) (serving (.erase 0 4096)) (fun t => t.flashByte 7 == 0xFF && t.nvm.ops == []) = true ∧
      after (.flashOpDone 2) (serving .fetch) (fun t => t.rd NVM.RETRY_CNT == 2 && t.nvm.ops == []) = true ∧
      (committing 0 []).nvm.session = some { bank := 1, len := 5, next := 5, commit := true } ∧ (committing 0 []).nvm.ops = [] ∧
      (committing 0 []).verifyEarly 1 = some (2, 0, 0) ∧
      (committing 0 []).flashRun = none ∧
      after (.flashOpDone 2) (committing 0 []) (fun t => t.nvm.session.any (fun w => w.verdict == 0) && t.rd NVM.RETRY_CNT == 2) = true ∧
      after .commitDone (committing 0 []) (fun t => t.nvm.session.any (fun w => w.verdict == 2) && t.rd NVM.IMG_ERR_CNT == 1 &&
        t.nvm.ops.any (fun j => j.op == .program (stateSector 1) [0x7F])) = true ∧
      after (.flashOpDone 3) (committing 0 []) (fun t => t.nvm.session.any (fun w => w.verdict == 2) && t.rd NVM.FLASH_ERR_CNT == 1 && t.bit NVM.EVT 5) = true ∧
      (committing 1 (lastBit 0xFD)).flashRun = some { id := 3, op := .program (stateSector 1) [0xFD], started := true } ∧ 0x06800000 ≤ stateSector 1 ∧
      after (.flashOpDone 0) (committing 2 (lastBit 0x7F)) (fun t => t.nvm.session == none && t.getF NVM.WR_STAT 28 3 == 2 && t.flashByte (stateSector 1) == 0x7F &&
        t.mgmt.events.map (·.1) == [4]) = true ∧
      after (.flashOpDone 0) (committing 1 (lastBit 0xFD)) (fun t => t.nvm.session == none && t.getF NVM.WR_STAT 28 3 == 1 && t.flashByte (stateSector 1) == 0xFD) = true ∧
      after (.flashOpDone 1) (serving .journalRead) (fun t => t.power.journal && t.nvm.ops == [] && t.rd NVM.RETRY_CNT == 1) = true ∧
      after (.flashOpDone 3) ({ serving .refetch with power := { (on 4).power with step7 := true } } : State) (fun t => t.nvm.ops == [] && t.power.earlyBad) = true ∧
      after (.flashOpDone 1) ({ serving (.dmaRead 31 false) with dma := { (on 4).dma with chans := [(31, { filling with flash := true })] } } : State)
        (fun t => t.nvm.ops == [] && t.chan 31 == filling && t.rd NVM.RETRY_CNT == 1) = true ∧
      after (.flashOpDone 3) ({ serving (.dmaRead 31 false) with dma := { (on 4).dma with chans := [(31, { filling with flash := true })] } } : State)
        (fun t => (t.chan 31).code == 4 && (t.chan 31).todo == [] && t.rd DMA.BUS_ERR_CNT == 1 && t.rd NVM.FLASH_ERR_CNT == 1) = true := by
  decide +kernel

/-- Mode 4 with a set in force, woken by the pin, with a policy of `limit` faults in a window of 4 s. -/
def policed (limit : Nat) : State :=
  let s := ((((on 4).wr PWR.WAKE_SRC 1).wr PWR.SVC_POLICY (60 * 65536 + 4 * 256 + limit)).wr (CLU.FAULT_CNT 2) 9).modCl 2 (fun c => { c with svc := 3 })
  { s with sched := { s.sched with cur := { s.sched.cur with periodNs := 1000000 } } }

/-- Step `n` of the shutdown, with `f` of the power state. -/
def ending (n : Nat) (f : PowerState → PowerState) : State := { on 7 with power := f { (on 7).power with shutStep := n } }

/-- Step 6 of the shutdown, with every domain but AON and CTRL off. -/
def dark (f : PowerState → PowerState) : State := ending 6 (fun p => f { p with doms := .up :: .up :: List.replicate 6 .off })

theorem witness_ShutdownAndDomains_policy :
    (policed 5).getF PWR.WAKE_SRC 0 3 = 1 ∧ (policed 5).getF PWR.SVC_POLICY 16 16 ≠ 0 ∧ (policed 5).fwActs = true ∧ (policed 5).mode ≠ 7 ∧ (policed 5).sched.cur.period ≠ 0 ∧
      after .noHostTimeout (policed 5) (fun t => t.mode == 7 && t.power.shutStep == 3) = true ∧
      (on 4).getF PWR.WAKE_SRC 0 3 ≠ 1 ∧ (on 4).getF PWR.WAKE_SRC 0 3 ≠ 3 ∧ after .noHostTimeout (on 4) (fun t => t.mode == 4) = true ∧
      (policed 0).getF PWR.SVC_POLICY 0 8 = 0 ∧ after .faultPolicySample (policed 0) (fun t => Map.get [] t.power.policy 2 == [9]) = true ∧
      (policed 5).domOn (cluDomain 2) = true ∧ ((policed 5).cl 2).svc = 3 ∧ (policed 5).getF PWR.SVC_POLICY 0 8 ≤ (policyNow (policed 5) 2).sum ∧
      ((upto 8).all (fun j => j == 2 || ((policed 5).cl j).svc != 3)) = true ∧
      after .faultPolicySample (policed 5) (fun t => t.rd PWR.OOS_REQ_CNT == 1 && t.bit PWR.MODE_EVT 4) = true ∧
      after .faultPolicySample (policed 10) (fun t => t.rd PWR.OOS_REQ_CNT == 0) = true := by decide +kernel

theorem witness_ShutdownAndDomains_shutdown :
    (ending 5 id).Shaped ∧ (ending 5 (fun p => { p with warnAt := some 0 })).Shaped ∧ (ending 5 id).power.shutStep = 5 ∧ (ending 5 id).warning = false ∧ (ending 5 id).power.latched = none ∧
      (ending 5 (fun p => { p with latched := some 2 })).power.latched = some 2 ∧ (ending 5 (fun p => { p with warnAt := some 0 })).warning = true ∧
      after (.keyoffRecordWritten mute) (ending 5 (fun p => { p with warnAt := some 0 })) (fun t => t.power.shutStep == 5) = true ∧
      after (.journalWriteTimeout mute) (ending 5 (fun p => { p with warnAt := some 0 })) (fun t => t.power.shutStep == 6 && t.dom 7 == .falling && t.bit PWR.JRNL_PTR 30) = true ∧
      after (.journalWriteTimeout mute) (ending 5 id) (fun t => t.power.shutStep == 5) = true ∧
      (ending 6 id).power.shutStep = 6 ∧
      after .shutdownComplete (dark id) (fun t => t.power.phase == .standby && t.dom 0 == .up && t.dom 1 == .off && !t.power.pwrReq) = true ∧
      after .shutdownComplete (ending 6 id) (fun t => t == ending 6 id) = true ∧
      after .shutdownComplete (dark (fun p => { p with latched := some 2 })) (fun t => t.power.phase == .rails && t.rd PWR.WAKE_SRC == 0x102) = true ∧
      after (.keyoffRecordWritten mute) (ending 5 (fun p => { p with coresHalted := true })) (fun t => t.power.shutStep == 5) = true ∧
      (ending 5 id).dom 7 = .up ∧ ((upto 8).all (fun d => decide (d < 2) || (dark id).dom d == .off)) = true := by
  refine ⟨(shaped_iff _).1 ?_, (shaped_iff _).1 ?_, ?_⟩ <;> decide +kernel

theorem witness_ShutdownAndDomains_record :
    after (.keyoffRecordWritten mute) (ending 5 id) (fun t => t.power.shutStep == 6 && t.dom 7 == .falling && t.rd PWR.LIFE_SEC == 0) = true := by decide +kernel

theorem witness_ShutdownAndDomains_latched :
    after (.keyoffRecordWritten mute) (ending 5 (fun p => { p with latched := some 2 })) (fun t => t.power.phase == .running && t.rd PWR.MODE == 0x10972 && t.rd PWR.WAKE_SRC == 0x102) = true := by
  decide +kernel

/-- Mode 4 with domain `d` as `x`, every other one up; a register of it is not at its reset value. -/
def domain (d : Nat) (x : DomPower) : State :=
  let s := (on 4).wr PWR.DOM_REQ (if x = .off then 0xFC - 2 ^ d else 0xFC)
  { s with power := { s.power with doms := setNth s.power.doms d x } }

theorem witness_ShutdownAndDomains_requests :
    (domain 5 .off).Shaped ∧ (domain 5 .up).Shaped ∧ (domain 5 .falling).Shaped ∧ (domain 5 .rising).Shaped ∧
      ((upto 8).all (fun i => decide (i < 2) || (wbit 0xFC#32 i == (domain 5 .off).bit PWR.DOM_REQ i) != (i == 5))) = true ∧
      ((upto 8).all (fun i => decide (i < 2) || (wbit 0xDC#32 i == (domain 5 .up).bit PWR.DOM_REQ i) != (i == 5))) = true ∧
      (domain 5 .off).dom 5 = .off ∧ (domain 5 .off).domRefusal 5 true = none ∧ (domain 5 .up).dom 5 = .up ∧ (domain 5 .up).domRefusal 5 false = none ∧
      after (.domainRequest 0xFC) (domain 5 .off) (fun t => t.dom 5 == .rising) = true ∧
      after (.domainRequest 0xDC) (domain 5 .up) (fun t => t.dom 5 == .falling) = true ∧
      (domain 2 .up).domRefusal 2 false = some 1 ∧
      after (.domainRequest 0xF8) (domain 2 .up) (fun t => t.dom 2 == .up && t.rd PWR.DOM_REF == 0x80000102 && t.rd PWR.DOM_REF_CNT == 1) = true ∧
      after (.domainRequest 0xDC) (domain 5 .rising) (fun t => t.power.waiting == [(5, false)]) = true ∧
      (domain 5 .rising).power.waiting = [] ∧
      after (.domainPowerUpDone 5) (domain 5 .rising) (fun t => t.dom 5 == .up && t.bit PWR.EVT 3) = true ∧
      (domain 5 .falling).dmaHolds 5 = false ∧ (domain 5 .falling).power.shutStep ≠ 6 := by
  refine ⟨(shaped_iff _).1 ?_, (shaped_iff _).1 ?_, (shaped_iff _).1 ?_, (shaped_iff _).1 ?_, ?_⟩ <;> decide +kernel

/-- BOOT before the key-on test, with domains `l`. -/
def keyedOn (l : List DomPower) : State := { on 2 with power := { (on 2).power with doms := l }, bist := { (on 2).bist with keyonDue := true } }

/-- Domain 5 powers down while a burst of channel 31 writes to cluster 1. -/
def holding : State :=
  { domain 5 .falling with dma := { (on 4).dma with chans := [(31, { phase := .burst, abort := true, code := 6, words := [2 ^ 29, 0, CLU.CTL 1, 8, 0] })] } }

theorem witness_ShutdownAndDomains_changes :
    after (.domainPowerDownDone 5) ((domain 5 .falling).wr (CLU.CTL 1) 1) (fun t => t.dom 5 == .off && t.rd (CLU.CTL 1) == 0 && !t.bit PWR.DOM_REQ 5) = true ∧
      after (.domainPowerDownDone 5) { domain 5 .falling with power := { (domain 5 .falling).power with shutStep := 6, doms := [.up, .up, .up, .up, .up, .falling, .off, .off] } } (fun t => t.dom 5 == .off && t.dom 4 == .falling) = true ∧
      ((upto 8).all (fun i => decide (i < 2) || wbit 0x20#32 i == (i == 5))) = true ∧ (domain 5 .up).bist.testing = [] ∧
      after (.domainReset 0x20) ((domain 5 .up).wr (CLU.CTL 1) 1) (fun t => t.dom 5 == .up && t.rd (CLU.CTL 1) == 0 && t.rd PWR.DOM_RST_CNT == 1) = true ∧
      after (.domainPowerUpDone 2) (keyedOn [.up, .up, .rising, .off, .off, .off, .off, .off])
        (fun t => t.dom 2 == .up && (upto 8).all (fun i => decide (i < 3) || (t.dom i == .rising && t.bit PWR.DOM_REQ i))) = true ∧
      after (.domainPowerUpDone 5) (keyedOn [.up, .up, .up, .up, .up, .rising, .up, .up]) (fun t => t.dom 5 == .up && !t.bist.keyonDue && t.getF BIST.STAT 0 4 == 9) = true ∧
      (keyedOn []).alm.target = none ∧
      holding.dmaHolds 5 = true ∧ after (.domainPowerDownDone 5) holding (fun t => t == holding) = true := by decide +kernel

theorem witness_ShutdownAndDomains_restore :
    (domain 3 .up).fwActs = true ∧ camDomain 0 = 3 ∧
      after (.domainRestore 3) { domain 3 .up with nvm := { (on 4).nvm with config := { feCtl := [(0, 1)] } } } (fun t => t.bit (FE.CTL 0) 0 && t.dom 3 == .up) = true ∧
      (domain 3 .off).dom 3 ≠ .up ∧ after (.domainRestore 3) (domain 3 .off) (fun t => t.dom 3 == .off) = true := by decide +kernel

/-! ### Ill-formed commands -/

/-- A packet whose header has `n` bytes. -/
def headed (n : Nat) : RxPacket := { header := List.replicate n 0, body := [], ending := .eop }

/-- A read of monitors with `n` temperatures. -/
def temps (n : Nat) : AlmReading := { reading 0 with temps := List.replicate n 0 }

/-- One ill-formed command for each check, just past its bound. -/
def illFormed : List Instr :=
  [.adaptSettled 0 0 0 (List.replicate 5 0), .frameStartPacket 0 (headed 9), .frameEndPacket 0 (headed 9), .videoLinePacket 0 (headed 9),
    .embeddedLinePacket 0 (headed 9), .sensorStatusPacket 0 (headed 9), .bcResponsePacket 0 (headed 9), .soundingDone 0 (List.replicate 767 0),
    .soundingAbort 0 (List.replicate 768 0), .feTableWrite 0 true 4096 0, .feTableWrite 0 false 578 0] ++
  [.itemPush 0 0 [] {}, .scrubRead 0 [(32, 0)], .scrubRead 0 [(0, 2 ^ 64)], .taskStart 0 2048, .intakeItemTake 0 2048, .watchdogCancel 0 2048, .programStart 0 2048 0,
    .taskEnd 0 2048, .contextWrite 0 0 0x10000 0, .contextWrite 0 0 2 0, .emitLineWrite 0 2048 0, .portUp 0 (List.replicate 5 ⟨0, 0, 0, 0, 0, 0⟩) 0 0,
    .ethFrameReceive 0 (List.replicate 13 0) true 0, .passthroughFrameReceive (List.replicate 13 0) true 0, .pdelayReqReceive 0 0 (List.replicate 9 0) 0] ++
  [.stagingComplete { imem := [[(16, [])]] }, .dmaDomainOffTimeout 0 (2 ^ 24), .bridgeRetryTimeout ⟨.core, 0x23000000, none⟩, .logicTestPairDone [good2, good2, good2], .almSample (temps 7), .avsRemeasure (temps 9), .spiRead 0 0,
    .spiReadFixed 0 0]

/-- Well-formed commands at the bounds. -/
def wellFormed : List Instr :=
  [.adaptSettled 0 0 0 (List.replicate 6 0), .frameStartPacket 0 (headed 8), .soundingDone 0 (List.replicate 768 0), .soundingAbort 0 (List.replicate 767 0),
    .feTableWrite 0 true 4095 0, .feTableWrite 0 false 577 0, .itemPush 0 0 [0] { rel := true }, .scrubRead 0 [(31, 2 ^ 64 - 1)],
    .taskStart 0 2047, .contextWrite 0 0 0xFFFC 0, .emitLineWrite 0 2047 0, .portUp 0 (List.replicate 4 ⟨0, 0, 0, 0, 0, 0⟩) 0 0, .ethFrameReceive 0 (List.replicate 14 0) true 0,
    .pdelayReqReceive 0 0 (List.replicate 10 0) 0, .dmaDomainOffTimeout 0 (2 ^ 24 - 1), .bridgeRetryTimeout ⟨.core, 0x22FFFFFF, none⟩, .logicTestPairDone [good2, good2], .almSample (temps 8), .spiRead 0 1, .spiReadFixed 0 1]

theorem test_ill_formed_is_refused : illFormed.all (fun i => !i.wf) = true := by decide +kernel

theorem test_well_formed_at_the_bounds : wellFormed.all (·.wf) = true := by decide +kernel

end Sys2Proof.Tests
end

section
/-! PROOFS. The rules of a write to a register that its window serves, and what a software write leaves of the bits of a register
(R10 to R13). -/

namespace Sys2Proof.Machine

/-! ### The parts of an access that change no register -/

/-- The clearing of a reservation (R440) changes the DMA's part of the state alone. -/
theorem State.semWrite_eq (s : State) (m : Master) (a : Nat) : ∃ d, s.semWrite m a = { s with dma := d } := by
  unfold State.semWrite
  split
  · exact ⟨s.dma, rfl⟩
  · split
    · exact ⟨s.dma, rfl⟩
    · exact ⟨_, rfl⟩

@[simp] theorem State.semWrite_regs (s : State) (m : Master) (a : Nat) : (s.semWrite m a).regs = s.regs := by
  obtain ⟨d, h⟩ := s.semWrite_eq m a; rw [h]
@[simp] theorem State.semWrite_mgmt (s : State) (m : Master) (a : Nat) : (s.semWrite m a).mgmt = s.mgmt := by
  obtain ⟨d, h⟩ := s.semWrite_eq m a; rw [h]
@[simp] theorem State.semWrite_cfs (s : State) (m : Master) (a : Nat) : (s.semWrite m a).cfs = s.cfs := by
  obtain ⟨d, h⟩ := s.semWrite_eq m a; rw [h]
@[simp] theorem State.semWrite_link (s : State) (m : Master) (a : Nat) : (s.semWrite m a).link = s.link := by
  obtain ⟨d, h⟩ := s.semWrite_eq m a; rw [h]
@[simp] theorem State.semWrite_power (s : State) (m : Master) (a : Nat) : (s.semWrite m a).power = s.power := by
  obtain ⟨d, h⟩ := s.semWrite_eq m a; rw [h]

@[simp] theorem State.rd_semWrite (s : State) (m : Master) (a b : Nat) : (s.semWrite m a).rd b = s.rd b :=
  State.rd_congr (s.semWrite_regs m a) b
@[simp] theorem State.bit_semWrite (s : State) (m : Master) (a b i : Nat) : (s.semWrite m a).bit b i = s.bit b i := by
  rw [State.bit, State.rd_semWrite, State.bit]
@[simp] theorem State.q_semWrite (s : State) (m : Master) (a q : Nat) : (s.semWrite m a).q q = s.q q := by simp [State.q]

@[simp] theorem State.rd_answer (s : State) (st : Nat) (ws : List Word) (b : Nat) : (s.answer st ws).rd b = s.rd b := rfl
@[simp] theorem State.bit_answer (s : State) (st : Nat) (ws : List Word) (b i : Nat) : (s.answer st ws).bit b i = s.bit b i := rfl
@[simp] theorem State.q_answer (s : State) (st : Nat) (ws : List Word) (q : Nat) : (s.answer st ws).q q = s.q q := rfl
@[simp] theorem State.answer_answer (s : State) (st : Nat) (ws : List Word) :
    (s.answer st ws).mgmt.answer = { status := st, words := ws } := rfl

@[simp] theorem State.q_wr (s : State) (a v q : Nat) : (s.wr a v).q q = s.q q := rfl
@[simp] theorem State.rd_modQ (s : State) (q : Nat) (f : QueueState → QueueState) (b : Nat) : (s.modQ q f).rd b = s.rd b := rfl

theorem State.q_modQ_ne (s : State) {q r : Nat} (f : QueueState → QueueState) (h : r ≠ q) : (s.modQ q f).q r = s.q r := by
  simp [State.q, State.modQ, State.setQ, Map.get_set_ne _ _ _ _ h]

/-! ### What stays still -/

theorem still_refl (s : State) : Still s s := ⟨rfl, rfl, rfl, rfl, rfl⟩

theorem still_wr {s t : State} (a v : Nat) (h : Still s t) : Still s (t.wr a v) := h
theorem still_modQ {s t : State} (q : Nat) (f : QueueState → QueueState) (h : Still s t) : Still s (t.modQ q f) := h
theorem still_answer {s t : State} (st : Nat) (ws : List Word) (h : Still s t) : Still s (t.answer st ws) := h

theorem still_semWrite {s t : State} (m : Master) (a : Nat) (h : Still s t) : Still s (t.semWrite m a) := by
  obtain ⟨d, hd⟩ := t.semWrite_eq m a
  rw [hd]; exact h

/-! ### A write to a register that its window serves -/

/-- The block windows of the control bus (R551) as ranges of addresses. -/
theorem windowDomain_isSome_iff (a : Nat) : (windowDomain a).isSome = true ↔
    0x10000000 ≤ a ∧ a < 0x100D0000 ∨ 0x10100000 ≤ a ∧ a < 0x10320000 ∨ 0x10400000 ≤ a ∧ a < 0x10C00000 := by
  unfold windowDomain
  repeat' split
  all_goals simp only [Option.isSome_some, Option.isSome_none, true_iff, Bool.false_eq_true, false_iff]
  all_goals omega

theorem State.served_of_served {s : State} {a : Nat} (h : Served s a) (f : State → State) : s.served a f = f s := by
  obtain ⟨hctrl, hdom, htest⟩ := h
  simp [State.served, hctrl, hdom, htest]

/-- A write to a register of a served block window is performed, without a bus error (R10, R551). -/
theorem State.busWrite_of_served {s : State} {a : Nat} (m : Master) (v : Nat) (ha : a % 4 = 0) (hw : (windowDomain a).isSome = true)
    (hs : Served s a) : s.busWrite m a v = (true, (s.regWrite m a v).semWrite m a) := by
  have hword : a / 4 * 4 = a := by omega
  have hrange := (windowDomain_isSome_iff a).1 hw
  have hmap : busMapped a = true := by simp [busMapped, hw]
  have hstore : s.storeWord m a v = (true, s.regWrite m a v) := by
    simp only [State.storeWord, hword, hmap, hs.1, State.served_of_served hs]
    rw [if_neg (by simp), if_neg (by simp), if_neg (by omega), if_neg (by omega)]
  simp [State.busWrite, hstore, hword]

/-! ### The bits of a register after a software write -/

@[simp] theorem bitOf_toNat (v : Word) (i : Nat) : bitOf v.toNat i = wbit v i := bitOf_eq_testBit _ _

theorem State.bit_eq_testBit (s : State) (a i : Nat) : s.bit a i = (s.rd a).testBit i := bitOf_eq_testBit _ _

theorem State.bit_wr_self (s : State) (a v : Nat) {i : Nat} (hi : i < 32) : (s.wr a v).bit a i = v.testBit i := by
  simp only [State.bit_eq_testBit, State.rd_wr_self, Nat.testBit_mod_two_pow, hi, decide_true, Bool.true_and]

/-- The access types of R10, bit by bit. -/
theorem RegDef.testBit_written (d : RegDef) (old v : Nat) {i : Nat} (hi : i < 32) :
    (d.written old v).testBit i =
      (old.testBit i && !((d.rw ||| d.rws).testBit i || d.w1c.testBit i && v.testBit i) ||
        v.testBit i && (d.rw ||| d.rws).testBit i || v.testBit i && d.w1s.testBit i) := by
  have hones : Nat.testBit 0xFFFFFFFF i = true := by
    rw [show (0xFFFFFFFF : Nat) = 2 ^ 32 - 1 from rfl, Nat.testBit_two_pow_sub_one, decide_eq_true hi]
  simp only [RegDef.written, Nat.testBit_or, Nat.testBit_and, Nat.testBit_xor, hones, Bool.true_xor]

/-- A row whose bits for software are those that it writes (R10). -/
abbrev RegDef.Enables (d : RegDef) : Prop := d.w1c = 0 ∧ d.w1s = 0

/-- A row whose bits for software are those that it clears by writing 1 (R10). -/
abbrev RegDef.Clears (d : RegDef) : Prop := d.rw ||| d.rws = 0 ∧ d.w1s = 0

theorem RegDef.Enables.testBit_written {d : RegDef} (h : d.Enables) (old v : Nat) {i : Nat} (hi : i < 32) :
    (d.written old v).testBit i = if (d.rw ||| d.rws).testBit i then v.testBit i else old.testBit i := by
  obtain ⟨hc, hs⟩ := h
  rw [RegDef.testBit_written _ _ _ hi, hc, hs]
  cases (d.rw ||| d.rws).testBit i <;> simp

theorem RegDef.Clears.testBit_written {d : RegDef} (h : d.Clears) (old v : Nat) {i : Nat} (hi : i < 32) :
    (d.written old v).testBit i = (old.testBit i && !(d.w1c.testBit i && v.testBit i)) := by
  obtain ⟨hw, hs⟩ := h
  rw [RegDef.testBit_written _ _ _ hi, hw, hs]
  simp

/-! ### Registers that take what is written and do nothing else -/

/-- A served write to a register of row `d` that does nothing but take what is written. -/
theorem State.busWrite_of_plain {s : State} {m : Master} {a v : Nat} {d : RegDef} (ha : a % 4 = 0)
    (hw : (windowDomain a).isSome = true) (hd : regDefAt a = some d) (hs : Served s a)
    (hplain : s.regWrite m a v = s.plainWrite a v) :
    s.busWrite m a v = (true, (s.wr a (d.written (s.rd a) v)).semWrite m a) := by
  have hwr : s.plainWrite a v = s.wr a (d.written (s.rd a) v) := by simp only [State.plainWrite, hd]
  rw [State.busWrite_of_served m v ha hw hs, hplain, hwr]

/-- The offsets of EVT and EVT_EN in the windows of most blocks (R546). -/
def eventOffset (a : Nat) : Bool :=
  (windowDomain a).isSome && (a % 0x10000 == 8 || a % 0x10000 == 0xC) && (decide (a < 0x10400000) || decide (a % 0x100000 < 0x10000))

/-- The window offsets of the clear registers (R545). -/
def clearOffsets : List Nat := [0x48, 0x13C, 0x17C, 0x1F8, 0x1FC, 0x87C]

theorem cntClear_eq_none {a : Nat} (h : a % 0x10000 ∉ clearOffsets) : cntClear a = none := by
  simp only [clearOffsets, List.mem_cons, List.not_mem_nil, or_false] at h
  unfold cntClear
  repeat' split
  all_goals simp only [reduceCtorEq]
  all_goals omega

/-- The shadowed registers of a front end lie above its event registers (R131). -/
theorem le_of_mem_feShadowed {n a : Nat} (h : a ∈ feShadowed n) : FE.SRC n ≤ a := by
  simp only [feShadowed, List.mem_append, List.mem_cons, List.mem_map, List.not_mem_nil, or_false] at h
  rcases h with ((h | ⟨i, -, rfl⟩) | ⟨i, -, rfl⟩) | ⟨i, -, rfl⟩
  · simp only [FE.SRC, FE.FILL, FE.LIN_CFG, FE.MERGE_CFG, FE.MERGE_RATIO, FE.MERGE_THR, FE.MERGE_MOT, FE.BLACK, FE.CFA, FE.DPC_CFG,
      FE.LSC_CFG, FE.STAT_CFG, FE.STAT_WIN, FE.STAT_SIZE, FE.CROP, FE.CROP_SIZE] at h ⊢
    omega
  · simp only [FE.SRC, FE.LIN_KNEE]; omega
  · simp only [FE.SRC, FE.TONE_TC]; omega
  · simp only [FE.SRC, FE.TONE_LGAIN]; omega

/-- No block gives the registers at these offsets an effect of their own. -/
theorem State.regWrite_of_eventOffset {a : Nat} (h : eventOffset a = true) (s : State) (m : Master) (v : Nat) :
    s.regWrite m a v = s.plainWrite a v := by
  simp only [eventOffset, Bool.and_eq_true, Bool.or_eq_true, beq_iff_eq, decide_eq_true_eq, windowDomain_isSome_iff] at h
  obtain ⟨⟨hwin, ho⟩, hclu⟩ := h
  have hnone : cntClear a = none := cntClear_eq_none (by rcases ho with ho | ho <;> rw [ho] <;> decide)
  simp only [State.regWrite, hnone]
  split
  · have hne : a ≠ SYS.SNAP ∧ a ≠ BRG.SEM_REL ∧ a ≠ BIST.RUN := by
      simp only [SYS.SNAP, BRG.SEM_REL, BIST.RUN]
      omega
    rcases ho with ho | ho
    all_goals
      simp only [ho, hne, State.pwrWrite, State.schedWrite, State.cfsWrite, State.timeWrite, State.ethWrite, laneReg?, State.presWrite,
        presShadowedAddr, State.almWrite, State.mgmtWrite]
      split <;> rfl
  · split
    · rcases ho with ho | ho <;> simp only [ho, State.lnkWrite]
    · split
      · have hsh : a ∉ feShadowed ((a - 0x10200000) / 0x10000) := fun hm => by
          have hle := le_of_mem_feShadowed hm
          simp only [FE.SRC] at hle
          omega
        rcases ho with ho | ho <;> simp [ho, State.feWrite, hsh]
      · have ho' : a % 0x100000 = a % 0x10000 := by omega
        rcases ho with ho | ho <;> simp [ho', ho, State.cluWrite]

/-- The event registers that stand at offsets of their own: those of SYS, PWR.MODE_EVT and PWR.FAULT_STAT (R417, R523, R549). -/
def oddEvents : List Nat := [SYS.EVT, SYS.EVT_EN, PWR.MODE_EVT, PWR.MODE_EVT_EN, PWR.FAULT_STAT]

theorem State.regWrite_of_mem_oddEvents {a : Nat} (h : a ∈ oddEvents) (s : State) (m : Master) (v : Nat) :
    s.regWrite m a v = s.plainWrite a v := by
  simp only [oddEvents, List.mem_cons, List.not_mem_nil, or_false] at h
  rcases h with rfl | rfl | rfl | rfl | rfl <;> rfl

theorem blockEvents_at : ∀ e ∈ blockEvents, (eventOffset e.1 = true ∨ e.1 ∈ oddEvents) ∧ (eventOffset e.2 = true ∨ e.2 ∈ oddEvents) := by
  decide +kernel

theorem State.regWrite_of_event {a : Nat} (h : eventOffset a = true ∨ a ∈ oddEvents) (s : State) (m : Master) (v : Nat) :
    s.regWrite m a v = s.plainWrite a v :=
  h.elim (State.regWrite_of_eventOffset · s m v) (State.regWrite_of_mem_oddEvents · s m v)

theorem State.regWrite_of_mem_clearRegs {a : Nat} (h : a ∈ clearRegs) (s : State) (m : Master) (v : Nat) :
    s.regWrite m a v = s.plainWrite a v := by
  simp only [clearRegs, List.mem_cons, List.mem_map] at h
  rcases h with rfl | ⟨e, he, rfl⟩
  · exact State.regWrite_of_event (.inr (by decide)) s m v
  · exact State.regWrite_of_event (blockEvents_at e he).1 s m v

/-- CH_EVT of a channel that is not locked, or that a core or the DMA writes (R421). -/
theorem State.regWrite_chEvt {s : State} {m : Master} {c : Nat} (hc : c < 32)
    (hm : s.bit (DMA.CH_CTL c) 8 = false ∨ m = .core ∨ m = .dma) (v : Nat) :
    s.regWrite m (DMA.CH_EVT c) v = s.plainWrite (DMA.CH_EVT c) v := by
  have hopen : (s.bit (DMA.CH_CTL c) 8 && (m == .spi || m == .frame)) = false := by
    rcases hm with h | rfl | rfl
    · rw [h, Bool.false_and]
    · exact Bool.and_false _
    · exact Bool.and_false _
  have ha : DMA.CH_EVT c % 0x10000 = 0x1018 + 64 * c := by simp only [DMA.CH_EVT]; omega
  have hnone : cntClear (DMA.CH_EVT c) = none := cntClear_eq_none (by
    simp only [ha, clearOffsets, List.mem_cons, List.not_mem_nil, or_false]; omega)
  have hlow : DMA.CH_EVT c < 0x100D0000 := by simp only [DMA.CH_EVT]; omega
  have hblock : (DMA.CH_EVT c - 0x10000000) / 0x10000 = 5 := by simp only [DMA.CH_EVT]; omega
  have hchan : (0x1018 + 64 * c - 0x1000) / 64 = c := by rw [show 0x1018 + 64 * c - 0x1000 = 0x18 + 64 * c by omega]; omega
  have hoff : (0x1018 + 64 * c) % 64 = 0x18 := by omega
  simp only [State.regWrite, hnone, hlow, hblock, ha, if_true]
  rw [if_neg (by omega), if_pos (by omega), hchan, hoff, State.chanWrite, hopen]
  rfl

/-! ### The rows of the event registers -/

theorem blockEvents_enable_row : ∀ e ∈ blockEvents,
    e.2 % 4 = 0 ∧ (windowDomain e.2).isSome = true ∧ ∃ d ∈ regDefAt e.2, d.Enables := by
  decide +kernel

theorem clearRegs_row : ∀ a ∈ clearRegs ++ (upto 32).map DMA.CH_EVT,
    a % 4 = 0 ∧ (windowDomain a).isSome = true ∧ ¬(0x10048000 ≤ a ∧ a < 0x10050000) ∧ ∃ d ∈ regDefAt a, d.Clears := by
  decide +kernel

end Sys2Proof.Machine
end

section
/-! PROOFS. Events: enabling them, and clearing them in the cycle in which hardware sets them (R10, R11, R13). -/

namespace Sys2Proof.Machine

theorem gives_registerWrite {m : Master} {addr v : Word} {s t : State} {P : State → Prop}
    (hb : s.busWrite m addr.toNat v.toNat = (true, t)) (h : P (t.answer 0 [])) : Gives (.registerWrite m addr v) s P := by
  refine ⟨t.answer 0 [], ?_, h⟩
  show execRegisterWrite m addr v s = _
  simp only [execRegisterWrite, hb, if_true]

theorem gives_eventClear {m : Master} {addr v hw : Word} {s t : State} {P : State → Prop} (ha : addr.toNat % 4 = 0)
    (hb : s.busWrite m addr.toNat v.toNat = (true, t)) (h : P ((t.eventSet addr.toNat hw.toNat).answer 0 [])) :
    Gives (.eventClear m addr v hw) s P := by
  refine ⟨(t.eventSet addr.toNat hw.toNat).answer 0 [], ?_, h⟩
  have hword : addr.toNat / 4 * 4 = addr.toNat := by omega
  show execEventClear m addr v hw s = _
  simp only [execEventClear, hb, hword, if_true]

/-- Hardware sets the clearable bits of a register that is not the state of a queue. -/
theorem State.eventSet_of_row {s : State} {a hw : Nat} {d : RegDef} (hq : ¬(0x10048000 ≤ a ∧ a < 0x10050000))
    (hd : regDefAt a = some d) : s.eventSet a hw = s.wr a (s.rd a ||| (hw &&& d.w1c)) := by
  unfold State.eventSet
  rw [if_neg (fun h => hq ⟨h.1, h.2.1⟩), hd]

/-! ### The high-mark bit of a queue -/

theorem windowDomain_queueStat {q : Nat} (hq : q < 1024) : (windowDomain (CFS.Q_STAT q)).isSome = true :=
  (windowDomain_isSome_iff _).2 (by simp only [CFS.Q_STAT]; omega)

theorem State.regWrite_queueStat (s : State) (m : Master) (v : Nat) {q : Nat} (hq : q < 1024) :
    s.regWrite m (CFS.Q_STAT q) v = s.when (bitOf v 24) (·.modQ q (fun x => { x with hwm := false })) := by
  have ho : CFS.Q_STAT q % 0x10000 = 0x8018 + 32 * q := by simp only [CFS.Q_STAT]; omega
  have hnone : cntClear (CFS.Q_STAT q) = none := cntClear_eq_none (by
    simp only [ho, clearOffsets, List.mem_cons, List.not_mem_nil, or_false]; omega)
  have hlow : CFS.Q_STAT q < 0x100D0000 := by simp only [CFS.Q_STAT]; omega
  have hblock : (CFS.Q_STAT q - 0x10000000) / 0x10000 = 4 := by simp only [CFS.Q_STAT]; omega
  have hqueue : (0x8018 + 32 * q - 0x8000) / 32 = q := by rw [show 0x8018 + 32 * q - 0x8000 = 0x18 + 32 * q by omega]; omega
  have hoff : (0x8018 + 32 * q) % 32 = 0x18 := by omega
  simp only [State.regWrite, hnone, hlow, hblock, ho, if_true]
  unfold State.cfsWrite
  rw [if_pos (by omega)]
  simp only [hqueue, hoff]

theorem State.eventSet_queueStat (s : State) (hw : Nat) {q : Nat} (hq : q < 1024) :
    s.eventSet (CFS.Q_STAT q) hw = s.when (bitOf hw 24) (·.modQ q (fun x => { x with hwm := true })) := by
  have hqueue : (CFS.Q_STAT q - 0x10048000) / 32 = q := by simp only [CFS.Q_STAT]; omega
  rw [State.eventSet, if_pos (by simp only [CFS.Q_STAT]; omega), hqueue]

/-! ### A change of a queue under a condition -/

@[simp] theorem State.when_modQ_regs (s : State) (c : Bool) (q : Nat) (f : QueueState → QueueState) :
    (s.when c (·.modQ q f)).regs = s.regs := by cases c <;> simp

@[simp] theorem State.q_when_modQ_self (s : State) (c : Bool) (q : Nat) (f : QueueState → QueueState) :
    (s.when c (·.modQ q f)).q q = if c then f (s.q q) else s.q q := by cases c <;> simp

theorem State.q_when_modQ_ne (s : State) (c : Bool) {q r : Nat} (f : QueueState → QueueState) (h : r ≠ q) :
    (s.when c (·.modQ q f)).q r = s.q r := by cases c <;> simp [State.q_modQ_ne _ _ h]

theorem still_when_modQ {s t : State} (c : Bool) (q : Nat) (f : QueueState → QueueState) (h : Still s t) :
    Still s (t.when c (·.modQ q f)) := State.when_keeps h (fun _ => still_modQ q f)

/-- The high-mark bit that is cleared and then set. -/
theorem State.q_hwm_clear_set (s : State) (m : Master) (a q : Nat) (v hw : Word) :
    (((s.when (bitOf v.toNat 24) (·.modQ q (fun x => { x with hwm := false }))).semWrite m a).when (bitOf hw.toNat 24)
      (·.modQ q (fun x => { x with hwm := true }))).q q = { s.q q with hwm := ((s.q q).hwm && !wbit v 24) || wbit hw 24 } := by
  simp only [State.q_when_modQ_self, State.q_semWrite, bitOf_toNat]
  cases wbit v 24 <;> cases wbit hw 24 <;> simp

/-! ### The statements -/

/-- The bits of a register that software clears in the cycle in which hardware sets them, and what stays. -/
theorem gives_eventClear_of_row {s : State} {m : Master} {addr v hw : Word} {a : Nat} {d : RegDef} (haddr : addr.toNat = a)
    (ha : a % 4 = 0) (hwin : (windowDomain a).isSome = true) (hq : ¬(0x10048000 ≤ a ∧ a < 0x10050000)) (hd : regDefAt a = some d)
    (hcl : d.Clears) (hs : Served s a) (hplain : s.regWrite m a v.toNat = s.plainWrite a v.toNat) :
    Gives (.eventClear m addr v hw) s (fun t =>
      (∀ i, i < 32 → t.bit a i = if (clearable a).testBit i then (s.bit a i && !wbit v i) || wbit hw i else s.bit a i) ∧
      OnlyRegs [a] s t ∧ Still s t ∧ t.mgmt.answer = { status := 0, words := [] } ∧ t.power = s.power) := by
  subst haddr
  refine gives_eventClear ha (State.busWrite_of_plain ha hwin hd hs hplain) ?_
  rw [State.eventSet_of_row hq hd]
  refine ⟨fun i hi => ?_, fun b hb => ?_, ?_, by simp, by simp⟩
  · have hrow : clearable addr.toNat = d.w1c := by simp [clearable, hd]
    rw [State.bit_answer, State.bit_wr_self _ _ _ hi, Nat.testBit_or, Nat.testBit_and, ← State.bit_eq_testBit, State.bit_semWrite,
      State.bit_wr_self _ _ _ hi, hcl.testBit_written _ _ hi, ← State.bit_eq_testBit, hrow]
    cases d.w1c.testBit i <;> simp [wbit]
  · have hne : b ≠ addr.toNat := by simpa using hb
    simp [State.rd_wr_ne _ _ hne]
  · exact still_answer _ _ (still_wr _ _ (still_semWrite _ _ (still_wr _ _ (still_refl s))))

end Sys2Proof.Machine

namespace Sys2Proof

open Sys2Proof.Machine

/-- Settles O4: EVT_EN of every block only takes what is written, and its row has writable bits alone. -/
theorem writeOfAnEventEnable : Obligations.WriteOfAnEventEnable := by
  intro s m addr v e he haddr hs
  obtain ⟨ha, hwin, d, hd, hen⟩ := blockEvents_enable_row e he
  have hplain := State.regWrite_of_event (blockEvents_at e he).2 s m v.toNat
  refine gives_registerWrite (by rw [haddr]; exact State.busWrite_of_plain ha hwin hd hs hplain)
    ⟨fun i hi => ?_, fun b hb => ?_, ?_, by simp, by simp, by simp⟩
  · have hrow : writable e.2 = d.rw ||| d.rws := by simp [writable, Option.mem_def.1 hd]
    rw [State.bit_answer, State.bit_semWrite, State.bit_wr_self _ _ _ hi, hen.testBit_written _ _ hi, hrow, State.bit_eq_testBit, wbit]
  · have hne : b ≠ e.2 := by simpa using hb
    simp [State.rd_wr_ne _ _ hne]
  · exact still_answer _ _ (still_semWrite _ _ (still_wr _ _ (still_refl s)))

/-- Settles O5: the write clears first, and hardware then sets its bits in what is left. -/
theorem eventClearLosesNoEvent : Obligations.EventClearLosesNoEvent := by
  intro s m addr v hw
  refine ⟨fun a hkind haddr hs => ?_, fun q hq haddr hs => ?_⟩
  · have hmem : a ∈ clearRegs ++ (upto 32).map DMA.CH_EVT := by
      rcases hkind with h | ⟨c, hc, rfl, -⟩
      · exact List.mem_append_left _ h
      · exact List.mem_append_right _ (List.mem_map_of_mem (List.mem_range.2 hc))
    have hplain : s.regWrite m a v.toNat = s.plainWrite a v.toNat := by
      rcases hkind with h | ⟨c, hc, rfl, hm⟩
      · exact State.regWrite_of_mem_clearRegs h s m _
      · exact State.regWrite_chEvt hc hm _
    obtain ⟨ha, hwin, hq, d, hd, hcl⟩ := clearRegs_row a hmem
    exact gives_eventClear_of_row haddr ha hwin hq hd hcl hs hplain
  · have ha : CFS.Q_STAT q % 4 = 0 := by simp only [CFS.Q_STAT]; omega
    refine gives_eventClear (haddr.symm ▸ ha) (haddr.symm ▸ State.busWrite_of_served m v.toNat ha (windowDomain_queueStat hq) hs) ?_
    rw [haddr, State.regWrite_queueStat _ _ _ hq, State.eventSet_queueStat _ _ hq]
    have hself := State.q_hwm_clear_set s m (CFS.Q_STAT q) q v hw
    refine ⟨by simp only [State.q_answer, hself], by simp, fun r hr => ?_, by simp only [State.q_answer, hself],
      by simp only [State.q_answer, hself], ?_⟩
    · simp [State.q_when_modQ_ne _ _ _ hr]
    · exact still_answer _ _ (still_when_modQ _ _ _ (still_semWrite _ _ (still_when_modQ _ _ _ (still_refl s))))

end Sys2Proof
end

section
/-! PROOFS. Clear registers of counters, written in a cycle in which counters count (R12, R15, R170, R545). -/

namespace Sys2Proof.Machine

/-! ### One update after another, each of a register of its own -/

/-- Updates that each take one register of an injective family through `g`, over a list without repeats. -/
theorem State.rd_each_self {f : State → Nat → State} {addr g : Nat → Nat} (hinj : Function.Injective addr)
    (hself : ∀ t i, (f t i).rd (addr i) = g (t.rd (addr i))) (hne : ∀ t i b, b ≠ addr i → (f t i).rd b = t.rd b)
    {l : List Nat} (hl : l.Nodup) (s : State) (i : Nat) :
    (s.each l f).rd (addr i) = if i ∈ l then g (s.rd (addr i)) else s.rd (addr i) := by
  induction l generalizing s with
  | nil => rfl
  | cons j rest ih =>
    obtain ⟨hj, hrest⟩ := List.nodup_cons.1 hl
    rw [State.each_cons, ih hrest]
    by_cases hij : i = j
    · subst hij
      simp [hj, hself]
    · have hstay := hne s j (addr i) (fun h => hij (hinj h))
      simp [hij, hstay]

theorem State.rd_each_ne {f : State → Nat → State} {addr : Nat → Nat} (hne : ∀ t i b, b ≠ addr i → (f t i).rd b = t.rd b)
    {l : List Nat} {b : Nat} (hb : ∀ i ∈ l, b ≠ addr i) (s : State) : (s.each l f).rd b = s.rd b := by
  induction l generalizing s with
  | nil => rfl
  | cons j rest ih =>
    obtain ⟨hj, hrest⟩ := List.forall_mem_cons.1 hb
    rw [State.each_cons, ih hrest, hne s j b hj]

theorem counterAddr_injective (first : Nat) : Function.Injective (fun i => first + 4 * i) := fun i j h => by
  simp only at h; omega

theorem mem_filter_upto {n i : Nat} {p : Nat → Bool} : i ∈ (upto n).filter p ↔ i < n ∧ p i = true := by
  simp [upto]

theorem nodup_filter_upto (n : Nat) (p : Nat → Bool) : ((upto n).filter p).Nodup := List.nodup_range.filter p

/-! ### Clearing and counting -/

/-- The events of the bits of `ev` are counted by the counters from `first` on (R15). -/
def State.countEach (s : State) (first n : Nat) (p : Nat → Bool) : State :=
  s.each ((upto n).filter p) (fun s i => s.inc (first + 4 * i))

theorem State.rd_clearCounters (s : State) (first n v : Nat) {i : Nat} (hi : i < n) :
    (s.clearCounters (first, n) v).rd (first + 4 * i) = if bitOf v i then 0 else s.rd (first + 4 * i) := by
  have h := State.rd_each_self (f := fun s i => s.wr (first + 4 * i) 0) (g := fun _ => 0) (counterAddr_injective first)
    (fun t i => by simp) (fun t i b hb => State.rd_wr_ne t 0 hb) (nodup_filter_upto n (bitOf v)) s i
  simp only [mem_filter_upto, hi, true_and] at h
  exact h

theorem State.rd_countEach (s : State) (first n : Nat) (p : Nat → Bool) {i : Nat} (hi : i < n) :
    (s.countEach first n p).rd (first + 4 * i) = sat32 (s.rd (first + 4 * i)) (if p i then 1 else 0) := by
  have h := State.rd_each_self (f := fun s i => s.inc (first + 4 * i)) (g := fun x => sat32 x 1) (counterAddr_injective first)
    (fun t i => t.rd_inc_self _) (fun t i b hb => t.rd_inc_ne hb) (nodup_filter_upto n p) s i
  have hlt := s.rd_lt (first + 4 * i)
  have hsat : sat32 (s.rd (first + 4 * i)) 0 = s.rd (first + 4 * i) := by simp only [sat32]; omega
  simp only [mem_filter_upto, hi, true_and] at h
  rw [State.countEach, h]
  cases p i <;> simp [hsat]

theorem State.rd_clearCounters_ne (s : State) (first n v : Nat) {b : Nat} (hb : ∀ i, i < n → b ≠ first + 4 * i) :
    (s.clearCounters (first, n) v).rd b = s.rd b :=
  State.rd_each_ne (addr := fun i => first + 4 * i) (fun t _ _ h => State.rd_wr_ne t 0 h)
    (fun i hi => hb i (mem_filter_upto.1 hi).1) s

theorem State.rd_countEach_ne (s : State) (first n : Nat) (p : Nat → Bool) {b : Nat} (hb : ∀ i, i < n → b ≠ first + 4 * i) :
    (s.countEach first n p).rd b = s.rd b :=
  State.rd_each_ne (addr := fun i => first + 4 * i) (fun t _ _ h => t.rd_inc_ne h)
    (fun i hi => hb i (mem_filter_upto.1 hi).1) s

theorem still_clearCounters {s t : State} (c : Nat × Nat) (v : Nat) (h : Still s t) : Still s (t.clearCounters c v) :=
  State.each_keeps (p := Still s) (fun _ _ => still_wr _ _) h

theorem still_countEach {s t : State} (first n : Nat) (p : Nat → Bool) (h : Still s t) : Still s (t.countEach first n p) :=
  State.each_keeps (p := Still s) (fun _ _ => still_wr _ _) h

/-! ### The clear registers (R545) -/

/-! The runs of the links, the front ends and the clusters. -/

theorem lnkRun_mem {n : Nat} (hn : n < 16) : (⟨LNK.CV_CNT n, 12, 0x100, camDomain n⟩ : CounterRun) ∈ counterRuns :=
  List.mem_append_left _ (List.mem_append_left _ (List.mem_append_right _ (List.mem_map.2 ⟨n, List.mem_range.2 hn, rfl⟩)))

theorem feRun_mem {n : Nat} (hn : n < 18) : (⟨FE.CTL n + 0x100, 20, 0x100, camDomain n⟩ : CounterRun) ∈ counterRuns :=
  List.mem_append_left _ (List.mem_append_right _ (List.mem_map.2 ⟨n, List.mem_range.2 hn, rfl⟩))

theorem cluRun_mem {k : Nat} (hk : k < 8) : (⟨CLU.CTL k + 0x100, 14, 0x100, cluDomain k⟩ : CounterRun) ∈ counterRuns :=
  List.mem_append_right _ (List.mem_map.2 ⟨k, List.mem_range.2 hk, rfl⟩)

/-- What a clear register clears lies within one run of counters, and the register in a block window. -/
theorem run_of_cntClear {a first n : Nat} (h : cntClear a = some (first, n)) :
    (windowDomain a).isSome = true ∧ ∃ r ∈ counterRuns, r.first ≤ first ∧ first + 4 * n ≤ r.first + 4 * r.count := by
  rw [windowDomain_isSome_iff]
  unfold cntClear at h
  split at h
  · cases h
  split at h
  · refine ⟨by omega, ?_⟩
    split at h <;> cases h <;> decide
  split at h
  · obtain ⟨ho, h⟩ := Option.ite_none_right_eq_some.1 h
    rw [Option.some.injEq, Prod.mk.injEq] at h
    obtain ⟨k, hk, ha⟩ : ∃ k < 16, a = 0x10100000 + 0x10000 * k + 0x13C := ⟨(a - 0x10100000) / 0x10000, by omega, by omega⟩
    exact ⟨by omega, _, lnkRun_mem hk, by simp only [LNK.CV_CNT]; omega⟩
  split at h
  · obtain ⟨ho, h⟩ := Option.ite_none_right_eq_some.1 h
    rw [Option.some.injEq, Prod.mk.injEq] at h
    obtain ⟨k, hk, ha⟩ : ∃ k < 18, a = 0x10200000 + 0x10000 * k + 0x17C := ⟨(a - 0x10200000) / 0x10000, by omega, by omega⟩
    exact ⟨by omega, _, feRun_mem hk, by simp only [FE.CTL]; omega⟩
  split at h
  · obtain ⟨ho, h⟩ := Option.ite_none_right_eq_some.1 h
    rw [Option.some.injEq, Prod.mk.injEq] at h
    obtain ⟨k, hk, ha⟩ : ∃ k < 8, a = 0x10400000 + 0x100000 * k + 0x13C := ⟨(a - 0x10400000) / 0x100000, by omega, by omega⟩
    exact ⟨by omega, _, cluRun_mem hk, by simp only [CLU.CTL]; omega⟩
  · cases h

/-- What a clear register clears is a counter, but for two offsets of SCHED's run (R369). -/
theorem isCounter_of_cntClear {a first n i : Nat} (h : cntClear a = some (first, n)) (hi : i < n)
    (hsched : first + 4 * i ∉ [0x100301B8, 0x100301BC]) : isCounter (first + 4 * i) = true := by
  obtain ⟨-, r, hr, hlo, hhi⟩ := run_of_cntClear h
  have hhas : counterRuns.any (fun c => c.has (first + 4 * i)) = true :=
    List.any_eq_true.2 ⟨r, hr, by simp only [CounterRun.has, Bool.and_eq_true, decide_eq_true_eq]; omega⟩
  simp only [List.mem_cons, List.not_mem_nil, or_false, not_or] at hsched
  simp [isCounter, hhas, hsched]

/-- PWR.DIP_DUR, which PWR.CNT_CLR clears besides the counters, is none of them. -/
theorem isCounter_dipDur : isCounter PWR.DIP_DUR = false := by decide +kernel

/-- A write of a clear register clears its counters, and PWR.CNT_CLR may clear the duration of the last dip (R12, R523). -/
theorem State.regWrite_clear {a : Nat} {c : Nat × Nat} (h : cntClear a = some c) (s : State) (m : Master) (v : Nat) :
    s.regWrite m a v = (s.clearCounters c v).when (a == PWR.CNT_CLR && bitOf v 9) (·.putF PWR.DIP_DUR 16 16 0) := by
  simp only [State.regWrite, h, State.when_eq, Bool.and_eq_true, beq_iff_eq]

theorem State.rd_when_putF_ne (s : State) (c : Bool) {a b : Nat} (lo w v : Nat) (h : b ≠ a) :
    (s.when c (·.putF a lo w v)).rd b = s.rd b := by cases c <;> simp [State.rd_putF_ne _ _ _ _ h]

/-- The clear comes first: a counter cleared and counted reads 1. -/
theorem sat32_clear (x : Nat) (c e : Bool) :
    sat32 (if c then 0 else x) (if e then 1 else 0) = if c then (if e then 1 else 0) else sat32 x (if e then 1 else 0) := by
  cases c <;> cases e <;> simp [sat32]

theorem gives_counterClear {m : Master} {addr v ev : Word} {s t : State} {c : Nat × Nat} {P : State → Prop} (ha : addr.toNat % 4 = 0)
    (hc : cntClear addr.toNat = some c) (hb : s.busWrite m addr.toNat v.toNat = (true, t))
    (h : P ((t.countEach c.1 c.2 (fun i => bitOf ev.toNat i && isCounter (c.1 + 4 * i))).answer 0 [])) :
    Gives (.counterClear m addr v ev) s P := by
  refine ⟨_, ?_, h⟩
  have hword : addr.toNat / 4 * 4 = addr.toNat := by omega
  show execCounterClear m addr v ev s = _
  simp only [execCounterClear, hb, hword, hc, if_true, State.countEach]

/-! ### The counters of a queue (R170) -/

theorem gives_counterClear_queue {m : Master} {addr v ev : Word} {s t : State} {P : State → Prop} (ha : addr.toNat = CFS.Q_CNT_CLR)
    (hb : s.busWrite m CFS.Q_CNT_CLR v.toNat = (true, t)) (h : P ((t.queueCntEvents v.toNat ev.toNat).answer 0 [])) :
    Gives (.counterClear m addr v ev) s P := by
  refine ⟨_, ?_, h⟩
  have hword : CFS.Q_CNT_CLR / 4 * 4 = CFS.Q_CNT_CLR := rfl
  have hnone : cntClear CFS.Q_CNT_CLR = none := rfl
  show execCounterClear m addr v ev s = _
  simp only [execCounterClear, ha, hb, hword, hnone, beq_self_eq_true, State.when_true, if_true]

/-- A write of Q_CNT_CLR acts on the two counters of the queue it names. -/
theorem State.queueCntClear_eq (s : State) (v : Nat) : s.queueCntClear v =
    (s.when (bitOf v 16) (·.wr (CFS.Q_DROP_CNT (v % 1024)) 0)).when (bitOf v 17) (·.modQ (v % 1024) (fun x => { x with xcnt := 0 })) := by
  have hq : fld v 0 10 = v % 1024 := by simp [fld]
  rw [← hq]
  rfl

theorem State.queueCntEvents_eq (s : State) (v ev : Nat) : s.queueCntEvents v ev =
    (s.when (bitOf ev 16) (·.inc (CFS.Q_DROP_CNT (v % 1024)))).when (bitOf ev 17)
      (·.modQ (v % 1024) (fun x => { x with xcnt := min 255 (x.xcnt + 1) })) := by
  have hq : fld v 0 10 = v % 1024 := by simp [fld]
  rw [← hq]
  rfl

theorem State.rd_when (s : State) (c : Bool) (f : State → State) (b : Nat) :
    (s.when c f).rd b = if c then (f s).rd b else s.rd b := by cases c <;> rfl

@[simp] theorem State.q_when_wr (s : State) (c : Bool) (a v q : Nat) : (s.when c (·.wr a v)).q q = s.q q := by cases c <;> rfl

@[simp] theorem State.q_when_inc (s : State) (c : Bool) (a q : Nat) : (s.when c (·.inc a)).q q = s.q q := by cases c <;> rfl

theorem still_when_wr {s t : State} (c : Bool) (a v : Nat) (h : Still s t) : Still s (t.when c (·.wr a v)) :=
  State.when_keeps h (fun _ => still_wr a v)

/-! ### The statements -/

/-- A write of a clear register of counters. -/
theorem gives_counterClear_run {s : State} {m : Master} {addr v ev : Word} {first n : Nat} (ha : addr.toNat % 4 = 0)
    (hs : Served s addr.toNat) (hc : cntClear addr.toNat = some (first, n)) :
    Gives (.counterClear m addr v ev) s (fun t =>
      (∀ i, i < n → first + 4 * i ∉ [0x100301B8, 0x100301BC] → t.rd (first + 4 * i) =
        if wbit v i then (if wbit ev i then 1 else 0) else sat32 (s.rd (first + 4 * i)) (if wbit ev i then 1 else 0)) ∧
      (∀ b, (∀ i, i < n → b ≠ first + 4 * i) → b ≠ PWR.DIP_DUR → t.rd b = s.rd b) ∧ Still s t) := by
  obtain ⟨hwin, -⟩ := run_of_cntClear hc
  refine gives_counterClear ha hc (State.busWrite_of_served m v.toNat ha hwin hs) ?_
  rw [State.regWrite_clear hc]
  refine ⟨fun i hi hsched => ?_, fun b hb hdip => ?_, ?_⟩
  · have hcnt := isCounter_of_cntClear hc hi hsched
    have hdip : first + 4 * i ≠ PWR.DIP_DUR := fun h => by
      rw [h, isCounter_dipDur] at hcnt
      exact absurd hcnt (by decide)
    rw [State.rd_answer, State.rd_countEach _ _ _ _ hi, State.rd_semWrite, State.rd_when_putF_ne _ _ _ _ _ hdip,
      State.rd_clearCounters _ _ _ _ hi, hcnt, Bool.and_true, bitOf_toNat, bitOf_toNat, sat32_clear]
  · rw [State.rd_answer, State.rd_countEach_ne _ _ _ _ hb, State.rd_semWrite, State.rd_when_putF_ne _ _ _ _ _ hdip,
      State.rd_clearCounters_ne _ _ _ _ hb]
  · exact still_answer _ _ (still_countEach _ _ _ (still_semWrite _ _
      (State.when_keeps (still_clearCounters _ _ (still_refl s)) (fun _ => still_wr _ _))))

/-- A write of Q_CNT_CLR. -/
theorem gives_counterClear_queueCounters {s : State} {m : Master} {addr v ev : Word} (ha : addr.toNat = CFS.Q_CNT_CLR)
    (hs : Served s CFS.Q_CNT_CLR) :
    Gives (.counterClear m addr v ev) s (fun t =>
      let q := v.toNat % 1024
      t.rd (CFS.Q_DROP_CNT q) =
        (if wbit v 16 then (if wbit ev 16 then 1 else 0) else sat32 (s.rd (CFS.Q_DROP_CNT q)) (if wbit ev 16 then 1 else 0)) ∧
      (t.q q).xcnt = (if wbit v 17 then (if wbit ev 17 then 1 else 0) else if wbit ev 17 then min 255 ((s.q q).xcnt + 1) else (s.q q).xcnt) ∧
      OnlyRegs [CFS.Q_DROP_CNT q] s t ∧ (∀ r, r ≠ q → t.q r = s.q r) ∧ Still s t) := by
  have hreg : s.regWrite m CFS.Q_CNT_CLR v.toNat = s.queueCntClear v.toNat := rfl
  refine gives_counterClear_queue ha (State.busWrite_of_served m v.toNat rfl rfl hs) ?_
  rw [hreg, State.queueCntClear_eq, State.queueCntEvents_eq]
  generalize v.toNat % 1024 = q
  refine ⟨?_, ?_, fun b hb => ?_, fun r hr => ?_, ?_⟩
  · have hlt := s.rd_lt (CFS.Q_DROP_CNT q)
    rw [← sat32_clear]
    simp only [State.rd_answer, State.rd_modQ, State.rd_when, State.rd_inc_self, State.rd_semWrite, State.rd_wr_self, bitOf_toNat]
    cases wbit v 16 <;> cases wbit ev 16 <;> simp [sat32]
    omega
  · simp only [State.q_answer, State.q_when_modQ_self, State.q_when_inc, State.q_semWrite, State.q_when_wr, bitOf_toNat]
    cases wbit v 17 <;> cases wbit ev 17 <;> simp
  · have hne : b ≠ CFS.Q_DROP_CNT q := by simpa using hb
    simp [State.rd_when, State.rd_inc_ne _ hne, State.rd_wr_ne _ _ hne]
  · simp [State.q_when_modQ_ne _ _ _ hr]
  · exact still_answer _ _ (still_when_modQ _ _ _ (still_when_wr _ _ _ (still_semWrite _ _
      (still_when_modQ _ _ _ (still_when_wr _ _ _ (still_refl s))))))

end Sys2Proof.Machine

namespace Sys2Proof

open Sys2Proof.Machine

/-- Settles O6: the counters are cleared by the bus write, and count their events after it. -/
theorem counterClearThenEvent : Obligations.CounterClearThenEvent :=
  fun _ _ _ _ _ ha hs => ⟨fun _ _ => gives_counterClear_run ha hs, fun hq => gives_counterClear_queueCounters hq (hq ▸ hs)⟩

end Sys2Proof
end

section
/-! PROOFS. Accesses to a block agent in a powered-down domain (R27). -/

namespace Sys2Proof.Machine

/-! ### What the access counts and leaves -/

@[simp] theorem State.rd_offAccess_cnt (s : State) :
    s.offAccess.rd SYS.OFF_ACCESS_CNT = sat32 (s.rd SYS.OFF_ACCESS_CNT) 1 := by
  have hne : SYS.OFF_ACCESS_CNT ≠ SYS.EVT := by decide
  rw [State.offAccess, State.rd_setBit_ne _ _ hne, State.rd_inc_self, sat32]

@[simp] theorem State.bit_offAccess_event (s : State) : s.offAccess.bit SYS.EVT 1 = true :=
  State.bit_setBit_self _ _ _ (by decide)

theorem onlyRegs_offAccess (s : State) : OnlyRegs [SYS.OFF_ACCESS_CNT, SYS.EVT] s s.offAccess := fun b hb => by
  simp only [List.mem_cons, List.not_mem_nil, or_false, not_or] at hb
  obtain ⟨hcnt, hevt⟩ := hb
  rw [State.offAccess, State.rd_setBit_ne _ _ hevt, State.rd_inc_ne _ hcnt]

theorem still_offAccess {s t : State} (h : Still s t) : Still s t.offAccess := still_wr _ _ (still_wr _ _ h)

/-- The count and the event are registers: nothing else of the state moves. -/
theorem State.offAccess_eq (s : State) : ∃ r, s.offAccess = { s with regs := r } := ⟨_, rfl⟩

/-! ### The access on the control bus -/

/-- A powered CTRL domain, and at the word of `addr` a block window whose domain is powered down. -/
def OffDomain (s : State) (addr : Nat) : Prop :=
  s.domOn 1 = true ∧ ∃ d, windowDomain (addr / 4 * 4) = some d ∧ s.domOn d = false

/-- Such a word is on the map, in a block window: neither in control RAM nor in the aperture (R551). -/
theorem OffDomain.inWindow {s : State} {addr : Nat} (h : OffDomain s addr) :
    busMapped (addr / 4 * 4) = true ∧ ¬addr / 4 * 4 < 0x40000 ∧ ¬0x20000000 ≤ addr / 4 * 4 ∧
      s.domOn ((windowDomain (addr / 4 * 4)).getD 1) = false := by
  obtain ⟨-, d, hd, hoff⟩ := h
  have hwin : (windowDomain (addr / 4 * 4)).isSome = true := by rw [hd]; rfl
  have hrange := (windowDomain_isSome_iff _).1 hwin
  exact ⟨by simp [busMapped, hwin], by omega, by omega, by rw [hd]; exact hoff⟩

/-- A read completes without a bus error, returns 0 and is counted. -/
theorem State.busRead_of_offDomain {s : State} {addr : Nat} (m : Master) (h : OffDomain s addr) :
    s.busRead m addr = (some 0, s.offAccess) := by
  obtain ⟨hmap, hram, haperture, hoff⟩ := h.inWindow
  simp only [State.busRead, h.1, hmap, hram, haperture, hoff, Bool.not_true, Bool.not_false, Bool.false_eq_true, if_true, if_false]

/-- A write completes without a bus error and is counted; its word reaches no block. -/
theorem State.busWrite_of_offDomain {s : State} {addr : Nat} (m : Master) (v : Nat) (h : OffDomain s addr) :
    s.busWrite m addr v = (true, s.offAccess.semWrite m (addr / 4 * 4)) := by
  obtain ⟨hmap, hram, haperture, hoff⟩ := h.inWindow
  simp only [State.busWrite, State.storeWord, State.served, h.1, hmap, hram, haperture, hoff, Bool.not_true, Bool.not_false,
    Bool.false_eq_true, if_true, if_false]

/-! ### The command -/

theorem gives_offDomainRead {s : State} {m : Master} {addr : Word} {P : State → Prop} (h : OffDomain s addr.toNat)
    (hP : P (s.offAccess.answer 0 [0])) : Gives (.offDomainAccess m addr none) s P := by
  refine ⟨s.offAccess.answer 0 [0], ?_, hP⟩
  show execOffDomainAccess m addr none s = _
  simp only [execOffDomainAccess, State.busRead_of_offDomain m h]
  rfl

theorem gives_offDomainWrite {s : State} {m : Master} {addr v : Word} {P : State → Prop} (h : OffDomain s addr.toNat)
    (hP : P ((s.offAccess.semWrite m (addr.toNat / 4 * 4)).answer 0 [])) : Gives (.offDomainAccess m addr (some v)) s P := by
  refine ⟨_, ?_, hP⟩
  show execOffDomainAccess m addr (some v) s = _
  simp only [execOffDomainAccess, State.busWrite_of_offDomain m v.toNat h, if_true]

end Sys2Proof.Machine

namespace Sys2Proof

open Sys2Proof.Machine

/-- Settles O7: the bus counts the access in place of the block's answer, and beyond that a write touches the semaphores alone. -/
theorem poweredDownBlockReadsZero : Obligations.PoweredDownBlockReadsZero := by
  intro s m addr v d hd hctrl hoff
  have hdown : OffDomain s addr.toNat := ⟨hctrl, d, hd, hoff⟩
  constructor
  · refine gives_offDomainRead hdown ⟨by simp, by simp, by simp, fun b hb => ?_, ?_⟩
    · rw [State.rd_answer, onlyRegs_offAccess s b hb]
    · exact still_answer _ _ (still_offAccess (still_refl s))
  · refine gives_offDomainWrite hdown ⟨by simp, by simp, by simp, fun b hb => ?_, ?_, ?_⟩
    · rw [State.rd_answer, State.rd_semWrite, onlyRegs_offAccess s b hb]
    · exact still_answer _ _ (still_semWrite _ _ (still_offAccess (still_refl s)))
    · obtain ⟨r, hr⟩ := s.offAccess_eq
      obtain ⟨dma, hdma⟩ := s.offAccess.semWrite_eq m (addr.toNat / 4 * 4)
      rw [hdma, hr]
      simp

end Sys2Proof
end

section
/-! PROOFS. What an operation on one front end leaves of the others, and what a counted deviation of it changes (R99 to R105, R360). -/

namespace Sys2Proof.Machine

/-! ### One front end changed -/

theorem Map.erase_insert {α : Type} (m : Map α) (k : Nat) (v : α) : Map.erase (Map.insert m k v) k = Map.erase m k := by
  induction m with
  | nil => simp [Map.insert, Map.erase]
  | cons p rest ih =>
    simp only [Map.erase] at ih
    simp only [Map.insert]
    split
    · simp [Map.erase]
    · split
      · next heq => simp [Map.erase, ← heq]
      · simp [Map.erase, List.filter_cons, ih]

/-- Of two values set at one key the second stays. -/
theorem Map.set_set {α : Type} [DecidableEq α] (d : α) (m : Map α) (k : Nat) (v w : α) :
    Map.set d (Map.set d m k v) k w = Map.set d m k w := by
  have herase : Map.erase (Map.set d m k v) k = Map.erase m k := by
    unfold Map.set
    split
    · simp [Map.erase]
    · rw [Map.erase_insert]; simp [Map.erase]
  show (if w = d then Map.erase (Map.set d m k v) k else Map.insert (Map.erase (Map.set d m k v) k) k w) = _
  rw [herase, Map.set]

theorem State.modFe_modFe (s : State) (n : Nat) (f g : FeState → FeState) :
    (s.modFe n f).modFe n g = s.modFe n (fun x => g (f x)) := by
  simp [State.modFe, State.setFe, State.fes, Map.set_set]

/-- Two changes that agree on the front end as it stands. -/
theorem State.modFe_congr {s : State} {n : Nat} {f g : FeState → FeState} (h : f (s.fes n) = g (s.fes n)) :
    s.modFe n f = s.modFe n g := by
  rw [State.modFe, State.modFe, h]

theorem State.fes_modFe_ne (s : State) {n m : Nat} (f : FeState → FeState) (h : m ≠ n) : (s.modFe n f).fes m = s.fes m :=
  State.fes_setFe_ne s _ h

@[simp] theorem State.rd_modFe (s : State) (n : Nat) (f : FeState → FeState) (b : Nat) : (s.modFe n f).rd b = s.rd b :=
  State.rd_congr (State.modFe_regs s n f) b
@[simp] theorem State.bit_modFe (s : State) (n : Nat) (f : FeState → FeState) (b i : Nat) : (s.modFe n f).bit b i = s.bit b i := by
  simp [State.bit]
@[simp] theorem State.getF_modFe (s : State) (n : Nat) (f : FeState → FeState) (b lo w : Nat) :
    (s.modFe n f).getF b lo w = s.getF b lo w := by simp [State.getF]
@[simp] theorem State.underTest_modFe (s : State) (n : Nat) (f : FeState → FeState) (u : Nat) :
    (s.modFe n f).underTest u = s.underTest u := by simp [State.underTest]

/-! What a write of a register leaves of the front ends. -/

@[simp] theorem State.fes_wr (s : State) (a v n : Nat) : (s.wr a v).fes n = s.fes n := by simp [State.fes]
@[simp] theorem State.fes_setBit (s : State) (a i n : Nat) : (s.setBit a i).fes n = s.fes n := by simp [State.fes]
@[simp] theorem State.fes_inc (s : State) (a n : Nat) : (s.inc a).fes n = s.fes n := by simp [State.fes]
@[simp] theorem State.fes_incBy (s : State) (a k n : Nat) : (s.incBy a k).fes n = s.fes n := by simp [State.fes]

theorem State.fes_when (s : State) (c : Bool) (f : State → State) (n : Nat) :
    (s.when c f).fes n = if c then (f s).fes n else s.fes n := by cases c <;> rfl

/-- The open frame of front end `n` is `f`. -/
def State.setFrame (s : State) (n : Nat) (f : FeFrame) : State := s.modFe n (fun x => { x with frame := some f })

/-- A change of the open frame, where one is open. -/
theorem State.modFrame_of_frame {s : State} {n : Nat} {f : FeFrame} (hf : (s.fes n).frame = some f) (g : FeFrame → FeFrame) :
    s.modFrame n g = s.setFrame n (g f) := by
  simp [State.modFrame, State.setFrame, State.modFe, hf]

@[simp] theorem State.fes_setFrame_self (s : State) (n : Nat) (f : FeFrame) :
    (s.setFrame n f).fes n = { s.fes n with frame := some f } := State.fes_modFe_self s n _

@[simp] theorem State.rd_setFrame (s : State) (n : Nat) (f : FeFrame) (b : Nat) : (s.setFrame n f).rd b = s.rd b := State.rd_modFe s n _ b
@[simp] theorem State.setFrame_regs (s : State) (n : Nat) (f : FeFrame) : (s.setFrame n f).regs = s.regs := State.modFe_regs s n _
@[simp] theorem State.setFrame_cfs (s : State) (n : Nat) (f : FeFrame) : (s.setFrame n f).cfs = s.cfs := State.modFe_cfs s n _

/-! ### The other front ends -/

theorem otherFes_refl (n : Nat) (s : State) : OtherFes n s s := ⟨fun _ _ => rfl, rfl⟩

theorem otherFes_trans {n : Nat} {s t u : State} (h : OtherFes n s t) (h' : OtherFes n t u) : OtherFes n s u :=
  ⟨fun m hm => (h'.1 m hm).trans (h.1 m hm), h'.2.trans h.2⟩

/-- What changes neither the front ends nor the links. -/
theorem otherFes_of_eq {s t : State} (n : Nat) (hfe : t.fe = s.fe) (hlink : t.link = s.link) : OtherFes n s t :=
  ⟨fun m _ => by simp [State.fes, hfe], hlink⟩

theorem otherFes_wr {n : Nat} {s t : State} (a v : Nat) (h : OtherFes n s t) : OtherFes n s (t.wr a v) :=
  otherFes_trans h (otherFes_of_eq n (by simp) (by simp))

theorem otherFes_modFe (s : State) (n : Nat) (f : FeState → FeState) : OtherFes n s (s.modFe n f) :=
  ⟨fun _ hm => State.fes_modFe_ne s f hm, State.modFe_link s n f⟩

theorem otherFes_setFrame (s : State) (n : Nat) (f : FeFrame) : OtherFes n s (s.setFrame n f) := otherFes_modFe s n _

/-! ### Counted deviations (R360) -/

@[simp] theorem State.feDev_fe (s : State) (n cnt : Nat) : (s.feDev n cnt).fe = s.fe := by simp [State.feDev]
@[simp] theorem State.feDev_link (s : State) (n cnt : Nat) : (s.feDev n cnt).link = s.link := by simp [State.feDev]
@[simp] theorem State.feDev_cfs (s : State) (n cnt : Nat) : (s.feDev n cnt).cfs = s.cfs := by simp [State.feDev]
@[simp] theorem State.fes_feDev (s : State) (n cnt m : Nat) : (s.feDev n cnt).fes m = s.fes m := by simp [State.fes]
@[simp] theorem State.feFsErr_fe (s : State) (n : Nat) : (s.feFsErr n).fe = s.fe := by simp [State.feFsErr]
@[simp] theorem State.fes_feFsErr (s : State) (n m : Nat) : (s.feFsErr n).fes m = s.fes m := by simp [State.fes]

/-- The registers of a deviation of sequencer `i`. -/
theorem onlyRegs_dev (s : State) (i : Nat) : OnlyRegs [SCHED.DEV_CNT i, SCHED.EVT, SCHED.LAST_DEV] s (s.dev i) := fun b hb => by
  simp only [List.mem_cons, List.not_mem_nil, or_false, not_or] at hb
  obtain ⟨hcnt, hevt, hlast⟩ := hb
  rw [State.dev, State.rd_wr_ne _ _ hlast, State.rd_setBit_ne _ _ hevt, State.rd_inc_ne _ hcnt]

theorem State.rd_dev_cnt (s : State) {i : Nat} (hi : i < 64) : (s.dev i).rd (SCHED.DEV_CNT i) = sat32 (s.rd (SCHED.DEV_CNT i)) 1 := by
  have hlast : SCHED.DEV_CNT i ≠ SCHED.LAST_DEV := by simp only [SCHED.DEV_CNT, SCHED.LAST_DEV]; omega
  have hevt : SCHED.DEV_CNT i ≠ SCHED.EVT := by simp only [SCHED.DEV_CNT, SCHED.EVT]; omega
  rw [State.dev, State.rd_wr_ne _ _ hlast, State.rd_setBit_ne _ _ hevt, State.rd_inc_self, sat32]

theorem State.bit_dev_event (s : State) (i : Nat) : (s.dev i).bit SCHED.EVT 5 = true := by
  have hlast : SCHED.EVT ≠ SCHED.LAST_DEV := by decide
  rw [State.dev, State.bit, State.rd_wr_ne _ _ hlast, ← State.bit, State.bit_setBit_self _ _ _ (by decide)]

/-- A front-end event that is a deviation counts in its own counter and in that of its sequencer. -/
theorem onlyRegs_feDev (s : State) (n cnt : Nat) :
    OnlyRegs [cnt, SCHED.DEV_CNT (16 + n), SCHED.EVT, SCHED.LAST_DEV] s (s.feDev n cnt) := fun b hb => by
  rw [List.mem_cons, not_or] at hb
  obtain ⟨hcnt, hdev⟩ := hb
  rw [State.feDev, onlyRegs_dev _ _ b hdev, State.rd_inc_ne _ hcnt]

end Sys2Proof.Machine
end

section
/-! PROOFS. The deadlines of lines and the write times of rows (R100, R105, R121, R123). -/

namespace Sys2Proof.Machine

/-! ### The deadline of a line -/

theorem exec_lineDeadline (s : State) (n : Fin 18) (e : Fin 3) (l : Nat) :
    exec (.lineDeadline n e l) s = .next (s.feDeadline n e l) := rfl

theorem State.feDeadline_eq_self {s : State} {n : Nat} (h : (s.fes n).frame = none ∨ s.underTest (8 + n) = true) (e l : Nat) :
    s.feDeadline n e l = s := by
  have hnone : (s.fes n).frame.filter (fun _ => !s.underTest (8 + n)) = none := by
    rcases h with h | h <;> simp [h]
  simp only [State.feDeadline, hnone]

/-- The deadline of a line of the open frame (R100): not yet due, no line of the frame, met a second time, or the line is past it. -/
theorem State.feDeadline_of_frame {s : State} {n : Nat} {f : FeFrame} (hf : (s.fes n).frame = some f)
    (ht : s.underTest (8 + n) = false) (e l : Nat) :
    s.feDeadline n e l =
      if f.nexp ≤ e ∨ f.height ≤ l ∨ s.now < f.base + f.entry.deadline e l ∨ (Map.get {} f.lines (65536 * e + l)).dl = true then s
      else (s.setFrame n (afterDeadline f (s.getF (FE.FILL n) 0 24) e l)).when
        (!(Map.get {} f.lines (65536 * e + l)).got && !f.absent) (·.feDev n (FE.MISSING_LINE_CNT n)) := by
  have hopen : (s.fes n).frame.filter (fun _ => !s.underTest (8 + n)) = some f := by simp [hf, ht]
  simp only [State.feDeadline, hopen, State.modFrame_of_frame hf, afterDeadline, State.fillLine]
  by_cases hnot : f.nexp ≤ e ∨ f.height ≤ l ∨ s.now < f.base + f.entry.deadline e l
  · have hstay : f.nexp ≤ e ∨ f.height ≤ l ∨ s.now < f.base + f.entry.deadline e l ∨ (Map.get {} f.lines (65536 * e + l)).dl = true :=
      hnot.imp_right (fun h => h.imp_right .inl)
    rw [if_pos hnot, if_pos hstay]
  · cases hdl : (Map.get {} f.lines (65536 * e + l)).dl
    · have hdue : ¬(f.nexp ≤ e ∨ f.height ≤ l ∨ s.now < f.base + f.entry.deadline e l ∨ false = true) := by simpa using hnot
      rw [if_neg hnot, if_neg hdue]
      cases (Map.get {} f.lines (65536 * e + l)).got
      · simp only [Bool.false_eq_true, if_false, Bool.not_false, Bool.true_and]
      · simp only [Bool.false_eq_true, if_false, if_true, Bool.not_true, Bool.false_and, State.when_false]
    · simp only [if_neg hnot, or_true, if_true]

/-- The counters of a line that is missing (R100, R360). -/
theorem feDev_missing (s : State) (n : Fin 18) :
    (s.feDev n (FE.MISSING_LINE_CNT n)).rd (FE.MISSING_LINE_CNT n) = sat32 (s.rd (FE.MISSING_LINE_CNT n)) 1 ∧
    (s.feDev n (FE.MISSING_LINE_CNT n)).rd (SCHED.DEV_CNT (16 + n)) = sat32 (s.rd (SCHED.DEV_CNT (16 + n))) 1 := by
  have hlast : FE.MISSING_LINE_CNT n ∉ [SCHED.DEV_CNT (16 + n), SCHED.EVT, SCHED.LAST_DEV] := by
    simp only [List.mem_cons, List.not_mem_nil, or_false, FE.MISSING_LINE_CNT, SCHED.DEV_CNT, SCHED.EVT, SCHED.LAST_DEV]
    omega
  have hne : SCHED.DEV_CNT (16 + n) ≠ FE.MISSING_LINE_CNT n := fun h => hlast (by simp [h])
  rw [State.feDev, onlyRegs_dev _ _ _ hlast, State.rd_inc_self, State.rd_dev_cnt _ (by omega), State.rd_inc_ne _ hne]
  exact ⟨rfl, rfl⟩

end Sys2Proof.Machine

namespace Sys2Proof

open Sys2Proof.Machine

theorem lineDeadline : LineDeadline := by
  intro s n e l
  refine ⟨fun h => ?_, fun f hf ht => ⟨fun h => ?_, fun he hl hdue hdl => ?_⟩⟩
  · rw [exec_lineDeadline, State.feDeadline_eq_self h]
  · rw [exec_lineDeadline, State.feDeadline_of_frame hf ht, if_pos h]
  · have hpast : ¬(f.nexp ≤ e ∨ f.height ≤ l ∨ s.now < f.base + f.entry.deadline e l ∨
        (Map.get {} f.lines (65536 * e.val + l)).dl = true) := by
      rw [hdl]; simp; omega
    refine ⟨_, exec_lineDeadline s n e l, ?_⟩
    rw [State.feDeadline_of_frame hf ht, if_neg hpast]
    generalize afterDeadline f (s.getF (FE.FILL n) 0 24) e l = g
    have hother := otherFes_setFrame s n g
    cases hmiss : !(Map.get {} f.lines (65536 * e.val + l)).got && !f.absent
    case false =>
      rw [State.when_false]
      refine ⟨by simp, hother, by simp, by simp, fun hgot habs => ?_⟩
      rw [hgot, habs] at hmiss
      contradiction
    case true =>
      simp only [Bool.and_eq_true, Bool.not_eq_true'] at hmiss
      obtain ⟨hgot, habs⟩ := hmiss
      rw [State.when_true]
      obtain ⟨hmissing, hdev⟩ := feDev_missing (s.setFrame n g) n
      have honly := onlyRegs_feDev (s.setFrame n g) n (FE.MISSING_LINE_CNT n)
      simp only [OnlyRegs, State.rd_setFrame] at hmissing hdev honly
      refine ⟨by simp, otherFes_trans hother (otherFes_of_eq _ (by simp) (by simp)), by simp, by simp [hgot, habs],
        fun _ _ => ⟨hmissing, hdev, State.bit_dev_event _ _, honly⟩⟩

end Sys2Proof

namespace Sys2Proof.Machine

/-! ### The write time of a row -/

theorem exec_lineWriteSlot (s : State) (n : Fin 18) (r : Nat) : exec (.lineWriteSlot n r) s = .next (s.feWriteSlot n r) := rfl

/-- Row `r` leaves the pipeline, but for its item: its counters move and the space of its lines is free (R110, R113, R123). -/
def State.rowDone (s : State) (n : Nat) (r : FeRow) : State :=
  ((s.when r.part (·.inc (FE.MERGE_PART_CNT n))).incBy (FE.DPC_DYN_CNT n) r.dyn).modFe n
    (fun x => { x with buf := bufAfterRow x.buf r.num r.row })

theorem State.fes_rowDone (s : State) (n : Nat) (r : FeRow) :
    (s.rowDone n r).fes n = { s.fes n with buf := bufAfterRow (s.fes n).buf r.num r.row } := by
  simp [State.rowDone, State.fes_when]

/-- The row that is done, and its item to the line queue (R121). -/
theorem State.feEmitRow_eq (s : State) (n : Nat) (r : FeRow) :
    s.feEmitRow n r = match r.item with
      | none => s.rowDone n r
      | some bs => (s.rowDone n r).push (s.fes n).lineQ n bs := by
  have hq : ((s.rowDone n r).fes n).lineQ = (s.fes n).lineQ := by
    rw [State.fes_rowDone]
  rw [← hq]
  rfl

@[simp] theorem State.rowDone_cfs (s : State) (n : Nat) (r : FeRow) : (s.rowDone n r).cfs = s.cfs := by
  cases hp : r.part <;> simp [State.rowDone, hp]

theorem otherFes_rowDone (s : State) (n : Nat) (r : FeRow) : OtherFes n s (s.rowDone n r) := by
  refine otherFes_trans (otherFes_of_eq n ?_ ?_) (otherFes_modFe _ _ _) <;> cases hp : r.part <;> simp

theorem onlyRegs_rowDone (s : State) (n : Nat) (r : FeRow) :
    OnlyRegs [FE.MERGE_PART_CNT n, FE.DPC_DYN_CNT n] s (s.rowDone n r) := fun b hb => by
  simp only [List.mem_cons, List.not_mem_nil, or_false, not_or] at hb
  obtain ⟨hpart, hdyn⟩ := hb
  rw [State.rowDone, State.rd_modFe, State.rd_incBy_ne _ _ hdyn, State.rd_when, State.rd_inc_ne _ hpart, ite_self]

theorem State.rd_rowDone_part (s : State) (n : Nat) (r : FeRow) :
    (s.rowDone n r).rd (FE.MERGE_PART_CNT n) = sat32 (s.rd (FE.MERGE_PART_CNT n)) (if r.part then 1 else 0) := by
  have hne : FE.MERGE_PART_CNT n ≠ FE.DPC_DYN_CNT n := by simp only [FE.MERGE_PART_CNT, FE.DPC_DYN_CNT]; omega
  have hlt := s.rd_lt (FE.MERGE_PART_CNT n)
  rw [State.rowDone, State.rd_modFe, State.rd_incBy_ne _ _ hne, State.rd_when, State.rd_inc_self]
  cases r.part
  · simp [sat32]; omega
  · rfl

theorem State.rd_rowDone_dyn (s : State) (n : Nat) (r : FeRow) :
    (s.rowDone n r).rd (FE.DPC_DYN_CNT n) = sat32 (s.rd (FE.DPC_DYN_CNT n)) r.dyn := by
  have hne : FE.DPC_DYN_CNT n ≠ FE.MERGE_PART_CNT n := by simp only [FE.MERGE_PART_CNT, FE.DPC_DYN_CNT]; omega
  rw [State.rowDone, State.rd_modFe, State.rd_incBy_self, State.rd_when, State.rd_inc_ne _ hne, ite_self, sat32]

end Sys2Proof.Machine

namespace Sys2Proof

open Sys2Proof.Machine

/-- The write of a row at a front end that the write time has changed by `g`, which leaves its queue. -/
theorem feEmitRow_writes (s : State) (n : Nat) (g : FeState → FeState) (hq : (g (s.fes n)).lineQ = (s.fes n).lineQ) (r : FeRow) :
    ∃ u : State, u.cfs = s.cfs ∧ OtherFes n s u ∧ OnlyRegs [FE.MERGE_PART_CNT n, FE.DPC_DYN_CNT n] s u ∧
      u.rd (FE.MERGE_PART_CNT n) = sat32 (s.rd (FE.MERGE_PART_CNT n)) (if r.part then 1 else 0) ∧
      u.rd (FE.DPC_DYN_CNT n) = sat32 (s.rd (FE.DPC_DYN_CNT n)) r.dyn ∧
      u.fes n = { g (s.fes n) with buf := bufAfterRow (g (s.fes n)).buf r.num r.row } ∧
      (s.modFe n g).feEmitRow n r = match r.item with
        | none => u
        | some bs => u.push (s.fes n).lineQ n bs := by
  refine ⟨(s.modFe n g).rowDone n r, by simp, otherFes_trans (otherFes_modFe s n g) (otherFes_rowDone _ n r),
    onlyRegs_rowDone (s.modFe n g) n r, State.rd_rowDone_part _ n r, State.rd_rowDone_dyn _ n r, ?_, ?_⟩
  · rw [State.fes_rowDone, State.fes_modFe_self]
  · rw [State.feEmitRow_eq, State.fes_modFe_self, hq]

theorem lineWriteSlot : LineWriteSlot := by
  intro s n r
  refine ⟨fun ht => ?tested, fun ht x hx => ⟨fun hdue => ?early, fun hdue => ?kept⟩, fun ht hx => ⟨fun hf => ?closed, fun f hf =>
    ⟨fun hnot => ?openEarly, fun hr hdue => ?opened⟩⟩⟩
  case tested => simp only [exec_lineWriteSlot, State.feWriteSlot, ht, if_true]
  case early => simp only [exec_lineWriteSlot, State.feWriteSlot, ht, hx, hdue, if_true, Bool.false_eq_true, if_false]
  case kept =>
    obtain ⟨u, hcfs, hother, honly, hpart, hdyn, hfes, hrow⟩ :=
      feEmitRow_writes s n (fun f => { f with rows := f.rows.eraseP (fun y => y.row == r) }) rfl x
    refine ⟨_, exec_lineWriteSlot s n r, u, hcfs, hother, honly, hpart, hdyn, hfes, ?_⟩
    simp only [State.feWriteSlot, ht, hx, Nat.not_lt.2 hdue, Bool.false_eq_true, if_false]
    exact hrow
  case closed => simp only [exec_lineWriteSlot, State.feWriteSlot, ht, hx, hf, Bool.false_eq_true, if_false]
  case openEarly => simp only [exec_lineWriteSlot, State.feWriteSlot, ht, hx, hf, Bool.false_eq_true, if_false, if_pos hnot]
  case opened =>
    obtain ⟨u, hcfs, hother, honly, -, -, hfes, hrow⟩ :=
      feEmitRow_writes s n (fun y => { y with frame := some { f with written := r + 1 } }) rfl (s.feRow n f (s.feStatic n) r)
    refine ⟨_, exec_lineWriteSlot s n r, u, hcfs, hother, honly, hfes, ?_⟩
    have hdue' : ¬(f.height ≤ r ∨ s.now < f.base + f.entry.writes r) := by omega
    simp only [State.feWriteSlot, ht, hx, hf, Bool.false_eq_true, if_false, if_neg hdue', State.modFrame_of_frame hf]
    exact hrow

/-- Settles O19: a deadline and a write time each change the front end's part of the state and the counters of what they met. -/
theorem lineDeadlineFills : Obligations.LineDeadlineFills := ⟨lineDeadline, lineWriteSlot⟩

end Sys2Proof
end

section
/-! PROOFS. The parallel ports (R89 to R94). -/

namespace Sys2Proof.Machine

/-! ### What the stream form of a port's input leaves of the port (R94, R99, R103) -/

/-- What a front end keeps of its parallel port: presence, frame, level of PP_VSYNC, run, count of runs, frame count. -/
def FeState.port (x : FeState) : Bool × Bool × Bool × Option (List Nat) × Nat × Nat :=
  (x.ppPresent, x.ppFrame, x.ppVs, x.ppOpen, x.ppRuns, x.ppFc)

/-- The port of front end `n`, the count of its sync errors and the other front ends are as they were. -/
structure PortKept (n : Nat) (s t : State) : Prop where
  port : (t.fes n).port = (s.fes n).port
  syncErrs : t.rd (FE.PP_SYNC_ERR_CNT n) = s.rd (FE.PP_SYNC_ERR_CNT n)
  others : OtherFes n s t

theorem FeState.port_inj {x y : FeState} : x.port = y.port ↔ x.ppPresent = y.ppPresent ∧ x.ppFrame = y.ppFrame ∧ x.ppVs = y.ppVs ∧
    x.ppOpen = y.ppOpen ∧ x.ppRuns = y.ppRuns ∧ x.ppFc = y.ppFc := by
  simp only [FeState.port, Prod.mk.injEq]

/-- No run has begun. -/
theorem PortKept.closed {n : Nat} {s t : State} (h : PortKept n s t) (hs : (s.fes n).ppOpen = none) : (t.fes n).ppOpen = none := by
  obtain ⟨-, -, -, hopen, -, -⟩ := FeState.port_inj.1 h.port
  rw [hopen, hs]

theorem portKept_refl (n : Nat) (s : State) : PortKept n s s := ⟨rfl, rfl, otherFes_refl n s⟩

theorem portKept_trans {n : Nat} {s t u : State} (h : PortKept n s t) (h' : PortKept n t u) : PortKept n s u :=
  ⟨h'.port.trans h.port, h'.syncErrs.trans h.syncErrs, otherFes_trans h.others h'.others⟩

theorem portKept_wr {n : Nat} {s t : State} {a : Nat} (v : Nat) (ha : a ≠ FE.PP_SYNC_ERR_CNT n) (h : PortKept n s t) :
    PortKept n s (t.wr a v) where
  port := by rw [State.fes_wr, h.port]
  syncErrs := by rw [State.rd_wr_ne _ _ ha.symm, h.syncErrs]
  others := otherFes_wr a v h.others

theorem portKept_modFe {n : Nat} {s t : State} {f : FeState → FeState} (hf : ∀ x, (f x).port = x.port) (h : PortKept n s t) :
    PortKept n s (t.modFe n f) where
  port := by rw [State.fes_modFe_self, hf, h.port]
  syncErrs := by rw [State.rd_modFe, h.syncErrs]
  others := otherFes_trans h.others (otherFes_modFe t n f)

theorem portKept_modFrame {n : Nat} {s t : State} (g : FeFrame → FeFrame) (h : PortKept n s t) : PortKept n s (t.modFrame n g) :=
  portKept_modFe (fun _ => rfl) h

theorem portKept_inc {n : Nat} {s t : State} {a : Nat} (ha : a ≠ FE.PP_SYNC_ERR_CNT n) (h : PortKept n s t) : PortKept n s (t.inc a) :=
  portKept_wr _ ha h

/-- An event of the front end. -/
theorem portKept_event {n : Nat} {s t : State} (i : Nat) (h : PortKept n s t) : PortKept n s (t.setBit (FE.EVT n) i) :=
  portKept_wr _ (by simp only [FE.EVT, FE.PP_SYNC_ERR_CNT]; omega) h

theorem portKept_feDev {n : Nat} {s t : State} {cnt : Nat} (hcnt : cnt ≠ FE.PP_SYNC_ERR_CNT n) (h : PortKept n s t) :
    PortKept n s (t.feDev n cnt) where
  port := by rw [State.fes_feDev, h.port]
  syncErrs := by
    have hdev : FE.PP_SYNC_ERR_CNT n ∉ [SCHED.DEV_CNT (16 + n), SCHED.EVT, SCHED.LAST_DEV] := by
      simp only [List.mem_cons, List.not_mem_nil, or_false, FE.PP_SYNC_ERR_CNT, SCHED.DEV_CNT, SCHED.EVT, SCHED.LAST_DEV]
      omega
    rw [State.feDev, onlyRegs_dev _ _ _ hdev, State.rd_inc_ne _ hcnt.symm, h.syncErrs]
  others := otherFes_trans h.others (otherFes_of_eq n (by simp) (by simp))

theorem portKept_feFsErr {n : Nat} {s t : State} (h : PortKept n s t) : PortKept n s (t.feFsErr n) :=
  portKept_event 5 (portKept_feDev (by simp only [FE.FS_ERR_CNT, FE.PP_SYNC_ERR_CNT]; omega) h)

/-- The counters of the acceptance table (R99) are not the count of sync errors. -/
theorem lineCnt_ne_syncErrCnt (n : Nat) : ∀ cnt ∈ [FE.STRAY_LINE_CNT n, FE.EXTRA_LINE_CNT n, FE.LINE_ERR_CNT n, FE.LATE_LINE_CNT n,
    FE.EARLY_DROP_CNT n, FE.SHORT_LINE_CNT n, FE.LONG_LINE_CNT n, FE.CRC_LINE_CNT n], cnt ≠ FE.PP_SYNC_ERR_CNT n := by
  simp only [List.forall_mem_cons, List.not_mem_nil, false_implies, implies_true, and_true, FE.STRAY_LINE_CNT, FE.EXTRA_LINE_CNT,
    FE.LINE_ERR_CNT, FE.LATE_LINE_CNT, FE.EARLY_DROP_CNT, FE.SHORT_LINE_CNT, FE.LONG_LINE_CNT, FE.CRC_LINE_CNT, FE.PP_SYNC_ERR_CNT]
  omega

theorem portKept_feAccept (s : State) (n e l : Nat) (f : FeFrame) (d : List Nat) (crc : Bool) :
    PortKept n s (s.feAccept n e l f d crc) := by
  have hcnt := lineCnt_ne_syncErrCnt n
  have hfs := State.when_keeps (c := !f.fs && !f.anyLine) (portKept_refl n s) fun _ => portKept_feFsErr
  unfold State.feAccept
  refine State.when_keeps ?_ fun _ => portKept_inc (hcnt _ (by simp))
  refine State.when_keeps ?_ fun _ => portKept_feDev (hcnt _ (by simp))
  refine State.when_keeps ?_ fun _ => portKept_feDev (hcnt _ (by simp))
  exact portKept_modFe (fun _ => rfl) (portKept_modFrame _ hfs)

/-- A video line, whatever the acceptance table makes of it (R99). -/
theorem portKept_feLine (s : State) (n e l : Nat) (d : List Nat) (crc : Bool) : PortKept n s (s.feLine n e l d crc) := by
  have hcnt := lineCnt_ne_syncErrCnt n
  have hs := portKept_refl n s
  unfold State.feLine
  split
  · exact hs
  · split
    · exact portKept_event 4 (portKept_inc (hcnt _ (by simp)) hs)
    · dsimp only
      split
      · exact hs
      split
      · exact portKept_modFrame _ (portKept_feDev (hcnt _ (by simp)) hs)
      split
      · exact portKept_inc (hcnt _ (by simp)) hs
      split
      · exact portKept_modFrame _ (portKept_feDev (hcnt _ (by simp)) hs)
      split
      · exact portKept_feDev (hcnt _ (by simp)) hs
      · exact portKept_feAccept s n e l _ d crc

theorem portKept_feFrameStart {s : State} {n : Nat} (ht : s.underTest (8 + n) = false) (fc : Nat) :
    PortKept n s (s.feFrameStart n fc) := by
  have hfc : PortKept n s ((s.wr (FE.SENSOR_FC n) (fc % 65536)).modFe n (fun x => { x with lastFc := some (fc % 65536) })) :=
    portKept_modFe (fun _ => rfl) (portKept_wr _ (by simp only [FE.SENSOR_FC, FE.PP_SYNC_ERR_CNT]; omega) (portKept_refl n s))
  unfold State.feFrameStart
  rw [ht, if_neg Bool.false_ne_true]
  split
  · exact portKept_refl n s
  · dsimp only
    split
    · exact portKept_feFsErr hfc
    · exact State.when_keeps (portKept_modFrame _ hfc) fun _ => portKept_feFsErr

theorem portKept_feFrameEnd (s : State) (n : Nat) : PortKept n s (s.feFrameEnd n) := by
  unfold State.feFrameEnd
  split
  · exact portKept_refl n s
  · split
    · exact portKept_feFsErr (portKept_refl n s)
    · exact State.when_keeps (portKept_modFrame _ (portKept_refl n s)) fun _ => portKept_feFsErr

theorem portKept_fePresence {n : Nat} {s t : State} (old : Bool) (h : PortKept n s t) : PortKept n s (t.fePresence n old) := by
  unfold State.fePresence
  split
  · exact h
  · exact portKept_event _ h

/-- A run of which no sample was kept is no line (R90). -/
theorem State.ppRun_nil (s : State) (n : Nat) : s.ppRun n [] = s := by simp only [State.ppRun, List.isEmpty_nil, if_true]

/-- A run that ends with samples kept counts, and may be a line (R90, R91). -/
theorem portKept_ppRun (s : State) (n : Nat) {d : List Nat} (hd : d ≠ []) :
    PortKept n (s.modFe n (fun x => { x with ppRuns := x.ppRuns + 1 })) (s.ppRun n d) := by
  unfold State.ppRun
  rw [if_neg (by simpa using hd)]
  dsimp only
  split
  · exact portKept_refl _ _
  · split
    · exact portKept_feLine _ _ _ _ _ _
    · exact portKept_refl _ _

/-! ### An accepted line (R99) -/

/-- A line that is due and new, of a frame whose camera is present, is accepted where it finds room. -/
theorem State.feLine_accepts {s : State} {n e l : Nat} {f : FeFrame} (htakes : s.feTakes n = true) (hf : (s.fes n).frame = some f)
    (habs : f.absent = false) (hl : l < f.height) (hgot : (Map.get {} f.lines (65536 * e + l)).got = false)
    (hdl : (Map.get {} f.lines (65536 * e + l)).dl = false) (hroom : (s.fes n).bufUsed + f.width * ((f.bits + 7) / 8) ≤ 262144)
    (d : List Nat) (crc : Bool) : s.feLine n e l d crc = s.feAccept n e l f d crc := by
  simp only [State.feLine, htakes, hf, habs, hgot, hdl, Nat.not_le.2 hl, Nat.not_lt.2 hroom, Bool.not_true, Bool.false_eq_true,
    Bool.false_and, if_false]

/-- The samples of an accepted line: cut or padded to the width of the frame (R101, R102). -/
theorem State.feAccept_line (s : State) {n : Nat} (e l : Nat) {f : FeFrame} (hf : (s.fes n).frame = some f) (d : List Nat) :
    ∃ g, ((s.feAccept n e l f d false).fes n).frame = some g ∧ (Map.get {} g.lines (65536 * e + l)).got = true ∧
      (Map.get {} g.lines (65536 * e + l)).px =
        (d.take f.width).map (fun v => (v, false)) ++ List.replicate (f.width - d.length) (s.getF (FE.FILL n) 0 24, true) := by
  simp only [State.feAccept, State.modFrame, State.fes_when, State.fes_feDev, State.fes_feFsErr, State.fes_modFe_self, ite_self, hf,
    Option.map_some, Option.some.injEq, exists_eq_left', Map.get_set_self, Bool.false_and, Bool.false_eq_true, if_false, and_self]

/-! ### One pixel clock (R89 to R92) -/

/-- The pixel that the port takes, its low BITS bits (R89). -/
def ppPixel (s : State) (n : Nat) (c : PpClock) : Nat := (ppPins s n c).d.toNat % 2 ^ s.feBits n

theorem ppLine_cons (s : State) (n : Nat) (c : PpClock) (d : List PpClock) : ppLine s n (c :: d) = ppPixel s n c :: ppLine s n d := rfl

/-- The port samples what the pins say, whatever else of its front end has changed. -/
theorem ppLine_modFe (s : State) (n : Nat) (f : FeState → FeState) (d : List PpClock) : ppLine (s.modFe n f) n d = ppLine s n d := by
  simp only [ppLine, ppPins, State.bit_modFe, State.feBits, State.getF_modFe]

/-- An enabled port whose front end is not under test (R88, R465). -/
structure PortRuns (n : Nat) (s : State) : Prop where
  enabled : s.bit (FE.CTL n) 0 = true
  free : s.underTest (8 + n) = false

theorem PortRuns.modFe {n : Nat} {s : State} (h : PortRuns n s) (f : FeState → FeState) : PortRuns n (s.modFe n f) :=
  ⟨by rw [State.bit_modFe, h.enabled], by rw [State.underTest_modFe, h.free]⟩

/-- One pixel clock: PP_VSYNC may start or end a frame, then the sample is taken or ends the run. -/
theorem PortRuns.ppClock_eq {n : Nat} {s : State} (h : PortRuns n s) (c : PpClock) :
    s.ppClock n c =
      let s1 := s.modFe n (fun x => { x with ppVs := ppVsync s n c })
      let s2 := if ppVsync s n c && !(s.fes n).ppVs then s1.ppStart n else if ppVsync s n c then s1 else s1.ppEnd n
      if ppValid s n c then s2.ppTake n (ppVsync s n c) (ppPixel s n c) else s2.ppEndRun n false := by
  have hfree := h.free
  unfold State.ppClock
  rw [h.enabled, if_neg (by simp)]
  show (if (s.modFe n _).underTest (8 + n) = true then _ else _) = _
  rw [if_neg (by simp [hfree])]
  rfl

theorem State.ppEndRun_of_closed {s : State} {n : Nat} (h : (s.fes n).ppOpen = none) (cut : Bool) : s.ppEndRun n cut = s := by
  simp only [State.ppEndRun, h]

theorem State.ppEndRun_of_open {s : State} {n : Nat} {d : List Nat} (h : (s.fes n).ppOpen = some d) :
    s.ppEndRun n false = (s.modFe n (fun x => { x with ppOpen := none })).ppRun n d := by
  simp only [State.ppEndRun, h]
  rfl

/-! ### The edges of PP_VSYNC (R90, R93) -/

@[simp] theorem State.underTest_fePresence (s : State) (n u : Nat) (old : Bool) : (s.fePresence n old).underTest u = s.underTest u := by
  unfold State.fePresence
  split
  · rfl
  · simp only [State.underTest, State.setBit_bist]

theorem portKept_ppStart {s : State} {n : Nat} (hrun : (s.fes n).ppOpen = none) (ht : s.underTest (8 + n) = false) :
    PortKept n (s.modFe n (fun x => { x with ppPresent := true, ppFrame := true, ppRuns := 0, ppFc := (x.ppFc + 1) % 65536 }))
      (s.ppStart n) := by
  unfold State.ppStart
  rw [State.ppEndRun_of_closed hrun]
  have hpres := portKept_fePresence (s.feAbsent n) (portKept_refl n
    (s.modFe n (fun x => { x with ppPresent := true, ppFrame := true, ppRuns := 0, ppFc := ((s.fes n).ppFc + 1) % 65536 })))
  exact portKept_trans hpres (portKept_feFrameStart (by simp [ht]) _)

/-- PP_VSYNC becomes active while no run is in progress: a frame starts. -/
theorem PortRuns.ppClock_start {n : Nat} {s : State} (h : PortRuns n s) {c : PpClock} (hrun : (s.fes n).ppOpen = none)
    (hvs : (s.fes n).ppVs = false) (hactive : ppVsync s n c = true) (hinvalid : ppValid s n c = false) :
    PortKept n (s.modFe n (fun x =>
      { x with ppVs := true, ppPresent := true, ppFrame := true, ppRuns := 0, ppFc := (x.ppFc + 1) % 65536 })) (s.ppClock n c) := by
  have hkept := portKept_ppStart (s := s.modFe n (fun x => { x with ppVs := true })) (n := n) (by simp [hrun]) (by simp [h.free])
  rw [State.modFe_modFe] at hkept
  have hclosed := hkept.closed (by simp [hrun])
  simp only [h.ppClock_eq, hactive, hvs, hinvalid, Bool.not_false, Bool.and_self, Bool.false_eq_true, if_true, if_false]
  rw [State.ppEndRun_of_closed hclosed]
  exact hkept

/-- PP_VSYNC becomes inactive while no run is in progress: the frame ends. -/
theorem PortRuns.ppClock_frameEnd {n : Nat} {s : State} (h : PortRuns n s) {c : PpClock} (hrun : (s.fes n).ppOpen = none)
    (hframe : (s.fes n).ppFrame = true) (hinactive : ppVsync s n c = false) (hinvalid : ppValid s n c = false) :
    PortKept n (s.modFe n (fun x => { x with ppVs := false, ppFrame := false })) (s.ppClock n c) := by
  have hkept := portKept_feFrameEnd (s.modFe n (fun x => { x with ppVs := false, ppFrame := false })) n
  have hclosed := hkept.closed (by simp [hrun])
  simp only [h.ppClock_eq, hinactive, hinvalid, Bool.false_and, Bool.false_eq_true, if_false, State.ppEnd, State.fes_modFe_self, hframe,
    if_true, State.modFe_modFe]
  rw [State.ppEndRun_of_closed hclosed]
  exact hkept

/-! ### A run within a frame (R90) -/

/-- A valid sample of a frame, the port having kept fewer than 4,096 of the run. -/
theorem PortRuns.ppClock_take {n : Nat} {s : State} (h : PortRuns n s) {c : PpClock} (hframe : (s.fes n).ppFrame = true)
    (hvs : (s.fes n).ppVs = true) (hactive : ppVsync s n c = true) (hvalid : ppValid s n c = true)
    (hlen : ((s.fes n).ppOpen.getD []).length < 4096) :
    s.ppClock n c = s.modFe n (fun x => { x with ppVs := true, ppOpen := some (x.ppOpen.getD [] ++ [ppPixel s n c]) }) := by
  have hmore : ¬4096 < ((s.fes n).ppOpen.getD []).length := by omega
  have hroom : ¬((s.fes n).ppOpen.getD []).length = 4096 := by omega
  simp only [h.ppClock_eq, hactive, hvs, hvalid, Bool.not_true, Bool.and_false, Bool.false_eq_true, if_true, if_false]
  simp only [State.ppTake, State.fes_modFe_self, hframe, hmore, hroom, State.modFe_modFe, decide_false, Bool.not_true, Bool.or_false,
    Bool.false_eq_true, if_false, State.ppSync, b2n, if_true]
  exact State.modFe_congr rfl

/-- A front end whose port has ended a run, PP_VSYNC being active. -/
def FeState.runEnded (x : FeState) : FeState := { x with ppVs := true, ppOpen := none }

/-- The sample that ends a run of a frame. -/
theorem PortRuns.ppClock_endRun {n : Nat} {s : State} (h : PortRuns n s) {c : PpClock} (hvs : (s.fes n).ppVs = true)
    (hactive : ppVsync s n c = true) (hinvalid : ppValid s n c = false) {d : List Nat} (hopen : (s.fes n).ppOpen = some d) :
    s.ppClock n c = (s.modFe n FeState.runEnded).ppRun n d := by
  simp only [h.ppClock_eq, hactive, hvs, hinvalid, Bool.not_true, Bool.and_false, Bool.false_eq_true, if_true, if_false]
  rw [State.ppEndRun_of_open (by simpa using hopen), State.modFe_modFe]
  rfl

/-- The valid samples of a run within a frame are kept, up to 4,096. -/
theorem PortRuns.each_ppClock_run {n : Nat} (d : List PpClock) : ∀ {s : State} {c : PpClock}, PortRuns n s →
    (s.fes n).ppFrame = true → (s.fes n).ppVs = true → (∀ x ∈ c :: d, ppVsync s n x = true) → (∀ x ∈ c :: d, ppValid s n x = true) →
    ((s.fes n).ppOpen.getD []).length + (c :: d).length ≤ 4096 →
    s.each (c :: d) (fun s c => s.ppClock n c) =
      s.modFe n (fun x => { x with ppVs := true, ppOpen := some (x.ppOpen.getD [] ++ ppLine s n (c :: d)) }) := by
  induction d with
  | nil =>
    intro s c h hframe hvs hactive hvalid hlen
    simp only [List.length_cons, List.length_nil] at hlen
    rw [State.each_cons, State.each_nil, h.ppClock_take hframe hvs (hactive c (by simp)) (hvalid c (by simp)) (by omega)]
    rfl
  | cons c' d ih =>
    intro s c h hframe hvs hactive hvalid hlen
    simp only [List.length_cons] at hlen
    rw [State.each_cons, h.ppClock_take hframe hvs (hactive c (by simp)) (hvalid c (by simp)) (by omega),
      ih (h.modFe _) (by simp [hframe]) (by simp) (fun x hx => hactive x (List.mem_cons_of_mem _ hx))
        (fun x hx => hvalid x (List.mem_cons_of_mem _ hx)) (by simp; omega), State.modFe_modFe, ppLine_modFe, ppLine_cons s n c]
    simp

/-! ### Samples outside a frame (R92) -/

/-- A valid sample while PP_VSYNC is inactive, no frame of the port having started. -/
theorem PortRuns.ppClock_discard {n : Nat} {s : State} (h : PortRuns n s) {c : PpClock} (hframe : (s.fes n).ppFrame = false)
    (hinactive : ppVsync s n c = false) (hvalid : ppValid s n c = true) :
    s.ppClock n c = (s.modFe n (fun x => { x with ppVs := false, ppOpen := some (x.ppOpen.getD []) })).ppSync n 1 := by
  simp only [h.ppClock_eq, hinactive, hvalid, Bool.false_and, Bool.false_eq_true, if_false, if_true, State.ppEnd, State.fes_modFe_self,
    hframe, State.ppTake, Bool.not_false, State.modFe_modFe]
  exact congrArg (·.ppSync n 1) (State.modFe_congr rfl)

/-- A front end without the level of PP_VSYNC and the run of its port. -/
def FeState.noRun (x : FeState) : FeState := { x with ppVs := false, ppOpen := none }

/-- `k` sync errors of the port: nothing has changed but their count, their event, the level of PP_VSYNC and the run, which holds no
sample more. -/
structure SyncErrors (n k : Nat) (s t : State) : Prop where
  count : t.rd (FE.PP_SYNC_ERR_CNT n) = sat32 (s.rd (FE.PP_SYNC_ERR_CNT n)) k
  event : t.bit (FE.EVT n) 9 = true
  regs : OnlyRegs [FE.PP_SYNC_ERR_CNT n, FE.EVT n] s t
  fes : (t.fes n).noRun = (s.fes n).noRun
  run : (t.fes n).ppOpen = some ((s.fes n).ppOpen.getD [])
  others : OtherFes n s t
  bist : t.bist = s.bist

theorem SyncErrors.trans {n j k : Nat} {s t u : State} (h : SyncErrors n j s t) (h' : SyncErrors n k t u) : SyncErrors n (j + k) s u where
  count := by rw [h'.count, h.count]; simp only [sat32]; omega
  event := h'.event
  regs := fun b hb => (h'.regs b hb).trans (h.regs b hb)
  fes := h'.fes.trans h.fes
  run := by rw [h'.run, h.run]; rfl
  others := otherFes_trans h.others h'.others
  bist := h'.bist.trans h.bist

/-- The control and configuration registers of the front end are as they were. -/
theorem SyncErrors.bit_eq {n k : Nat} {s t : State} (h : SyncErrors n k s t) {a : Nat} (ha : a = FE.CTL n ∨ a = FE.PP_CFG n) (i : Nat) :
    t.bit a i = s.bit a i := by
  have hmem : a ∉ [FE.PP_SYNC_ERR_CNT n, FE.EVT n] := by
    simp only [FE.CTL, FE.PP_CFG] at ha
    simp only [List.mem_cons, List.not_mem_nil, or_false, FE.PP_SYNC_ERR_CNT, FE.EVT]
    omega
  rw [State.bit, State.bit, h.regs a hmem]

theorem SyncErrors.portRuns {n k : Nat} {s t : State} (h : SyncErrors n k s t) (hs : PortRuns n s) : PortRuns n t :=
  ⟨by rw [h.bit_eq (.inl rfl), hs.enabled], by rw [State.underTest, h.bist, ← State.underTest, hs.free]⟩

theorem SyncErrors.ppVsync_eq {n k : Nat} {s t : State} (h : SyncErrors n k s t) (c : PpClock) : ppVsync t n c = ppVsync s n c := by
  simp only [ppVsync, ppPins, h.bit_eq (.inr rfl)]

theorem SyncErrors.ppValid_eq {n k : Nat} {s t : State} (h : SyncErrors n k s t) (c : PpClock) : ppValid t n c = ppValid s n c := by
  simp only [ppValid, ppPins, h.bit_eq (.inr rfl)]

theorem SyncErrors.ppFrame_eq {n k : Nat} {s t : State} (h : SyncErrors n k s t) : (t.fes n).ppFrame = (s.fes n).ppFrame := by
  have hframe := congrArg FeState.ppFrame h.fes
  exact hframe

theorem PortRuns.syncErrors_discard {n : Nat} {s : State} (h : PortRuns n s) {c : PpClock} (hframe : (s.fes n).ppFrame = false)
    (hinactive : ppVsync s n c = false) (hvalid : ppValid s n c = true) : SyncErrors n 1 s (s.ppClock n c) := by
  have hne : FE.PP_SYNC_ERR_CNT n ≠ FE.EVT n := by simp only [FE.PP_SYNC_ERR_CNT, FE.EVT]; omega
  rw [h.ppClock_discard hframe hinactive hvalid, State.ppSync, if_neg (by decide)]
  constructor
  case count => rw [State.rd_setBit_ne _ _ hne, State.rd_incBy_self, State.rd_modFe, sat32]
  case event => exact State.bit_setBit_self _ _ _ (by decide)
  case regs =>
    intro b hb
    simp only [List.mem_cons, List.not_mem_nil, or_false, not_or] at hb
    obtain ⟨hcnt, hevt⟩ := hb
    rw [State.rd_setBit_ne _ _ hevt, State.rd_incBy_ne _ _ hcnt, State.rd_modFe]
  case fes => simp [FeState.noRun]
  case run => simp
  case others => exact otherFes_wr _ _ (otherFes_wr _ _ (otherFes_modFe s n _))
  case bist => simp

theorem PortRuns.syncErrors_run {n : Nat} (d : List PpClock) : ∀ {s : State} {c : PpClock}, PortRuns n s → (s.fes n).ppFrame = false →
    (∀ x ∈ c :: d, ppVsync s n x = false) → (∀ x ∈ c :: d, ppValid s n x = true) →
    SyncErrors n (c :: d).length s (s.each (c :: d) (fun s c => s.ppClock n c)) := by
  induction d with
  | nil =>
    intro s c h hframe hinactive hvalid
    exact h.syncErrors_discard hframe (hinactive c (by simp)) (hvalid c (by simp))
  | cons c' d ih =>
    intro s c h hframe hinactive hvalid
    have hfirst := h.syncErrors_discard hframe (hinactive c (by simp)) (hvalid c (by simp))
    have hrest := ih (c := c') (hfirst.portRuns h) (hfirst.ppFrame_eq.trans hframe)
      (fun x hx => (hfirst.ppVsync_eq x).trans (hinactive x (List.mem_cons_of_mem _ hx)))
      (fun x hx => (hfirst.ppValid_eq x).trans (hvalid x (List.mem_cons_of_mem _ hx)))
    rw [State.each_cons, List.length_cons, Nat.add_comm]
    exact hfirst.trans hrest

/-- An invalid sample while PP_VSYNC is inactive ends a run of which no sample was kept. -/
theorem PortRuns.ppClock_endDiscarded {n : Nat} {s : State} (h : PortRuns n s) {c : PpClock} (hframe : (s.fes n).ppFrame = false)
    (hinactive : ppVsync s n c = false) (hinvalid : ppValid s n c = false) (hopen : (s.fes n).ppOpen = some []) :
    s.ppClock n c = s.modFe n FeState.noRun := by
  simp only [h.ppClock_eq, hinactive, hinvalid, Bool.false_and, Bool.false_eq_true, if_false, State.ppEnd, State.fes_modFe_self, hframe]
  rw [State.ppEndRun_of_open (d := []) (by simpa using hopen), State.ppRun_nil, State.modFe_modFe]
  rfl

/-! ### The line of a run (R90, R91, R99) -/

/-- Run number PP_TIMING.SKIP + l × NEXP + x is line `l` of exposure `x`. -/
theorem State.ppRun_line {s : State} {n l x : Nat} {f : FeFrame} {d : List Nat} (hd : d ≠ []) (hlen : d.length ≤ 4096)
    (hrun : (s.fes n).ppRuns = s.getF (FE.PP_TIMING n) 0 8 + l * s.ppNexp n + x) (hx : x < s.ppNexp n)
    (hexp : x < s.getF (FE.MERGE_CFG n) 0 2) (htakes : s.feTakes n = true) (hf : (s.fes n).frame = some f) (habs : f.absent = false)
    (hl : l < f.height) (hgot : (Map.get {} f.lines (65536 * x + l)).got = false)
    (hdl : (Map.get {} f.lines (65536 * x + l)).dl = false) (hroom : (s.fes n).bufUsed + f.width * ((f.bits + 7) / 8) ≤ 262144) :
    s.ppRun n d = (s.modFe n (fun y => { y with ppRuns := y.ppRuns + 1 })).feAccept n x l f d false := by
  have hskip : ¬(s.fes n).ppRuns < s.getF (FE.PP_TIMING n) 0 8 := by omega
  have hnum : (s.fes n).ppRuns - s.getF (FE.PP_TIMING n) 0 8 = x + s.ppNexp n * l := by rw [hrun, Nat.mul_comm l]; omega
  have hmod : (x + s.ppNexp n * l) % s.ppNexp n = x := by rw [Nat.add_mul_mod_self_left, Nat.mod_eq_of_lt hx]
  have hdiv : (x + s.ppNexp n * l) / s.ppNexp n = l := by
    rw [Nat.add_mul_div_left _ _ (by omega), Nat.div_eq_of_lt hx, Nat.zero_add]
  have hnexp : (s.modFe n (fun y => { y with ppRuns := y.ppRuns + 1 })).ppNexp n = s.ppNexp n := by simp [State.ppNexp]
  unfold State.ppRun
  rw [if_neg (by simpa using hd)]
  simp only [State.getF_modFe, hnexp, if_neg hskip, hnum, hmod, hdiv, if_pos hexp, List.take_of_length_le hlen]
  refine State.feLine_accepts ?_ (by simpa using hf) habs hl hgot hdl ?_ d false
  · simpa [State.feTakes] using htakes
  · simpa [FeState.bufUsed] using hroom

end Sys2Proof.Machine
end

section
/-! PROOFS. The commands of the parallel ports, and the writes of the front ends' tables (R90 to R93, R129). -/

namespace Sys2Proof.Machine

/-! ### The commands of a port -/

theorem exec_ppFrameStart (s : State) (p : Fin 2) (clocks : List PpClock) :
    exec (.ppFrameStart p clocks) s = .next (s.each clocks (fun s c => s.ppClock (16 + p) c)) := rfl

theorem exec_ppLineRun (s : State) (p : Fin 2) (clocks : List PpClock) :
    exec (.ppLineRun p clocks) s = .next (s.each clocks (fun s c => s.ppClock (16 + p) c)) := rfl

theorem exec_ppFrameEnd (s : State) (x : PpRun) :
    exec (.ppFrameEnd x) s = .next (s.each x.clocks (fun s c => s.ppClock (16 + x.p) c)) := rfl

theorem exec_ppAbsent (s : State) (p : Fin 2) : exec (.ppAbsent p) s = .next (s.ppLose (16 + p)) := rfl

theorem State.each_append {α : Type} (s : State) (l m : List α) (f : State → α → State) :
    s.each (l ++ m) f = (s.each l f).each m f :=
  List.foldl_append

/-- A run of a frame, and the sample that ends it. -/
theorem PortRuns.each_ppClock_line {n : Nat} {s : State} (h : PortRuns n s) {d : List PpClock} {e : PpClock}
    (hclosed : (s.fes n).ppOpen = none) (hvalid : ∀ c ∈ d, ppValid s n c = true) (hinvalid : ppValid s n e = false) (hd : d ≠ [])
    (hframe : (s.fes n).ppFrame = true) (hvs : (s.fes n).ppVs = true) (hactive : ∀ c ∈ e :: d, ppVsync s n c = true)
    (hlen : d.length ≤ 4096) :
    s.each (d ++ [e]) (fun s c => s.ppClock n c) = (s.modFe n FeState.runEnded).ppRun n (ppLine s n d) := by
  obtain ⟨c, rest, rfl⟩ := List.exists_cons_of_ne_nil hd
  have hrun := h.each_ppClock_run rest hframe hvs (fun x hx => hactive x (List.mem_cons_of_mem _ hx)) hvalid (by simpa [hclosed] using hlen)
  rw [State.each_append, hrun, State.each_cons, State.each_nil,
    (h.modFe _).ppClock_endRun (d := ppLine s n (c :: rest)) (by simp) (hactive e (by simp)) hinvalid (by simp [hclosed]),
    State.modFe_modFe]
  rfl

/-- A run outside a frame, and the sample that ends it: a sync error for each valid sample. -/
theorem PortRuns.each_ppClock_discarded {n : Nat} {s : State} (h : PortRuns n s) {d : List PpClock} {e : PpClock}
    (hclosed : (s.fes n).ppOpen = none) (hvalid : ∀ c ∈ d, ppValid s n c = true) (hinvalid : ppValid s n e = false) (hd : d ≠ [])
    (hframe : (s.fes n).ppFrame = false) (hinactive : ∀ c ∈ e :: d, ppVsync s n c = false) :
    ∃ u, SyncErrors n d.length s u ∧ s.each (d ++ [e]) (fun s c => s.ppClock n c) = u.modFe n FeState.noRun := by
  obtain ⟨c, rest, rfl⟩ := List.exists_cons_of_ne_nil hd
  have hrun := h.syncErrors_run rest hframe (fun x hx => hinactive x (List.mem_cons_of_mem _ hx)) hvalid
  refine ⟨_, hrun, ?_⟩
  rw [State.each_append, State.each_cons, State.each_nil]
  exact (hrun.portRuns h).ppClock_endDiscarded (hrun.ppFrame_eq.trans hframe) ((hrun.ppVsync_eq e).trans (hinactive e (by simp)))
    ((hrun.ppValid_eq e).trans hinvalid) (by rw [hrun.run, hclosed]; rfl)

/-! ### The loss of a port (R93) -/

@[simp] theorem State.fes_fePresence (s : State) (n m : Nat) (old : Bool) : (s.fePresence n old).fes m = s.fes m := by
  unfold State.fePresence
  split <;> simp

theorem State.rd_fePresence_ne (s : State) {n b : Nat} (old : Bool) (hb : b ≠ FE.EVT n) : (s.fePresence n old).rd b = s.rd b := by
  unfold State.fePresence
  split
  · rfl
  · exact State.rd_setBit_ne _ _ hb

theorem otherFes_fePresence {n : Nat} {s t : State} (old : Bool) (h : OtherFes n s t) : OtherFes n s (t.fePresence n old) := by
  unfold State.fePresence
  split
  · exact h
  · exact otherFes_wr _ _ h

/-- A port that was present becomes absent. -/
theorem State.ppLose_of_present {s : State} {n : Nat} (h : (s.fes n).ppPresent = true) :
    s.ppLose n = ((s.modFe n (fun x => { x with ppPresent := false })).inc (FE.PP_LOSS_CNT n)).fePresence n (s.feAbsent n) := by
  simp only [State.ppLose, h, if_true]

end Sys2Proof.Machine

namespace Sys2Proof

open Sys2Proof.Machine

theorem parallelPort : ParallelPort := by
  rintro s p n rfl henabled hfree
  have hport : PortRuns (16 + p) s := ⟨henabled, hfree⟩
  refine ⟨fun e hclosed hvs hactive hinvalid => ?start, fun d e hclosed hvalid hinvalid hd => ⟨fun hframe hvs hactive hlen => ?line,
    fun hframe hinactive => ?discarded⟩, fun e hclosed hframe hinactive hinvalid => ?frameEnd, fun hpresent => ?absent⟩
  case start =>
    have hkept := hport.ppClock_start hclosed hvs hactive hinvalid
    obtain ⟨hpresent, hframe, hlevel, -, hruns, hfc⟩ := FeState.port_inj.1 hkept.port
    rw [State.fes_modFe_self] at hpresent hframe hlevel hruns hfc
    exact ⟨_, exec_ppFrameStart s p [e], hpresent, hframe, hlevel, hruns, hfc, otherFes_trans (otherFes_modFe _ _ _) hkept.others⟩
  case line =>
    refine ⟨_, exec_ppLineRun s p (d ++ [e]), ?_⟩
    rw [hport.each_ppClock_line hclosed hvalid hinvalid hd hframe hvs hactive hlen]
    have hline : ppLine s (16 + p) d ≠ [] := by simpa [ppLine] using hd
    have hkept := portKept_ppRun (s.modFe (16 + p) FeState.runEnded) (16 + p) hline
    rw [State.modFe_modFe] at hkept
    obtain ⟨-, -, -, hopen, hruns, -⟩ := FeState.port_inj.1 hkept.port
    rw [State.fes_modFe_self] at hopen hruns
    refine ⟨hruns, hopen, hkept.syncErrs, otherFes_trans (otherFes_modFe _ _ _) hkept.others, ?_⟩
    intro f l x hnum hx hexp hscene hf habs hl hgot hdl hroom
    have hlength : (ppLine s (16 + p) d).length = d.length := by simp [ppLine]
    rw [State.ppRun_line (s := s.modFe (16 + p) FeState.runEnded) (l := l) (x := x) (f := f) hline (by omega)
      (by simpa [State.ppNexp, FeState.runEnded] using hnum) hx hexp (by simp [State.feTakes, FeState.runEnded, hscene, henabled, hfree])
      (by simp [FeState.runEnded, hf]) habs hl hgot hdl (by simpa [FeState.bufUsed, FeState.runEnded] using hroom),
      State.modFe_modFe, ← hlength]
    exact State.feAccept_line _ x l (by simp [FeState.runEnded, hf]) _
  case discarded =>
    obtain ⟨u, herr, hend⟩ := hport.each_ppClock_discarded hclosed hvalid hinvalid hd hframe hinactive
    refine ⟨_, exec_ppLineRun s p (d ++ [e]), ?_⟩
    rw [hend]
    refine ⟨herr.count, herr.event, herr.regs, ?_, otherFes_trans herr.others (otherFes_modFe _ _ _)⟩
    rw [State.fes_modFe_self, herr.fes]
    simp [FeState.noRun, hclosed]
  case frameEnd =>
    have hkept := hport.ppClock_frameEnd hclosed hframe hinactive hinvalid
    obtain ⟨-, hended, hlevel, -, -, -⟩ := FeState.port_inj.1 hkept.port
    rw [State.fes_modFe_self] at hended hlevel
    exact ⟨_, exec_ppFrameEnd s ⟨p, [e]⟩, hended, hlevel, otherFes_trans (otherFes_modFe _ _ _) hkept.others⟩
  case absent =>
    refine ⟨_, exec_ppAbsent s p, ?_⟩
    have hne : FE.PP_LOSS_CNT (16 + p) ≠ FE.EVT (16 + p) := by simp only [FE.PP_LOSS_CNT, FE.EVT]; omega
    rw [State.ppLose_of_present hpresent]
    refine ⟨by simp, ?_, otherFes_fePresence _ (otherFes_wr _ _ (otherFes_modFe _ _ _))⟩
    rw [State.rd_fePresence_ne _ _ hne, State.rd_inc_self, State.rd_modFe, sat32]

end Sys2Proof

namespace Sys2Proof.Machine

/-! ### The tables (R129) -/

theorem exec_feTableWrite (s : State) (n : Fin 18) (dpc : Bool) (i : Nat) (v : Word) :
    exec (.feTableWrite n dpc i v) s =
      .next (s.served (if dpc then FE.DPC_MAP n i else FE.LSC_GAIN n i)
        (·.feTableWrite n (if dpc then FE.DPC_MAP n i else FE.LSC_GAIN n i) v.toNat)) := rfl

theorem State.feTableWrite_taken {s : State} {n : Nat} (h : (s.fes n).inScene = false ∨ s.mode = 6) (a v : Nat) :
    s.feTableWrite n a v = s.plainWrite a v := by
  rw [State.feTableWrite, if_pos (by simpa using h)]

theorem State.feTableWrite_refused {s : State} {n : Nat} (hscene : (s.fes n).inScene = true) (hmode : s.mode ≠ 6) (a v : Nat) :
    s.feTableWrite n a v = s.setBit (FE.EVT n) 10 := by
  rw [State.feTableWrite, if_neg (by simp [hscene, hmode])]

/-! The rows of the two tables in the register table of a front end. -/

/-- A row of one dimension covers no offset beyond its last word. -/
theorem RegDef.le_of_covers {d : RegDef} (h2 : d.s2 = 0) (h3 : d.s3 = 0) {o : Nat} (h : d.covers o = true) :
    o ≤ d.off + d.n1 * d.s1 := by
  unfold RegDef.covers at h
  split at h
  · omega
  · simp only [h2, h3, Nat.sub_zero, Nat.mul_zero, Bool.and_eq_true, decide_eq_true_eq, beq_iff_eq] at h
    obtain ⟨⟨⟨hi, -⟩, -⟩, hzero⟩ := h
    have hle := Nat.mul_le_mul_right d.s1 (Nat.le_of_lt hi)
    omega

/-- A row of `n1` words. -/
def RegDef.IsWords (d : RegDef) : Prop := d.s1 = 4 ∧ d.n2 = 1 ∧ d.s2 = 0 ∧ d.n3 = 1 ∧ d.s3 = 0

theorem RegDef.IsWords.covers {d : RegDef} (h : d.IsWords) {i : Nat} (hi : i < d.n1) : d.covers (d.off + 4 * i) = true := by
  obtain ⟨h1, hn2, h2, hn3, h3⟩ := h
  have hword : 4 * i / 4 = i := by omega
  simp [RegDef.covers, h1, hn2, h2, hn3, h3, hword, hi, Nat.mul_comm i]

/-- A word of a row is found there where the rows before it end below. -/
theorem find_covers_words {low high : List RegDef} {d : RegDef}
    (hlow : ∀ x ∈ low, x.s2 = 0 ∧ x.s3 = 0 ∧ x.off + x.n1 * x.s1 < d.off)
    (hd : d.IsWords) {i : Nat} (hi : i < d.n1) : (low ++ d :: high).find? (fun x => x.covers (d.off + 4 * i)) = some d := by
  have hnone : low.find? (fun x => x.covers (d.off + 4 * i)) = none := by
    rw [List.find?_eq_none]
    intro x hx hcov
    obtain ⟨h2, h3, hend⟩ := hlow x hx
    have hle := RegDef.le_of_covers h2 h3 hcov
    omega
  rw [List.find?_append, hnone, Option.none_or]
  exact List.find?_cons_of_pos (p := fun x : RegDef => x.covers (d.off + 4 * i)) (hd.covers hi)

/-- The row of FE.LSC_GAIN. -/
def lscRow : RegDef := { off := 0x1000, n1 := 578, s1 := 4, rw := 0xffffffff, reset := 0x10001000 }

/-- The row of FE.DPC_MAP. -/
def dpcRow : RegDef := { off := 0x8000, n1 := 4096, s1 := 4, rw := 0x9fff1fff }

theorem windowOf_fe {n o : Nat} (hn : n < 18) (ho : o < 0x10000) :
    windowOf (0x10200000 + 0x10000 * n + o) = some (regsFE, 0x10200000 + 0x10000 * n) := by
  have hbase : 0x10200000 + (0x10200000 + 0x10000 * n + o - 0x10200000) / 0x10000 * 0x10000 = 0x10200000 + 0x10000 * n := by omega
  unfold windowOf
  rw [if_neg (by omega), if_neg (by omega), if_neg (by omega), if_neg (by omega), if_pos (by omega), hbase]

/-- The row of a word of a front end's window. -/
theorem regDefAt_fe {n o : Nat} (hn : n < 18) (ho : o < 0x10000) {d : RegDef} (hd : regsFE.find? (fun x => x.covers o) = some d) :
    regDefAt (0x10200000 + 0x10000 * n + o) = some d := by
  simp only [regDefAt, windowOf_fe hn ho, Nat.add_sub_cancel_left, hd]

theorem regDefAt_lscGain {n i : Nat} (hn : n < 18) (hi : i < 578) : regDefAt (FE.LSC_GAIN n i) = some lscRow := by
  have ha : FE.LSC_GAIN n i = 0x10200000 + 0x10000 * n + (0x1000 + 4 * i) := by simp only [FE.LSC_GAIN]; omega
  rw [ha]
  exact regDefAt_fe hn (by omega) (find_covers_words (low := regsFE.take 28) (high := [dpcRow]) (d := lscRow) (by decide)
    ⟨rfl, rfl, rfl, rfl, rfl⟩ hi)

theorem regDefAt_dpcMap {n i : Nat} (hn : n < 18) (hi : i < 4096) : regDefAt (FE.DPC_MAP n i) = some dpcRow := by
  have ha : FE.DPC_MAP n i = 0x10200000 + 0x10000 * n + (0x8000 + 4 * i) := by simp only [FE.DPC_MAP]; omega
  rw [ha]
  exact regDefAt_fe hn (by omega) (find_covers_words (low := regsFE.take 29) (high := []) (d := dpcRow) (by decide)
    ⟨rfl, rfl, rfl, rfl, rfl⟩ hi)

/-- Among the bits of a row that software writes, a plain write leaves what is written (R10). -/
theorem State.rd_plainWrite_and {a : Nat} {d : RegDef} (hd : regDefAt a = some d) (hen : d.Enables) (s : State) (v : Nat) {m : Nat}
    (hm : m < 2 ^ 32) (hsub : m &&& (d.rw ||| d.rws) = m) : (s.plainWrite a v).rd a &&& m = v &&& m := by
  simp only [State.plainWrite, hd, State.rd_wr_self]
  refine Nat.eq_of_testBit_eq fun i => ?_
  simp only [Nat.testBit_and, Nat.testBit_mod_two_pow]
  cases hmi : m.testBit i
  · rw [Bool.and_false, Bool.and_false]
  · have hi : i < 32 := (Nat.pow_lt_pow_iff_right (a := 2) (by decide)).1 (Nat.lt_of_le_of_lt (Nat.ge_two_pow_of_testBit hmi) hm)
    have hrow : (d.rw ||| d.rws).testBit i = true := by
      simpa [hmi] using congrArg (·.testBit i) hsub
    rw [hen.testBit_written _ _ hi, if_pos hrow, decide_eq_true hi, Bool.true_and]

theorem onlyRegs_plainWrite (s : State) (a v : Nat) : OnlyRegs [a] s (s.plainWrite a v) := fun b hb => by
  have hne : b ≠ a := by simpa using hb
  unfold State.plainWrite
  split
  · rfl
  · exact State.rd_wr_ne _ _ hne

@[simp] theorem State.plainWrite_fe (s : State) (a v : Nat) : (s.plainWrite a v).fe = s.fe := by
  unfold State.plainWrite
  split <;> simp

end Sys2Proof.Machine

namespace Sys2Proof

open Sys2Proof.Machine

theorem frontEndTables : FrontEndTables := by
  intro s n v
  refine ⟨fun hopen => ⟨fun i hi hs => ?lsc, fun i hi hs => ?dpc⟩, fun hscene hmode dpc i hs => ?refused⟩
  case lsc =>
    refine ⟨_, exec_feTableWrite s n false i v, ?_⟩
    rw [if_neg Bool.false_ne_true, State.served_of_served hs, State.feTableWrite_taken hopen]
    refine ⟨?_, onlyRegs_plainWrite s _ _, by simp⟩
    have hword := State.rd_plainWrite_and (regDefAt_lscGain n.isLt hi) ⟨rfl, rfl⟩ s v.toNat (m := 2 ^ 32 - 1) (by decide) (by decide)
    rwa [Nat.and_two_pow_sub_one_eq_mod, Nat.and_two_pow_sub_one_eq_mod, Nat.mod_eq_of_lt (State.rd_lt _ _), Nat.mod_eq_of_lt v.isLt]
      at hword
  case dpc =>
    refine ⟨_, exec_feTableWrite s n true i v, ?_⟩
    rw [if_pos rfl, State.served_of_served hs, State.feTableWrite_taken hopen]
    exact ⟨State.rd_plainWrite_and (regDefAt_dpcMap n.isLt hi) ⟨rfl, rfl⟩ s v.toNat (by decide) (by decide),
      onlyRegs_plainWrite s _ _, by simp⟩
  case refused =>
    refine ⟨_, exec_feTableWrite s n dpc i v, ?_⟩
    rw [State.served_of_served hs, State.feTableWrite_refused hscene hmode]
    refine ⟨State.bit_setBit_self _ _ _ (by decide), fun b hb => ?_, by simp⟩
    exact State.rd_setBit_ne _ _ (by simpa using hb)

/-- Settles O21: the port takes its input clock by clock, and the tables take writes only outside the scene or in MAINTENANCE. -/
theorem parallelPortAndTables : Obligations.ParallelPortAndTables := ⟨parallelPort, frontEndTables⟩

end Sys2Proof
end
